-- ==== Sys2Proof/Word.lean ====
section
/-! DEFINITION. The word types of the SX8: bytes, the 32-bit registers of control space (R577) and the
64-bit scalars of Finern (R227). -/
namespace Sys2Proof

/-- One byte, the smallest addressable unit (R12). -/
abbrev Byte := BitVec 8

/-- One control-space register (R577). -/
abbrev Word32 := BitVec 32

/-- One Finern scalar register (R227). -/
abbrev Word64 := BitVec 64

/-- A sparse table by number: rising keys; a number not listed holds the table's reset entry. -/
abbrev Table (α : Type) := List (Nat × α)

/-- Add one to a 32-bit counter that saturates at 0xFFFF_FFFF. -/
def satInc (n : Nat) : Nat := min (n + 1) 0xFFFFFFFF

/-- Add `k` to a 32-bit counter that saturates at 0xFFFF_FFFF. -/
def satAdd (n k : Nat) : Nat := min (n + k) 0xFFFFFFFF

end Sys2Proof
end

