-- ==== Sys2Proof/Machine/PortState.lean ====
section
/-! DEFINITION. The state of what faces the outside: security and firmware (chapter 16), the Berif sessions and
conversations (chapter 14), data ports and the management port (chapter 15). Plain data only. -/
namespace Sys2Proof.Machine

/-! ### Security and firmware (chapter 16) -/

/-- LIFECYCLE of the part (R511). -/
inductive Lifecycle where
  | unowned | owned
  deriving DecidableEq, Repr

/-- SEC_STATUS.MODE (R546). -/
inductive SecMode where
  | normal | debug | recovery | error
  deriving DecidableEq, Repr

/-- One owner trust anchor slot in OTP (R511, R514). -/
structure Anchor where
  /-- SHA-384 of the anchor. -/
  hash : Nat
  /-- The highest role the anchor may give. -/
  ceiling : Nat
  present : Bool
  revoked : Bool
  /-- A burn of the slot failed (R513). -/
  lost : Bool
  deriving DecidableEq, Repr

/-- One CAK record of the flash key store (R520). -/
structure CakRecord where
  port : Nat
  ckn : Nat
  cak : Nat
  prio : Nat
  /-- The key was added in MODE DEBUG. -/
  debugKey : Bool
  deriving DecidableEq, Repr

/-- The descriptor of one firmware component (R530): its DIGEST as one number. -/
structure FwComponent where
  type : Nat
  svn : Nat
  offset : Nat
  length : Nat
  digest : Nat
  deriving DecidableEq, Repr

/-- A firmware header as the boot ROM and the loader read it (R529): reserved fields and zero areas all zero or not, the
SHA-384 of KEY, and whether SIG verifies under KEY. -/
structure FwHeader where
  magic : Nat
  format : Nat
  version : Nat
  build : Nat
  payloadLength : Nat
  reservedZero : Bool
  components : List FwComponent
  keyHash : Nat
  sig : Nat
  signatureOk : Bool
  deriving DecidableEq, Repr

/-- The state of a firmware conversation (R533); ACTIVATING is STAGED with an activation under way. -/
inductive FwState where
  | none | receiving | writing | staged | failed
  deriving DecidableEq, Repr

/-- The firmware conversation (R533). -/
structure FwConv where
  st : FwState
  header : Option FwHeader
  /-- The staging buffer: payload bytes received, in the canonical form of a memory. -/
  buf : List (Nat × Byte)
  /-- 64-byte units of the payload written at least once. -/
  units : List Nat
  /-- Components verified, bit i for component i. -/
  verified : Nat
  flashWritten : Nat
  failStatus : Nat
  /-- Real time of the last accepted request (R470). -/
  touchedAt : Nat
  deriving DecidableEq, Repr

/-- An ACTIVATE accepted and not yet done (R540): instants in Meridian Tc from frame 0. -/
structure Activation where
  drain : Bool
  /-- Q, once it is known. -/
  q : Option Nat
  /-- DRAIN_LIMIT from acceptance. -/
  limitAt : Nat
  deriving DecidableEq, Repr

/-- The security block (R546) with hub OTP (R511, R516, R524) and board flash (R527). -/
structure Security where
  lifecycle : Lifecycle
  anchors : List Anchor
  deviceId : Nat
  macBase : Nat
  vendorAnchor : Nat
  stepping : Nat
  identityDigest : Nat
  certChain : List Byte
  /-- GRADE in OTP: 2, 4, 6 or 8 dies (R1). -/
  grade : Nat
  /-- Anti-rollback counters ARB0-2 (R524). -/
  arb : List Nat
  mode : SecMode
  trngWarn : Bool
  otpBurnFail : Bool
  rollback : Bool
  sigFail : Bool
  migrating : Bool
  /-- DRBG output is stopped (R523). -/
  drbgStopped : Bool
  retestFails : Nat
  /-- Real time of the last test of the TRNG (R523). -/
  retestAt : Nat
  /-- The CLAIM mode of R512 holds. -/
  claim : Bool
  selfTest : Nat
  fwVersion : Nat
  fwBuild : Nat
  svnRun : List Nat
  bootAttempts : Nat
  keystore : List CakRecord
  keystoreWrites : Nat
  otpBurnFailCount : Nat
  sigFailCount : Nat
  trngFailCount : Nat
  logTagFailCount : Nat
  measLoader : Nat
  measHub : Nat
  measDie : Nat
  fw : FwConv
  /-- GEN of the directory copies last written, and the VERSION directory copy B held at the last boot (R535, R542). -/
  flashGen : Nat
  recordedB : Nat
  /-- The component areas of board flash are partly overwritten (R535, R545). -/
  flashTorn : Bool
  activation : Option Activation
  /-- The scope of a debug token accepted and waiting for the next hub restart (R543, R544). -/
  debugNext : Option Nat
  /-- The scope open now, in MODE DEBUG (R544). -/
  debugScope : Nat
  deriving DecidableEq, Repr

/-! ### The Berif sessions (chapter 14) -/

/-- The role of a session (R456): Owner above Operator above Maintainer above Observer. -/
inductive Role where
  | observer | maintainer | operator | owner
  deriving DecidableEq, Repr

/-- An answer kept for a retransmission (R461). -/
structure CachedReply where
  seq : Nat
  fingerprint : Nat
  cmd : Nat
  status : Nat
  words : List Nat
  deriving DecidableEq, Repr

/-- A notice sent to a session and not yet acknowledged (R469). -/
structure NoticeSend where
  nSeq : Nat
  sends : Nat
  /-- Real time of the last send. -/
  sentAt : Nat
  deriving DecidableEq, Repr

/-- One session table entry (R474). -/
structure Session where
  inUse : Bool
  role : Role
  /-- 0 port A, 1 port B. -/
  port : Nat
  id : Nat
  /-- BASE: the lowest SEQ not yet executed (R459, R460). -/
  base : Nat
  /-- SHA-384 of the host's leaf key (R458) and of its root's key (R456, R512). -/
  key : Nat
  root : Nat
  /-- The anchor slot of the root (R513, R515). -/
  anchor : Nat
  payload : Nat
  blockSize : Nat
  /-- RECORD numbers received (R453): one more than the highest, and those seen. -/
  recHigh : Nat
  recSeen : List Nat
  /-- DATA datagrams sent to it (R455). -/
  txRecord : Nat
  cache : List CachedReply
  /-- A request whose reply waits: its SEQ and fingerprint (R460, R462). -/
  busy : Option (Nat × Nat)
  notices : List NoticeSend
  /-- Real time of the last valid DATA datagram (R458). -/
  lastValid : Nat
  /-- The session's own TTW_SEL.BANK (R583). -/
  bank : Nat
  deriving DecidableEq, Repr

/-- A handshake in progress (R454, R457): one that has its ACCEPT and waits for FINISH. (DESIGN CHOICE, assumption log 93.)
-/
structure Handshake where
  port : Nat
  peer : Nat
  nonce : Nat
  key : Nat
  root : Nat
  anchor : Nat
  role : Role
  id : Nat
  payload : Nat
  /-- Validity periods were not checked (R456). -/
  noTime : Bool
  /-- Real time of its HELLO (R457). -/
  since : Nat
  deriving DecidableEq, Repr

/-- The state of a claim conversation (R471). -/
inductive ClaimState where
  | opened | queued | evaluating | accepted | refused
  deriving DecidableEq, Repr

/-- The BCP block (R474). -/
structure Bcp where
  ctrl : Nat
  udpPort : Nat
  idle : Nat
  hold : Nat
  payloadA : Nat
  payloadB : Nat
  hsFailF : Bool
  tagFailF : Bool
  supersededF : Bool
  hsFailCount : Nat
  tagFailCount : Nat
  replayDropCount : Nat
  rejectCount : Nat
  badSeqCount : Nat
  notimeSessions : Nat
  /-- Datagrams discarded for their outer form or length (R453): the spec names no register for the count. -/
  discards : Nat
  sessions : Table Session
  handshakes : List Handshake
  /-- The REJECTs sent in the last second (R453): peer and real time. -/
  rejectTimes : List (Nat × Nat)
  deriving DecidableEq, Repr

/-! ### Data ports and the management port (chapter 15) -/

/-- PORT_STATUS.STATE (R503). -/
inductive PortSt where
  | off | down | training | up | upDegraded
  deriving DecidableEq, Repr

/-- A data port (R503) with its MACsec channel (R497). -/
structure Port where
  st : PortSt
  lanes : Nat
  rate : Nat
  ip4 : Nat
  ip6 : List Nat
  unknownDrop : Nat
  malformedDrop : Nat
  policeDrop : Nat
  lateDrop : Nat
  quarDrop : Nat
  dupDrop : Nat
  fecUncorr : Nat
  linkDown : Nat
  sakInstalled : Bool
  sakSci : Nat
  mkaPeer : Option Nat
  mkaMsgNo : Nat
  /-- Real time of the live peer's last MKPDU (R497). -/
  mkaAt : Nat
  /-- Real time at which the last training failed (R479). -/
  downAt : Nat
  /-- The training under way is the silent one of R479. -/
  retry : Bool
  deriving DecidableEq, Repr

/-- A partner entry (R496, R503), with its policer (R495). -/
structure Partner where
  port : Nat
  /-- 0 unused, 1 active, 2 quarantined. -/
  st : Nat
  mac : Nat
  /-- Real times of the quarantines in 24 h, and the last hold in s. -/
  quarTimes : List Nat
  hold : Nat
  /-- Violations in the current second, and when that second began. -/
  viol : Nat
  violAt : Nat
  /-- The policer's bucket, in bytes × 100 × Tc of a frame, and when it was last drained. -/
  level : Nat
  levelAt : Nat
  deriving DecidableEq, Repr

/-- A result destination (R504), word by word. -/
structure ResultDest where
  w : List Nat
  deriving DecidableEq, Repr

/-- An ingress binding (R504), word by word. -/
structure InBind where
  w : List Nat
  deriving DecidableEq, Repr

/-- The batches a stream is filling, the current one and the next (R490 to R494). -/
structure Batch where
  /-- The beat number of the current batch. -/
  beat : Nat
  /-- Tokens complete: beat number and token. -/
  tokens : List (Nat × Nat)
  /-- Fronthaul tokens in part: beat number, token, bit set of the PRBs received. -/
  part : List (Nat × Nat × Nat)
  /-- What was received (R491, duplicates of R495), with its beat number. -/
  seen : List (Nat × List Nat)
  /-- Incomplete batches in a row (R494). -/
  incomplete : Nat
  inputLost : Bool
  /-- End, in Tc from frame 0, of the interval in which results carry INPUT_MISSING (R493). -/
  missUntil : Nat
  deriving DecidableEq, Repr

/-- The data port block (R503). -/
structure DataPorts where
  degradedF : Bool
  linkLostF : Bool
  quarantineF : Bool
  inputLostF : Bool
  quadCfg : List Nat
  trainLimit : Nat
  ingressMargin : Nat
  streamTimeout : Nat
  policeSlack : Nat
  quarThr : Nat
  quarHold : Nat
  egressOversize : Nat
  /-- Frames discarded for a port that was down (R480): the spec names no register for the count. -/
  downDrops : Nat
  /-- Real time of the last MKA hello (R497). -/
  helloAt : Nat
  ports : Table Port
  partners : Table Partner
  dests : Table ResultDest
  binds : Table InBind
  batches : Table Batch
  deriving DecidableEq, Repr

/-- An item pending for the port B reports (R501): its kind and its 64-bit words. -/
structure ReportItem where
  kind : Nat
  words : List Nat
  deriving DecidableEq, Repr

/-- Ports A and B and the report stream (R499 to R505). (DESIGN CHOICE, assumption log 89.) -/
structure Pab where
  linkA : Bool
  linkB : Bool
  linkAF : Bool
  linkBF : Bool
  cfg : Nat
  aIp4 : Nat
  bIp4 : Nat
  aIp6 : List Nat
  bIp6 : List Nat
  collIp : List (List Nat)
  collCfg : List Nat
  rseq : Nat
  rseqLatch : Nat
  /-- When the last report datagram left (R502). -/
  sentAt : Option Nat
  reportDrop : Nat
  bootId : Nat
  /-- Items pending, oldest first (R502). -/
  items : List ReportItem
  /-- Items dropped and not yet reported (R502). -/
  lost : Nat
  /-- Datagrams of the second under way by port and source: when the second began, and how many (R500). -/
  sources : List (Nat × Nat × Nat × Nat)
  /-- Datagrams discarded (R500): the spec names no register for the count. -/
  discards : Nat
  deriving DecidableEq, Repr

end Sys2Proof.Machine
end

