-- ==== Sys2Proof/Machine/AdmitState.lean ====
section
/-! DEFINITION. The state of admission (chapter 10), of the model manager (chapter 12), of fault reporting
(chapter 13) and of HBM (chapters 08 and 18). Plain data only. -/
namespace Sys2Proof.Machine

/-! ### Claims and streams (chapter 10) -/

/-- A window of a program slot or of a region: base and size in the units of its register (R264, R318). -/
structure Window where
  base : Nat
  size : Nat
  /-- Read right (HBM window) or EN (receive window). -/
  read : Bool
  /-- Write right (HBM window). -/
  write : Bool
  deriving DecidableEq, Repr

/-- One record of a claim (R318). The spec gives the fields and no bit layout, so a claim arrives with its
records read (DESIGN CHOICE, assumption log 3). -/
inductive ClaimRecord where
  /-- 0x01: region (R30 word), image offset and length, bank offset (0 none), ESC_CYCLES, windows. -/
  | program (region imgOff imgLen bankOff esc : Nat) (hbmWin rxWin : List Window)
  /-- 0x02: program record index, beat offset in Tc, entry in bundles, BATCH. -/
  | start (prog offTc entry : Nat) (batch : Bool)
  /-- 0x03: logical tile (R30 word), span code, RANGE set as a bit mask, MVMs per beat, sighting period in µs. -/
  | tile (unit span ranges mvms sightUs : Nat)
  /-- 0x04: source region; destination kind (0 region, 1 hub, 2 HBM stack, 3 partner channel) and number;
  bytes per beat; latest arrival as a beat offset in Tc. -/
  | flow (src destKind dest bytes arrivalTc : Nat)
  /-- 0x05: stack, read bytes and write bytes per beat. -/
  | hbm (stack rd wr : Nat)
  /-- 0x06: data port, instant as a beat offset in Tc, frames, largest frame in bytes. -/
  | egress (port offTc frames largest : Nat)
  /-- 0x07: data port, kind (0 fronthaul, 1 tensor), bytes per beat, partner MAC. -/
  | ingress (port kind bytes partner : Nat)
  /-- 0x08: channel, partner MAC, destination region, receive window. -/
  | channel (ch partner region window : Nat)
  /-- 0x09: program record index, bundle index, iterations at most. -/
  | bound (prog bundle iterations : Nat)
  /-- 0x0A: program record index, bundle index, latest release in Tc. -/
  | wait (prog bundle releaseTc : Nat)
  /-- A record of an unknown kind. -/
  | unknown (kind : Nat)
  /-- A record of a known kind with an unused bit set. -/
  | unusedBits (kind : Nat)
  deriving DecidableEq, Repr

/-- The header of a claim (R317). -/
structure ClaimHeader where
  version : Nat
  stream : Nat
  prio : Nat
  cls : Nat
  cutThrough : Bool
  redundant : Bool
  beats : Nat
  startFrame : Nat
  ctxQuota : Nat
  model : Nat
  recordCount : Nat
  recordsOffset : Nat
  tag : Nat
  reservedZero : Bool
  deriving DecidableEq, Repr

/-- The detail of a refusal (R331), with its status. -/
structure ClaimRefusal where
  status : Nat
  resource : Nat
  record : Nat
  unit : Nat
  tc : Nat
  need : Nat
  have_ : Nat
  deriving DecidableEq, Repr

/-- A claim conversation (R471). -/
structure ClaimConv where
  st : ClaimState
  stream : Nat
  tag : Nat
  length : Nat
  session : Nat
  /-- Bytes received: offset and bytes, newest first. -/
  blocks : List (Nat × List Byte)
  /-- The records as read (DESIGN CHOICE, assumption log 3). -/
  records : List ClaimRecord
  refusal : Option ClaimRefusal
  startFrame : Nat
  touchedAt : Nat
  deriving DecidableEq, Repr

/-- A stream's state (R314). -/
inductive StreamSt where
  | free | admitted | active | releasing
  deriving DecidableEq, Repr

/-- A program of an admitted stream: its region, slot, place in instruction memory and windows (R322). -/
structure StreamProgram where
  region : Nat
  slot : Nat
  base : Nat
  len : Nat
  esc : Nat
  /-- The initial bank of the claim, in the layout of the architected-state window (R264), for reloads (R263). -/
  bank : List Byte
  /-- Its bundles as the HBM program store holds them (R263). -/
  image : List Nat
  deriving DecidableEq, Repr

/-- A START record in force, with the priced window (R330 check 7). -/
structure StreamStart where
  /-- Index in the stream's programs. -/
  prog : Nat
  offTc : Nat
  entry : Nat
  batch : Bool
  w : Nat
  /-- The batch lag of this start in its region (R399). -/
  lag : Nat
  deriving DecidableEq, Repr

/-- An egress slot of a stream (R320, R334). -/
structure EgressSlot where
  port : Nat
  offTc : Nat
  frames : Nat
  largest : Nat
  /-- The slot's line time at acceptance, in Tc (R334, R480). -/
  line : Nat
  /-- The instant in Tc from the start of the beat in which the result is egressed: the offset, or whole beats more (R290,
  R334). -/
  rel : Nat
  deriving DecidableEq, Repr

/-- A flow of a stream (R318, R353): source region, destination kind (0 region, 1 hub, 2 HBM stack, 3 partner channel)
and number, bytes per beat, latest arrival and window start as beat offsets in Tc, and S, the flits of its slot. -/
structure FlowPlan where
  src : Nat
  kind : Nat
  dest : Nat
  bytes : Nat
  arrival : Nat
  /-- Its window in Tc of the beat: the start of the feeding activation, and its latest arrival or, to the hub, the egress instant
  (R353). -/
  start : Nat
  stop : Nat
  flits : Nat
  deriving DecidableEq, Repr

/-- A stream (R314 to R318). Numbers are as its claim gave them. -/
structure Stream where
  st : StreamSt
  /-- N of its almanac (R51, R319), and the almanac's number. -/
  almanac : Nat
  almanacNo : Nat
  prio : Nat
  guarantee : Bool
  /-- Causes (R342) that keep the flag clear. -/
  clearedBy : List Nat
  cls : Nat
  cutThrough : Bool
  redundant : Bool
  startFrame : Nat
  ctxQuota : Nat
  model : Nat
  tag : Nat
  /-- Order of acceptance (R338). -/
  order : Nat
  /-- P_s in mW (R336). -/
  power : Nat
  /-- L_s in ledger entries (R341). -/
  ledger : Nat
  programs : List StreamProgram
  starts : List StreamStart
  /-- Bound logical tiles, with span, MVMs per beat and sighting period. -/
  tiles : List (Nat × Nat × Nat × Nat)
  /-- Regions its work was moved out of, each with the region that now holds it (R435, R436). -/
  moved : List (Nat × Nat)
  flows : List FlowPlan
  hbm : List (Nat × Nat × Nat)
  egress : List EgressSlot
  ingress : List (Nat × Nat × Nat × Nat)
  channels : List (Nat × Nat × Nat × Nat)
  /-- Largest batch lag L_s (R420). -/
  lagMax : Nat
  /-- Next result sequence number (R290) and next egress group number (R485). -/
  nextSeq : Nat
  nextGroup : Nat
  /-- Frame at whose start a RELEASING stream's entries go (R314). -/
  removeFrame : Nat
  /-- The entries are out of the Almanac. -/
  entriesGone : Bool
  /-- Taints (R420): from and to, in Meridian Tc counted from frame 0. -/
  taints : List (Nat × Nat)
  deriving DecidableEq, Repr

/-- A request in the engine's queue (R316). -/
inductive EngineRequest where
  | claim (stream tag : Nat)
  | release (session stream tag : Nat)
  deriving DecidableEq, Repr

/-- A RESULT frame (R485). FLAGS: bit 0 PROVISIONAL, 1 DEGRADED, 2 CHECK_FAILED, 3 ABSENT, 4 INPUT_MISSING, TIME in
bits 6 and 5. -/
structure ResultFrame where
  stream : Nat
  seq : Nat
  flags : Nat
  mer : Nat
  epoch : Nat
  fmt : Nat
  recs : Bool
  group : Nat
  gidx : Nat
  tokens : Nat
  dim0 : Nat
  batch : Nat
  /-- Records when RECS = 1, then tokens. -/
  body : List Byte
  deriving DecidableEq, Repr

/-- A ledger entry (R341): one result from arrival until its verdict is final. -/
structure LedgerEntry where
  region : Nat
  /-- Index of the egress slot. -/
  slot : Nat
  /-- The frame as it will leave; its MER is the egress instant. -/
  frame : ResultFrame
  /-- Arrival and instant of the egress, in Meridian Tc counted from frame 0. -/
  arrived : Nat
  instant : Nat
  /-- It takes a place of its stream's reservation (R341). -/
  counted : Bool
  /-- The egress instant has come, or the data came after it. -/
  due : Bool
  /-- The data came after it (R291). -/
  late : Bool
  /-- The verdict: none before R421, then true for PASS. -/
  verdict : Option Bool
  /-- The frame has left. -/
  sent : Bool
  deriving DecidableEq, Repr

/-- An egress group at the hub (R277, R422). -/
structure EgressGroup where
  stream : Nat
  region : Nat
  number : Nat
  closed : Bool
  /-- Real time at which its first result frame left the package (R277). -/
  leftAt : Option Nat
  deriving DecidableEq, Repr

/-- A notice log entry (R347) with the streams named and their FIRST_SEQ. -/
structure Notice where
  seq : Nat
  cause : Nat
  exception : Bool
  kind : Nat
  mer : Nat
  unit : Nat
  /-- Stream, state after, FIRST_SEQ. -/
  named : List (Nat × Nat × Nat)
  /-- What a CAPACITY notice adds (R469): ADM_CAP and the unit counts. -/
  cap : List Nat
  deriving DecidableEq, Repr

/-- The admission block (R347). -/
structure Admission where
  breachF : Bool
  shedF : Bool
  capacityF : Bool
  /-- 0 IDLE, 1 EVALUATING, 2 COMMITTING. -/
  engine : Nat
  closed : Bool
  pkgLimit : Nat
  pBase : Nat
  eMvm10 : Nat
  eMvm15 : Nat
  eMvm20 : Nat
  ePath : Nat
  eDmu : Nat
  eHbm : Nat
  ePort : Nat
  hbmResMax : Nat
  fabTtMax : Nat
  unboundLen : Nat
  unboundPeriod : Nat
  ledgerHwm : Nat
  ledgerFullCount : Nat
  absentCount : Nat
  noticeSeq : Nat
  /-- Notices, newest first, 64 at most. -/
  notices : List Notice
  /-- REGION_DARK by region: length, divisor, phase. -/
  dark : Table (Nat × Nat × Nat)
  streams : Table Stream
  queue : List EngineRequest
  convs : List ClaimConv
  nextOrder : Nat
  /-- Frame at whose start the banks exchange (R321), when one is set. -/
  exchangeFrame : Option Nat
  ledger : List LedgerEntry
  groups : List EgressGroup
  /-- Dark slots in progress: unit words (R325). -/
  darkNow : List Nat
  /-- The phase φ of the sighting intervals of each logical tile that a stream binds, in Tc (R324). -/
  phases : Table Nat
  /-- Deadline of an ACTIVATE drain or of nothing (R343). -/
  draining : Bool
  deriving DecidableEq, Repr

/-! ### The model manager (chapter 12) -/

/-- An area's state (R407). -/
inductive AreaSt where
  | empty | receiving | staging | staged | active | retiring | failed
  deriving DecidableEq, Repr

/-- One tile record of a manifest (R382). -/
structure TileRecord where
  tile : Nat
  offset : Nat
  stride : Nat
  rows : Nat
  cols : Nat
  rescale : Nat
  deriving DecidableEq, Repr

/-- A manifest (R380 to R383) as loaded. -/
structure Manifest where
  format : Nat
  anchor : Nat
  model : Nat
  version : Nat
  bytes : Nat
  shardCount : Nat
  tileCount : Nat
  area : Nat
  /-- Shard digests and LENGTHs. -/
  shards : List (Nat × Nat)
  tiles : List TileRecord
  reservedZero : Bool
  /-- Length of the object. -/
  objLength : Nat
  /-- SHA-384 of the whole object and of the signer's key (R383, R385). -/
  digest : Nat
  keyHash : Nat
  deriving DecidableEq, Repr

/-- One shard of an epoch (R390 to R392, R404). -/
structure Shard where
  /-- 64-byte units written, by unit number. -/
  units : List Nat
  verified : Bool
  corrupt : Bool
  attempts : Nat
  /-- A request is outstanding (R391). -/
  requested : Bool
  /-- Real time of the last request (R391). -/
  askedAt : Nat
  deriving DecidableEq, Repr

/-- An adapter matrix of an epoch in a region, as shipped: the offset in the fast-weight SRAM and the bytes of each row (R220). -/
structure AdapterImage where
  region : Nat
  rows : List (Nat × List Byte)
  deriving DecidableEq, Repr

/-- One store area of a model slot and the epoch in it (R378). -/
structure Area where
  st : AreaSt
  version : Nat
  epoch : Nat
  manifest : Option Manifest
  shards : List Shard
  /-- Tile records dressed, by index. -/
  dressed : List Nat
  /-- Where its tiles are dressed: tile record index to logical tile (bench partner or itself). -/
  partner : List (Nat × Nat)
  /-- 0 pushed, 1 model server on a data port, 2 partner package. -/
  source : Nat
  sourceId : Nat
  failStatus : Nat
  failIndex : Nat
  /-- First store unit of the area, and whether it is allocated (R386). -/
  base : Nat
  allocated : Bool
  touchedAt : Nat
  /-- Adapter state restored from shipped values (R220). -/
  adapterShipped : Bool
  /-- Adapters restored by command since a program last changed one. -/
  adaptersRestored : List Nat
  /-- The adapter matrices that VADAPT has changed, in the order of their first change, each as it was before it (R220). -/
  adapters : List AdapterImage
  /-- The placement log matches the manifest for every tile it names (R396). -/
  matched : Bool
  /-- Sessions whose block completed a shard, with the shard: the reply waits for its verdict (R390). -/
  replyTo : List (Nat × Nat)
  deriving DecidableEq, Repr

/-- A pending switch (R397 to R399). -/
structure SwitchPlan where
  /-- Stream, switch batch B_s, crossed. -/
  streams : List (Nat × Nat × Bool)
  /-- Region, instant X_r in Meridian Tc from frame 0, done. -/
  regions : List (Nat × Nat × Bool)
  deriving DecidableEq, Repr

/-- A model slot (R378, R407). -/
structure ModelSlot where
  model : Nat
  area0 : Area
  area1 : Area
  areaUnits : Nat
  nextEpoch : Nat
  activeEpoch : Nat
  plan : Option SwitchPlan
  /-- Epoch selects (R387): area by 64 × stream + region. -/
  sel : Table Nat
  /-- Relocations: lost region to target region (R436). -/
  reloc : List (Nat × Nat)
  deriving DecidableEq, Repr

/-- An open manifest buffer (R472). -/
structure ManifestBuf where
  session : Nat
  model : Nat
  version : Nat
  length : Nat
  source : Nat
  sourceId : Nat
  /-- Blocks taken, offset and length, and the object's bytes as far as written, in the canonical form of a memory. -/
  blocks : List (Nat × Nat)
  data : List (Nat × Byte)
  touchedAt : Nat
  deriving DecidableEq, Repr

/-- The model manager block (R407). -/
structure ModelMgr where
  loadFailF : Bool
  rehashFailF : Bool
  auditFailF : Bool
  switchDoneF : Bool
  storeBase : Nat
  storeSize : Nat
  shardTimeout : Nat
  idleLimit : Nat
  switchLead : Nat
  switchHorizon : Nat
  rehashPeriod : Nat
  auditPeriod : Nat
  auditTol : Nat
  auditMax : Nat
  shardRetryCount : Nat
  rehashFailCount : Nat
  auditFailCount : Nat
  poisonReadCount : Nat
  slots : Table ModelSlot
  buffers : List ManifestBuf
  /-- Partner packages that asked for a model: MAC and MODEL (R393). -/
  followers : List (Nat × Nat)
  deriving DecidableEq, Repr

/-! ### Fault reporting (chapter 13) -/

/-- A fault record (R445). -/
structure FaultRecord where
  seq : Nat
  mer : Nat
  unitL : Nat
  unitP : Nat
  event : Nat
  action : Nat
  count : Nat
  detail : Nat
  stream : Nat
  deriving DecidableEq, Repr

/-- A re-placement under way (R435). -/
structure Replacement where
  stream : Nat
  region : Nat
  target : Option Nat
  cause : Nat
  /-- Real time at which the work was lost (R435). -/
  since : Nat
  deriving DecidableEq, Repr

/-- The fault reporting block (R449). -/
structure Faults where
  fenceF : Bool
  quarantineF : Bool
  shedF : Bool
  testFailF : Bool
  seq : Nat
  /-- Records, newest first, 256 at most. -/
  log : List FaultRecord
  ckK : Nat
  redK : Nat
  cusumK : Nat
  cusumH : Nat
  suspectFails : Nat
  testPeriod : Nat
  obsFactor : Nat
  obsClear : Nat
  obsPeriod : Nat
  remapLimit : Nat
  statTrig : Nat
  /-- Dies fenced, by number. -/
  fenced : List Nat
  /-- FENCE_CAUSE by die. -/
  fenceCause : Table Nat
  failResultCount : Nat
  recallCount : Nat
  sealCount : Nat
  replaceCount : Nat
  replacements : List Replacement
  /-- Requests discarded under R42 and on-chip accesses ignored under R16 and R579. -/
  discardedResets : Nat
  ignoredAccesses : Nat
  deriving DecidableEq, Repr

/-! ### HBM (R587) and the context table (R286) -/

/-- The HBM block. Contents are canonical: rising addresses, no zero byte listed. -/
structure Hbm where
  mem : List (Nat × Byte)
  st0 : Nat
  st1 : Nat
  selfRefresh : Bool
  eccCorrF : Bool
  eccUncorrF : Bool
  eccCorr : Nat
  eccUncorr : Nat
  /-- Contexts: stream, key, 128 bytes. -/
  contexts : List (Nat × Nat × List Byte)
  deriving DecidableEq, Repr

end Sys2Proof.Machine
end

