-- ==== Sys2Proof/Machine/HubState.lean ====
section
/-! DEFINITION. The state of the hub die: timebase, start-up, thermal and settings, pins, security, firmware,
sessions, ports, streams and the admission engine, the model manager, fault reporting, HBM. Plain data only. -/
namespace Sys2Proof.Machine

/-! ### Meridian and the timebase (chapter 02) -/

/-- The states of the timebase (R61, TB_STATUS.STATE of R76). -/
inductive TbState where
  | freerun | acquiring | locked | holdover | unreferenced | localTime
  deriving DecidableEq, Repr

/-- The Meridian counter (R44) and what drives it (R46). -/
structure Clock where
  /-- Timebase cycles since power-on: the model's measure of real time. -/
  cycles : Nat
  /-- FRAME, 39 bits (R44). -/
  frame : Nat
  /-- TC, below 19,660,800 (R44). -/
  tc : Nat
  /-- The fraction of a correction not yet applied, in Tc × 2^-8 × 10^-9 (R46). -/
  acc : Int
  /-- The phase still to be slewed away, in Tc (R63). -/
  slew : Int
  /-- The part of a Tc that the slew under way has moved so far, in Tc × 2^-8 × 10^-9. -/
  slewAcc : Int
  /-- The first instant that the cycle under way reached, in Tc from frame 0: an event before it is late (R55). -/
  since : Nat
  /-- The timeline events executed on this cycle: the unit's R30 word and the place in R54's order. -/
  done : List (Nat × Nat)
  /-- The latch of MERIDIAN_LO and MERIDIAN_HI (R47). -/
  latch : Nat
  deriving DecidableEq, Repr

/-- What an Announce says of a master: its domain, and the data set that the best master selection compares (R58).
(PRESUMED, assumption log 98.) -/
structure PtpAnnounce where
  domain : Nat
  clockClass : Nat
  accuracy : Nat
  variance : Nat
  priority2 : Nat
  identity : Nat
  stepsRemoved : Nat
  deriving DecidableEq, Repr

/-- A PTP message that is no exchange: an Announce, or a management message (R58). -/
inductive PtpMsg where
  | announce (a : PtpAnnounce)
  | management (domain : Nat)
  deriving DecidableEq, Repr

/-- The port states of a slave-only clock (R58). -/
inductive PtpPortSt where
  | listening | uncalibrated | slave | faulty
  deriving DecidableEq, Repr

/-- One time reference: PTP on a quad, or 1PPS_IN (R57). Offsets are in 1/196,608 ns, so that a Tc and a
nanosecond are both whole numbers. -/
structure Source where
  /-- The source gives exchanges or edges. -/
  live : Bool
  /-- The master is refused for its Sync rate (R59). -/
  refused : Bool
  /-- clockClass of the master's last Announce (R58, R64). -/
  clockClass : Nat
  /-- The master that the best master selection holds, as its last Announce describes it (R58). -/
  master : Option PtpAnnounce
  /-- Exchanges or edges in a row within the bounds (R62). -/
  count : Nat
  /-- The source is qualified (R62). -/
  qualified : Bool
  /-- The first offset of the holdover form (R62). -/
  first : Int
  /-- The last offset measured. -/
  last : Int
  /-- Real time of its master's last Announce (R58, R64). -/
  announceAt : Nat
  /-- Real time of its last exchange (R64). -/
  exchangeAt : Nat
  /-- The Sync rate of that exchange (R59, R64). -/
  rate : Nat
  deriving DecidableEq, Repr

/-- The timebase registers and the servo (R76). -/
structure Timebase where
  mode : Nat
  ptpEn : Bool
  ppsEn : Bool
  ptpDomain : Nat
  classMax : Nat
  st : TbState
  refSrc : Nat
  loss : Bool
  expired : Bool
  stepBlocked : Bool
  lateEvent : Bool
  replicaErr : Bool
  /-- FRAME_OFFSET in force, signed (R49). -/
  frameOffset : Int
  /-- FRAME_OFFSET_LO, held until the HI write (R50). -/
  frameOffsetLo : Nat
  /-- FRAME_OFFSET_HI as last written. -/
  frameOffsetHi : Nat
  /-- An accepted offset write waits for its frame boundary, with the change of FRAME it makes (R50). -/
  stepPending : Option Int
  /-- The frame boundary at which it takes effect, in Tc from frame 0. -/
  stepAt : Nat
  oscStab : Nat
  teLimit : Nat
  lockTe : Nat
  stepThreshold : Nat
  slewMax : Nat
  refPrio : Nat
  /-- PHASE_OFFSET, signed Tc. -/
  phaseOffset : Int
  /-- FREQ_EST, signed 2^-8 ppb. -/
  freqEst : Int
  /-- FREQ_UNC, 2^-8 ppb (R68). -/
  freqUnc : Nat
  /-- The magnitudes of the last 16 changes of FREQ_EST, newest first (R68). -/
  freqChanges : List Nat
  lateEvents : Nat
  /-- PTP_ASYM0-3, signed ns. -/
  asym : List Int
  sources : List Source
  /-- Real time (Tc at the nominal rate) of the last good measurement, and its offset (R68). -/
  lastGoodAt : Nat
  lastGoodOff : Int
  /-- The holdover length L, in Tc at the nominal rate (R68). -/
  holdLen : Nat
  /-- The TAI seconds the host supplied for the edges to come (R60); none for an edge a late supply leaves out. -/
  ppsTai : List (Option Nat)
  /-- The TAI second of the last edge marked (R60). -/
  ppsLast : Option Nat
  /-- Real time of the last edge in its window. -/
  ppsAt : Option Nat
  /-- A reference returned beyond STEP_THRESHOLD and waits for the last stream to become FREE (R73). -/
  blockedSrc : Option Nat
  /-- PTP messages of other domains and management messages, discarded (R58); the spec gives no register. -/
  ptpDiscards : Nat
  deriving DecidableEq, Repr

/-! ### Start-up, thermal management, settings and pins (chapters 17 and 19) -/

/-- START_STATUS.STATE (R575). -/
inductive StartState where
  | reset | booting | starting | ready | service | recovery | error | tripped
  deriving DecidableEq, Repr

/-- The start-up block (R575) and what start-up remembers. -/
structure StartUp where
  st : StartState
  step : Nat
  minDies : Nat
  lockWait : Nat
  startTime : Nat
  capDies : Nat
  capTiles : Nat
  capLinks : Nat
  flagRaceCount : Nat
  /-- Real time of RST_N release, or of Q of a hub restart (START_TIME). -/
  startedAt : Nat
  /-- The start under way is a hub restart (R556). -/
  isRestart : Bool
  /-- Training failures of the HBM stacks so far at step 7 (R548). -/
  hbmFails : Nat
  /-- LOCK_WAIT has ended, and the sighting scan has run (steps 9 and 10 of R548). -/
  lockDone : Bool
  scanDone : Bool
  /-- Real time at which the step began (R548). -/
  stepAt : Nat
  deriving DecidableEq, Repr

/-- One temperature sensor: internal diode or external channel (R574). -/
structure Sensor where
  /-- The reading, signed, 1/16 °C. -/
  temp : Int
  present : Bool
  fault : Bool
  /-- 0 100 ms, 1 10 ms, 2 1 ms (R560). -/
  period : Nat
  /-- EXT_CFG fields (external channels). -/
  mode : Nat
  failsafe : Bool
  warn : Nat
  limit : Nat
  /-- EXT_PARAM. -/
  param : Nat
  /-- Real time of the last sample (R560). -/
  sampledAt : Nat
  deriving DecidableEq, Repr

/-- The thermal and power block (R574). -/
structure Thermal where
  /-- The throttle step k (R562). -/
  k : Nat
  tripped : Bool
  warnF : Bool
  stepUpF : Bool
  sensorFaultF : Bool
  overLimitF : Bool
  tWarn : Nat
  tLimit : Nat
  hyst : Nat
  stepUp : Nat
  stepDown : Nat
  hotSensor : Nat
  hotReading : Int
  pkgPower : Nat
  stepCount : Nat
  sensorFaultCount : Nat
  /-- Diodes 0-17 by number (R558), channels c at 32 + c. -/
  sensors : Table Sensor
  /-- Real time of the last change of k (R562); none before the first. -/
  kChangedAt : Option Nat
  /-- Real time of the last OVER_LIMIT report (R565). -/
  overReportedAt : Option Nat
  /-- The tripping diode is a hub diode and the halt is due (R564). -/
  hubHaltDue : Bool
  /-- Real time of the trip (R564). -/
  trippedAt : Nat
  deriving DecidableEq, Repr

/-- One generation of a settings slot in OTP (R566, R568). -/
inductive Generation where
  | blank
  | spent
  /-- A good generation: its FMT and its 12 DATA words. -/
  | good (fmt : Nat) (data : List Nat)
  deriving DecidableEq, Repr

/-- Settings in OTP and their registers (R566, R576). -/
structure Settings where
  /-- Generations 0 to 3 of TYPE t, by t. -/
  slots : Table (List Generation)
  stage : List Nat
  skipCount : Nat
  /-- DRESS_ALLOW of the START record, applied at step 2 (R567). -/
  dressAllow : Option Nat
  deriving DecidableEq, Repr

/-- The pins of R591 and the supply conditions of R594 to R597. (DESIGN CHOICE, assumption log 48.) -/
structure Pins where
  /-- RST_N is high. -/
  rstHigh : Bool
  /-- RECOVERY_N is high. -/
  recoveryHigh : Bool
  /-- RECOVERY_N as the boot ROM sampled it (R599). -/
  recoverySampled : Bool
  /-- BOOT_STAT[2:0] (R600). -/
  bootStat : Nat
  /-- FAULT_N, INT_N and THERM_TRIP_N are driven low. -/
  faultLow : Bool
  intLow : Bool
  thermTripLow : Bool
  /-- A rail other than VPP_PCM failed and R594 holds. -/
  railHold : Bool
  /-- VPP_PCM is below 2.3 V (R595). -/
  vppLow : Bool
  /-- REFCLK_IN was lost and R597 holds. -/
  refclkLost : Bool
  /-- The hub processor is halted (R564, R597). -/
  hubHalted : Bool
  /-- The instruction the test access port holds (R601): the coded test access instruction. -/
  tapInstr : Nat
  /-- The last value the test access port shifted out (IDCODE of R601). -/
  tapOut : Nat
  /-- EXTEST holds every output at its boundary cell (R601). -/
  extest : Bool
  deriving DecidableEq, Repr

end Sys2Proof.Machine
end

