-- ==== Sys2Proof/Machine/TileState.lean ====
section
/-! DEFINITION. The state of a physical tile and of a cluster (chapters 03, 04, 09 and 13). Plain data only. -/
namespace Sys2Proof.Machine

/-- A column trim entry (R149). NEAR and EDGE follow from GAIN and OFFSET (R150). -/
structure TrimEntry where
  colsum : Int
  gain : Int
  offset : Int
  role : Nat
  /-- The entry has an uncorrectable ECC error (R148). -/
  bad : Bool
  /-- The low word held by a write (R148). -/
  heldLow : Option Nat
  deriving DecidableEq, Repr

/-- The mismatch trim of one ADC (R99, R114). -/
structure AdcTrim where
  offs : Int
  gain : Int
  skew : Int
  deriving DecidableEq, Repr

/-- The calibration tone generator and its histogram (R107 to R109, R114). -/
structure Tone where
  span : Nat
  range : Nat
  running : Bool
  ftw : Nat
  phase0 : Nat
  stagger : Nat
  amp : Nat
  offs : Int
  first : Nat
  count : Nat
  n : Nat
  histSlot : Nat
  histAdc : Nat
  /-- The phase accumulator at the next strobe. -/
  phase : Nat
  /-- Strobes left in the run. -/
  left : Nat
  /-- Bins of the histogram that are not zero. -/
  hist : Table Nat
  /-- The ladder values latched on the selected rows at the last strobe (R108). -/
  levels : List Int
  deriving DecidableEq, Repr

/-- The sighting registers and the sighting sequencer (R134 to R151). -/
structure Sight where
  trig : Nat
  len : Nat
  free : Bool
  code : Nat
  every : Nat
  period : Nat
  delay : Nat
  pos : Nat
  eventF : Bool
  faultF : Bool
  overrunF : Bool
  nearF : Bool
  edgeF : Bool
  loops : Nat
  /-- LOOP_PERIOD in µs and LOOP_TEMP in 1/16 °C. -/
  loopPeriod : Nat
  loopTemp : Int
  eventCount : Nat
  faultCount : Nat
  /-- LAST_EVENT: lowest slot, MODE, APPLIED, COUNT, DEV. -/
  leSlot : Nat
  leMode : Nat
  leApplied : Bool
  leCount : Nat
  leDev : Int
  kappa : Nat
  ktemp : Int
  tk : Int
  table : Table Nat
  /-- A SIGHT_CTRL write waiting for the next entry: TRIG, LEN, FREE, CODE, EVERY (R139). -/
  pendCtrl : Option (Nat × Nat × Bool × Nat × Nat)
  /-- Entry writes waiting for the next entry (R139). -/
  pendTable : Table Nat
  /-- Reads still to take of the entry that is due, and the real time of its trigger (R136, R137). -/
  readsLeft : Nat
  dueAt : Nat
  /-- Sums of the trimmed outputs of the entry's reads, by slot (R141). -/
  sums : Table Int
  /-- MVMs since the last EVERY-th one (R136). -/
  sinceTrig : Nat
  /-- Meridian of the apply triggers to come (R136). -/
  trigAt : List Nat
  /-- Meridian of the last timer trigger taken (R136); none before the first. -/
  lastTrig : Option Nat
  /-- Real time of the start of entry 0 of the loop under way; none when the loop does not count (R138). -/
  loopStart : Option Nat
  /-- Meridian of the starts of the sighting intervals granted and not used: the first tick of each is an idle tick, and no
  strobe falls in the interval (R133, R306). -/
  intervals : List Nat
  /-- Meridian of the last interval that the Almanac placed and granted (R324); none before the first. -/
  placedAt : Option Nat
  /-- Meridian of the triggers to come that TILE.SIGHT fires (R306). -/
  fires : List Nat
  /-- Timebase cycle of the last writes and updates of trims, and the slots written and updated on it; 528 is KAPPA
  (R147). -/
  trimCycle : Nat
  wrote : List Nat
  updated : List Nat
  deriving DecidableEq, Repr

/-- Health of a unit (R448). -/
inductive Health where
  | normal | observed | withdrawn | faulty
  deriving DecidableEq, Repr

/-- The check registers (R448) and the suspicion history (R428 to R431) of a tile. -/
structure Check where
  a0 : Nat
  a1 : Nat
  health : Health
  failF : Bool
  alarmF : Bool
  mismatchF : Bool
  suspectF : Bool
  failCount : Nat
  clipFailCount : Nat
  alarmCount : Nat
  mismatchCount : Nat
  /-- LAST_FAIL as its register holds it. -/
  lastFail : Nat
  /-- The accumulators C0+, C0-, C1+, C1- in 1/16. -/
  c0p : Nat
  c0m : Nat
  c1p : Nat
  c1m : Nat
  /-- Real times of the FAILs, and of the mismatches, of the last second (R428). -/
  failTimes : List Nat
  missTimes : List Nat
  /-- Real time of the last uncorrectable ECC error (R429). -/
  eccAt : Option Nat
  /-- Real time at which observation last ended (R429). -/
  obsEndedAt : Option Nat
  /-- Test sets passed in a row while observed, and tests passed of the set under way (R431). -/
  passes : Nat
  setDone : List Nat
  /-- Real time at which the test period under way began (R442). -/
  periodAt : Nat
  /-- A full set has been passed in the test period under way (R442). -/
  setFull : Bool
  /-- EVENT of the cause that began the observation (R447). -/
  obsEvent : Nat
  /-- FAILs of the merge window under way (R447): none when no window is open. -/
  mergeCount : Option Nat
  /-- Real time of the window's first FAIL (R447). -/
  mergeAt : Nat
  deriving DecidableEq, Repr

/-- Progress of a dressing (R121 to R125). -/
inductive DressSt where
  | idle | queued | active | pausedAllowance | pausedTemp
  deriving DecidableEq, Repr

/-- Dressing state of a physical tile (R117 to R126, R157). -/
structure Dress where
  st : DressSt
  /-- Order of the request (R123). -/
  order : Nat
  /-- Logical tile whose targets are dressed. -/
  logical : Nat
  rowsDone : Nat
  /-- Dressing count of the placement log (R157). -/
  count : Nat
  dressed : Bool
  /-- Real time of the end of the dressing; none for a tile found dressed at start (R111). -/
  dressedAt : Option Nat
  /-- Target codes to be dressed by logical row × 512 + column, where not zero (R121). -/
  targets : Table Int
  /-- Fractional CK targets in 1/16 code by 2 × row + k (R409). -/
  ckTargets : Table Int
  deriving DecidableEq, Repr

/-- The four cells of a weight, in nS: the major pair and the minor pair (R78). -/
structure Cells where
  majP : Nat
  majM : Nat
  minP : Nat
  minM : Nat
  deriving DecidableEq, Repr

/-- A row at its current limit (R91): the physical row, the current it calls for in µA, and how many ticks in a row it has been
held at the clamp. -/
structure RowOver where
  row : Nat
  microamps : Nat
  ticks : Nat
  deriving DecidableEq, Repr

/-- One MVM from its strobe until its verdict (R85, R95 to R106, R411). -/
structure Mvm where
  /-- MVM number of the tile (R95). -/
  no : Nat
  stream : Nat
  region : Nat
  logical : Nat
  cls : Nat
  range : Nat
  /-- Twice zp': zp in U8, 2 zp in S8 (R103). -/
  zp2 : Int
  /-- Weight columns delivered: TD.DIM0 + 1 (R300). -/
  outs : Nat
  /-- Token address and record address in region memory. -/
  dst : Nat
  recd : Nat
  /-- The output goes to the hold of TILE.LOAD (R303). -/
  hold : Bool
  /-- FMT of TD: BF16 and FP32 rescale, Y24 is RAW (R300). -/
  fmt : Nat
  /-- TD.QSET, 128 bits (R165). -/
  qset : Nat
  /-- The token record read with the input, as its 64-bit pattern (R167). -/
  recIn : Nat
  /-- The token record read with the input fails its check (R166). -/
  bad : Bool
  /-- The predicate to write after the last output, and its visible cycle (R297). -/
  pm : Nat
  pmAt : Nat
  /-- Cycle on which its own token is complete (R296). -/
  doneAt : Nat
  /-- The last output of its burst. -/
  last : Bool
  /-- Program slot and bundle of the issue. -/
  slot : Nat
  pc : Nat
  /-- The other physical tile of a redundant pair, and whether this is the twin (R426). -/
  pair : Option Nat
  twin : Bool
  /-- Meridian of the strobe, in Tc from frame 0. -/
  at_ : Nat
  /-- The verdict is FAIL whatever the residuals: R94, R148, R432. -/
  forced : Bool
  /-- Trims of the strobe (R146): drift factor numerator over 2^39, and the entries in use. -/
  kappaT : Int
  trims : Table TrimEntry
  adc : Table AdcTrim
  /-- Rescale entries of the logical tile at the strobe, by column (R182). -/
  scales : Table Nat
  span : Nat
  signed : Bool
  /-- Charge of each column slot, in 1/5,100 V × 1/16 nS (R80). -/
  charge : Table Int
  /-- Trimmed outputs and exact check values once complete: numerators of u_c over 2^56, by slot. -/
  u : Table Int
  clips : List Nat
  /-- Trimmed outputs by slot, once complete. -/
  ys : Table Int
  complete : Bool
  /-- The verdict of its own checksum check, once given: true for PASS. -/
  judged : Option Bool
  deriving DecidableEq, Repr

/-- One token of a burst, read when its TILE.MVM issued (R294, R297). -/
structure BurstToken where
  codes : List Int
  /-- Its token record, a 64-bit pattern; zero when none is read. -/
  record : Nat
  /-- Its token record fails its check (R166). -/
  bad : Bool
  dst : Nat
  recd : Nat
  deriving DecidableEq, Repr

/-- A burst of a TILE.MVM, or the one MVM of a TILE.LOAD (R297, R303). -/
structure Burst where
  region : Nat
  stream : Nat
  /-- Program slot and bundle of the issue, for a late trap. -/
  slot : Nat
  pc : Nat
  logical : Nat
  span : Nat
  signed : Bool
  range : Nat
  zp2 : Int
  cls : Nat
  outs : Nat
  fmt : Nat
  qset : Nat
  hold : Bool
  pm : Nat
  pmAt : Nat
  /-- Tokens still to apply. -/
  tokens : List BurstToken
  /-- Tokens of the whole burst. -/
  total : Nat
  /-- Instant of the next strobe, in Meridian Tc from frame 0 (TILE.LOAD); none for the next free tick. -/
  at_ : Option Nat
  /-- Instant before which its first strobe does not fall (R297, R298). -/
  due : Nat
  /-- The other physical tile of a redundant pair, and whether this burst runs on the twin (R426). -/
  pair : Option Nat
  twin : Bool
  deriving DecidableEq, Repr

/-- STATE of TILE_STATUS (R114). -/
inductive TileSt where
  | parked | idle | applying | tone
  deriving DecidableEq, Repr

/-- The hold of a logical tile (R303). -/
structure Hold where
  /-- Trimmed outputs, columns that clipped, whether it is written, the verdict, the input's record. -/
  y : List Int
  clips : List Nat
  ready : Bool
  pass : Bool
  record : Nat
  /-- Rescale entries at the strobe (R182). -/
  scales : Table Nat
  /-- Input mode S8, and a failed condition of the stream's class at the MVM (R301). -/
  signed : Bool
  cond : Bool
  stream : Nat
  deriving DecidableEq, Repr

/-- A physical tile. -/
structure Tile where
  /-- TILE_CFG: SPAN, INMODE, RANGE, PARITY of the last applied MVM. -/
  span : Nat
  inmode : Nat
  range : Nat
  parity : Nat
  st : TileSt
  rowTripF : Bool
  shadowLateF : Bool
  adcClipF : Bool
  trimSatF : Bool
  clamp128F : Bool
  toneClipF : Bool
  histIncompleteF : Bool
  ilim : Nat
  tripTicks : Nat
  firstTrip : Option Nat
  rowTripCount : Nat
  clamp128Count : Nat
  adcClipCount : Nat
  trimSatCount : Nat
  shadowLateCount : Nat
  toneClipCount : Nat
  /-- Physical rows parked by a trip. -/
  parked : List Nat
  /-- The tile's rows are marked check-failed since a trip (R94). -/
  tripFail : Bool
  /-- Row and column repairs in force: logical index to physical row or slot (R26). -/
  rowRepair : Table Nat
  colRepair : Table Nat
  shadow : List Int
  active : List Int
  /-- The cells by physical row × 528 + slot, where not all four at the floor (R78). -/
  cells : Table Cells
  /-- Spare physical rows and spare column slots that a repair has taken, whether or not they still serve (R120). -/
  spentRows : List Nat
  spentSlots : List Nat
  /-- Meridian of the last apply strobe, sighting reads and tone strobes among them (R88, R102). -/
  strobeAt : Option Nat
  /-- The ADC linearity test failed: R100 is not met (R111). -/
  adcBad : Bool
  adcTrim : Table AdcTrim
  /-- Writes that wait for the next strobe (R115): register offset and value. -/
  staged : List (Nat × Nat)
  mvmNo : Nat
  bursts : List Burst
  /-- MISFIT set on a token of the burst whose outputs are arriving (R297). -/
  pmAcc : Bool
  flight : List Mvm
  tone : Tone
  sight : Sight
  check : Check
  dress : Dress
  trims : Table TrimEntry
  /-- Model, VERSION and epoch dressed (R126, R396): 0 none. -/
  logModel : Nat
  logVersion : Nat
  logEpoch : Nat
  deriving DecidableEq, Repr

/-- What queued a re-dress (R152), in the order the queue is taken. -/
inductive RedressCause where
  | fence | substitution | edge | near | command
  deriving DecidableEq, Repr

/-- A re-dress queued or running (R152, R153). -/
structure Redress where
  logical : Nat
  cause : RedressCause
  /-- EVENT of the cause that started it, for its completion record (R447). -/
  event : Nat
  /-- 0 queued, 1 waiting, 2 dressing, 3 first loop, 4 switch due. -/
  stage : Nat
  deriving DecidableEq, Repr

/-- A cluster: the tile map (R26) and its re-dress queue (R152). -/
structure Cluster where
  /-- Physical tile of logical tile t, at position t; 9 when unavailable (R552). -/
  map : List Nat
  redress : List Redress
  /-- Holds of TILE.LOAD by logical tile (R303). -/
  holds : Table Hold
  /-- Check-fail counts by logical tile × 256 + stream (R305). -/
  failCounts : Table Nat
  /-- Rescale entries by logical tile × 512 + column, FP32 (R181). -/
  rescale : Table Nat
  /-- Zero-column marks of the loading report (R183), by logical tile. -/
  zrange : Table Nat
  deriving DecidableEq, Repr

end Sys2Proof.Machine
end

