-- ==== Sys2Proof/Machine/RegionState.lean ====
section
/-! DEFINITION. The state of a region: sequencer, program slots, architected banks, memories, DMU, statistics,
test queue and router (chapters 05 to 09 and 11). Plain data only. -/
namespace Sys2Proof.Machine

/-- The guard of a slot instruction (R268). -/
structure Guard where
  gp : Nat
  gn : Bool
  deriving DecidableEq, Repr

/-- The ALU functions (R275). -/
inductive AluFn where
  | add | sub | and | or | xor | shl | shr | sar | mul | min | max | minu | maxu | meradd | fadd | fmul
  deriving DecidableEq, Repr

/-- The comparisons of CMP (R271). -/
inductive CmpFn where
  | eq | ne | lt | le | ltu | leu
  deriving DecidableEq, Repr

/-- One slot instruction as a bundle holds it (R271, R280, R296, R307). -/
inductive SlotOp where
  | nop
  | br (target : Nat)
  | brc (rs cond : Nat) (off : Int)
  | call (target : Nat)
  | ret
  | loopI (count : Nat)
  | loopR (rs : Nat)
  | loopE
  | waitM (rs : Nat)
  | waitB
  | yieldTest (offer : Nat)
  | seal
  | halt
  | trap (code : Nat)
  | alu (fn : AluFn) (rd rs : Nat)
  | addi (rd : Nat) (imm : Int)
  | movi (rd : Nat) (imm : Int)
  | shli (rd sh : Nat)
  | shri (rd sh : Nat)
  | sari (rd sh : Nat)
  | cmp (fn : CmpFn) (pd rs rt : Nat)
  | limm (sd : Nat) (h sx : Bool) (imm : Nat)
  | movS (sd ss : Nat)
  | movSA (ad ss : Nat)
  | movAS (sd as_ : Nat)
  | movAI (ad : Nat) (imm : Int)
  | movAA (ad ss : Nat)
  | movTA (tn as_ : Nat)
  | movTS (tn fld ss : Nat)
  | movST (sd tn fld : Nat)
  | movPS (ss : Nat)
  | movSP (sd : Nat)
  | movQS (qn : Nat) (h : Bool) (ss : Nat)
  | movSQ (sd qn : Nat) (h : Bool)
  | movL (sd as_ : Nat) (off : Int)
  | movW (ss as_ : Nat) (off : Int)
  | movSM (sd : Nat) (beat : Bool)
  | xferD (td ts : Nat)
  | xferB (ad as_ sl : Nat)
  | ctxGet (sk ad : Nat)
  | ctxPut (sk as_ : Nat) (del : Bool)
  | send (ts ch : Nat)
  | egress (ts sm : Nat)
  | tileMvm (rc ts td pm : Nat)
  | tileLoad (rc ts rm : Nat)
  | tileRead (rc td pm : Nat)
  | tileChk (rc pd sd : Nat)
  | tileSight (rc : Nat)
  | vmm (ta tb td : Nat)
  | vmmE (ta tb td rc : Nat)
  | vadd (ta tb td : Nat) (bc sub : Bool)
  | vmul (ta tb td : Nat) (bc : Bool)
  | vact (ts td tbl fn rs : Nat)
  | vsmax (ts td : Nat)
  | vnormL (ts td tg re : Nat)
  | vnormR (ts td tg re : Nat)
  | vadapt (tw tg tm : Nat) (adaptive : Bool) (rh : Nat)
  | qscan (ts td : Nat)
  | qconv (ts td pm : Nat)
  | dq (ts td rc : Nat)
  deriving DecidableEq, Repr

/-- The memories with ECC that a region reads: its scratch or instruction memory (R236), its fast-weight SRAM (R207), HBM
(R587). -/
inductive EccMem where
  | region | fast | hbm
  deriving DecidableEq, Repr

/-- What error correction found in what a slot reads: nothing, a single-bit error, an uncorrectable one (R207, R236). -/
inductive Ecc where
  | clean
  | corrected (m : EccMem)
  | uncorrectable (m : EccMem)
  deriving DecidableEq, Repr

/-- The error is uncorrectable. -/
def Ecc.bad : Ecc → Bool
  | .uncorrectable _ => true
  | _ => false

/-- The error lies in one of these memories. -/
def Ecc.within (ms : List EccMem) : Ecc → Bool
  | .clean => true
  | .corrected m | .uncorrectable m => ms.contains m

/-- A slot of a bundle: guard, instruction, and what error correction finds in what it reads; on a NOP, in the fetch of its
bundle (R236). (DESIGN CHOICE, assumption log 97.) -/
structure Slot where
  g : Guard
  op : SlotOp
  ecc : Ecc := .clean
  deriving DecidableEq, Repr

/-- A register an instruction may write (R227). -/
inductive RegTarget where
  | s (n : Nat) | a (n : Nat) | p (n : Nat) | t (n : Nat) | q (n : Nat)
  deriving DecidableEq, Repr

/-- A register write in flight: the cycle at which it becomes visible (R241). -/
structure RegWrite where
  cycle : Nat
  target : RegTarget
  value : Nat
  deriving DecidableEq, Repr

/-- One bank of architected state (R227). Registers not listed hold zero. -/
structure Bank where
  s : Table Nat
  a : Table Nat
  /-- p0 to p7 in bits 0 to 7; bit 0 reads as 1 whatever is held. -/
  p : Nat
  t : Table Nat
  q : Table Nat
  pc : Nat
  /-- Loop stack, top first: count and start. -/
  loop : List (Nat × Nat)
  /-- Return stack, top first. -/
  ret : List Nat
  /-- Words of the two stacks above their depths, by offset in the bank's window (R264). -/
  above : Table Nat
  deriving DecidableEq, Repr

/-- PS_CTRL.STATE (R223). -/
inductive PsState where
  | free | loading | valid
  deriving DecidableEq, Repr

/-- A program slot (R264). -/
structure ProgSlot where
  st : PsState
  stream : Nat
  base : Nat
  len : Nat
  hold : Nat
  fabBound : Nat
  hbmBound : Nat
  actCount : Nat
  win : List Window
  deriving DecidableEq, Repr

/-- SEQ_STATUS.STATE (R264). -/
inductive SeqSt where
  | reset | idle | running | yielded | halted | quarantined
  deriving DecidableEq, Repr

/-- A trap cause with its place: code, slot class, late, software code, detail (R254, R264). -/
structure Trap where
  code : Nat
  slotClass : Nat
  late : Bool
  swCode : Nat
  info : Nat
  /-- The bundle of the faulting instruction. -/
  faultPc : Nat
  deriving DecidableEq, Repr

/-- The sequencer registers (R264, R292). -/
structure SeqRegs where
  st : SeqSt
  slot : Nat
  trapF : Bool
  overrunF : Bool
  testOverdueF : Bool
  yieldGapF : Bool
  eccCorrF : Bool
  startMissedF : Bool
  rxDropF : Bool
  cause : Nat
  slotClass : Nat
  late : Bool
  swCode : Nat
  multi : Nat
  trapPc : Nat
  faultPc : Nat
  trapInfo : Nat
  trapMer : Nat
  trapMerLatch : Nat
  resumePc : Nat
  trapTimeout : Nat
  stallMaxTile : Nat
  stallMaxFab : Nat
  stallMaxHbm : Nat
  trapCount : Nat
  overrunCount : Nat
  startSkipCount : Nat
  testOverdueCount : Nat
  yieldGapCount : Nat
  eccCorrCount : Nat
  rxDropCount : Nat
  ctxMissCount : Nat
  ctxDropCount : Nat
  egressLateCount : Nat
  sendDropCount : Nat
  scratchPage : Nat
  deriving DecidableEq, Repr

/-- The ends of an outstanding transfer (R283). -/
inductive XferKind where
  | localCopy | hbmRead | hbmWrite | remote | ctxGet | ctxPut
  deriving DecidableEq, Repr

/-- A transfer or context operation issued and not complete (R235, R283): its bytes were read at issue. -/
structure Xfer where
  id : Nat
  kind : XferKind
  /-- Destination pieces: sequencer address and bytes. -/
  writes : List (Nat × List Byte)
  /-- Token records that go with them: offset in the region's scratch and bytes (R284). -/
  recs : List (Nat × List Byte)
  stream : Nat
  key : Nat
  del : Bool
  /-- Cycle of completion where the transfer's cost fixes it (R283). -/
  doneAt : Nat
  pc : Nat
  /-- HBM requests it holds in the region's queue (R242). -/
  requests : Nat
  /-- The bytes it read from a corrupt shard, by their place among the bytes it moves (R405). -/
  poison : List Nat
  deriving DecidableEq, Repr

/-- What holds issue (R245, R246). -/
inductive TimeWait where
  /-- A WAITM until a Meridian instant, in Tc from frame 0. -/
  | until_ (at_ : Nat)
  /-- A WAITB until the next beat of the stream's almanac, by its start in Tc from frame 0. -/
  | beat (at_ : Nat)
  deriving DecidableEq, Repr

/-- Why a staged bundle has not issued (R242). -/
inductive StallSrc where
  | tile | fabric | hbm
  deriving DecidableEq, Repr

/-- A test posted to the region's queue (R248, R440). -/
structure TestEntry where
  /-- Unit word (R30, physical for a tile). -/
  unit : Nat
  code : Nat
  /-- Part of an ADCLIN in parts, from 0 (R441). -/
  part : Nat
  /-- Declared length in µs. -/
  len : Nat
  /-- Real time at which it fell due. -/
  dueAt : Nat
  overdue : Bool
  deriving DecidableEq, Repr

/-- One statistics slot (R185). Sums are FP64 patterns. -/
structure StatSlot where
  en : Bool
  tag : Nat
  flags : Nat
  conv : Nat
  tokenCount : Nat
  satCount : Nat
  zrangeCount : Nat
  misfitCount : Nat
  errSum : Nat
  sigSum : Nat
  nonfinCount : Nat
  escCount : Nat
  degradedCount : Nat
  lastMisfit : Nat
  convLatch : Nat
  errLatch : Nat
  sigLatch : Nat
  /-- Counts at the start of the second under way, for STAT_TRIG (R443). -/
  trigAt : Nat
  trigTokens : Nat
  trigMisfit : Nat
  trigNonfin : Nat
  deriving DecidableEq, Repr

/-- The DMU registers (R221). (DEDUCED, assumption log 58.) -/
structure DmuRegs where
  nonfinF : Bool
  satF : Bool
  maskedF : Bool
  eccCorrF : Bool
  eccUncorrF : Bool
  nonfinCount : Nat
  satCount : Nat
  maskedRowCount : Nat
  eccCorrCount : Nat
  adaptStepCount : Nat
  busyCycles : Nat
  busyLatch : Nat
  escBal : Table Nat
  escPriced : Table Nat
  /-- Streams whose reserve refused a re-run since their last refill (R191). -/
  escSpent : List Nat
  actBase : List Nat
  actStep : List Nat
  deriving DecidableEq, Repr

/-- ROUTER_STATUS.STATE (R376). -/
inductive RouterSt where
  | in_ | detouring | draining | reset | out
  deriving DecidableEq, Repr

/-- The region router (R371, R376). -/
structure Router where
  st : RouterSt
  /-- TT slots of the router are on detour slots. -/
  detour : Bool
  resetAsked : Bool
  /-- Meridian of the die manager's request (R371). -/
  since : Nat
  deriving DecidableEq, Repr

/-- A region. Memories are canonical: rising addresses, no zero byte listed. -/
structure Region where
  regs : SeqRegs
  ps : Table ProgSlot
  arch : Table Bank
  imem : Table Nat
  scratch : List (Nat × Byte)
  fw : List (Nat × Byte)
  act : List (Nat × Byte)
  rxwin : List Window
  /-- Microcode verified in the region's store (R262). -/
  microcode : Bool
  /-- Slots of the bundle being gathered, in arrival order. -/
  staged : List Slot
  /-- Bundles that wait at issue, oldest first (R237, R243). -/
  held : List (List Slot)
  /-- The stalls that hold the oldest of them, and the cycle on which they began (R242, R243). -/
  stalls : List StallSrc
  heldAt : Nat
  /-- Earliest issue cycle of the next bundle, counted from reset (R237). -/
  cyc : Nat
  pend : List RegWrite
  engineFree : Nat
  egressFree : Nat
  arrayFree : Nat
  /-- Cycle on which the last instruction in the array is complete (R200, R221). -/
  arrayDone : Nat
  pipeFree : Nat
  quantFree : Nat
  tileFree : Table Nat
  /-- Byte ranges a V-slot instruction writes, with completion cycle (R294): start, end, cycle. -/
  busy : List (Nat × Nat × Nat)
  /-- Byte ranges a V-slot instruction reads, with the cycle at which it is done (R294). -/
  busyR : List (Nat × Nat × Nat)
  xfers : List Xfer
  nextXfer : Nat
  /-- Flits in the injection queues of the region's flows (R355), by 2^16 × stream + 2^12 × destination kind +
  destination. -/
  inject : Table Nat
  wait : Option TimeWait
  /-- An activation is running or stopped in HALTED. -/
  active : Bool
  /-- Late traps kept for the bundle boundary, oldest first (R256, R257). -/
  lateTraps : List Trap
  haltAsked : Bool
  /-- Missed starts kept, by slot: instant and entry (R260). -/
  kept : Table (Nat × Nat)
  /-- Execution cycles since the last yield point (R252). -/
  sinceYield : Nat
  /-- The gap since the last yield point has been reported (R252). -/
  gapSeen : Bool
  tests : List TestEntry
  running : Option TestEntry
  /-- Issue resumes when the test ends: the yield came from YIELD.TEST. -/
  yieldedFrom : Bool
  /-- Real time at which the offer of that YIELD.TEST ends (R249). -/
  offerEnd : Nat
  stats : Table StatSlot
  dmu : DmuRegs
  router : Router
  health : Health
  eccAt : Option Nat
  /-- Instants of the corrected ECC errors of the last second (R428). -/
  corrTimes : List Nat
  obsEndedAt : Option Nat
  passes : Nat
  setDone : List Nat
  /-- Real time at which the test period under way began (R442). -/
  periodAt : Nat
  /-- A full set has been passed in the test period under way (R442). -/
  setFull : Bool
  /-- EVENT of the cause that began the observation (R447). -/
  obsEvent : Nat
  /-- Open egress group of a stream: number and frames (R277). -/
  groups : Table (Nat × Nat)
  dressAllow : Nat
  /-- Reset asked and waiting for a bundle boundary (R41). -/
  resetAsked : Bool
  /-- The region is lost: its streams were breached with REGION_LOST and wait (R434). -/
  lost : Bool
  /-- The region was reset and its programs have not been reloaded from the HBM program store (R263, R434). -/
  unloaded : Bool
  deriving DecidableEq, Repr

end Sys2Proof.Machine
end

