-- ==== Sys2Proof/Syntax.lean ====
section
/-! DEFINITION. The commands of the SX8: one constructor of `Instr` for each row of the table of operations and
events. A command carries what its event carries from outside: values measured, bytes received, outcomes of
physics and of cryptography (DESIGN CHOICE, assumption log 5).

Operand conventions: `who` is a BCP session 0-7, or 8 for the part's own firmware (R581); `r` a region,
6 × die + region (R347); `pt` a physical tile, 864 × die + p (R113); `lt` a logical tile,
768 × die + 128 × region + 8 × cluster + tile; `link` a link, d for the hub link of die d and 8 + d for the
ring link above die d; instants of Meridian are in Tc counted from frame 0; `ecc` what error
correction found in the words a slot reads, or, on a NOP, in the fetch of its bundle (R207, R236, R587); `badTrims` the
slots of trim entries found uncorrectable (R148). (DESIGN CHOICE, assumption log 97.) -/
namespace Sys2Proof

open Machine

/-- What the boot ROM meets at a start (R521, R522, R537, R599): the strap, the self-tests passed by row of R521, the
headers of the flash directory copies that pass their CRC, whether the image verifies at the first and at the second try,
the random BOOT_ID, and the records of the key store and of the placement log that fail authentication, by their position.
(DESIGN CHOICE, assumption log 5, DESIGN CHOICE, assumption log 85.) -/
structure BootEnv where
  recoveryHigh : Bool
  selfTests : Nat
  copyA : Option FwHeader
  copyB : Option FwHeader
  firstTry : Bool
  secondTry : Bool
  bootId : Nat
  badKeys : List Nat
  badLog : List Nat
  deriving DecidableEq, Repr

/-- One tile's reads of the start-up scan (R158): the analogue errors of the conversions of each zero read and of each level
read, in 1/256 code by slot. `ok`: the scan ran to its end. (DESIGN CHOICE, assumption log 5, DESIGN CHOICE, assumption log 25.) -/
structure ScanResult where
  tile : Nat
  ok : Bool
  zero : List (List Int)
  level : List (List Int)
  deriving DecidableEq, Repr

/-- A HELLO as received (R454): the facts of its certificate chain that R456 checks, and the SESSION_ID the SX8 would draw
for it. `ephemeralOk`: the pairwise test of the new key pair passes (R521). (DESIGN CHOICE, assumption log 5.) -/
structure HelloMsg where
  port : Nat
  peer : Nat
  version : Nat
  formatOk : Bool
  role : Role
  takeover : Bool
  payload : Nat
  nonce : Nat
  chainOk : Bool
  inPeriod : Bool
  selfSignedRoot : Bool
  rootHash : Nat
  leafKey : Nat
  sessionId : Nat
  ephemeralOk : Bool
  deriving DecidableEq, Repr

/-- The words of ANCHOR_SET (R510, R513), with the length of the body. -/
structure AnchorBody where
  length : Nat
  op : Nat
  slot : Nat
  ceiling : Nat
  reservedZero : Bool
  hash : Nat
  deriving DecidableEq, Repr

/-- The words of KEY_SET (R520), with the length of the body. -/
structure KeyBody where
  length : Nat
  op : Nat
  port : Nat
  prio : Nat
  cknLen : Nat
  reservedZero : Bool
  ckn : Nat
  cak : Nat
  deriving DecidableEq, Repr

/-- A debug unlock token (R543): the SHA-384 of its key, and whether its signature verifies. -/
structure DebugToken where
  length : Nat
  magic : Nat
  deviceId : Nat
  bootId : Nat
  scope : Nat
  reservedZero : Bool
  keyHash : Nat
  signatureOk : Bool
  deriving DecidableEq, Repr

/-- One section of a U-plane message (R483, R491): its PRBs, its compression header when present, and its bytes. -/
structure UplaneSection where
  startPrb : Nat
  numPrb : Nat
  compHdr : Nat
  data : List Byte
  deriving DecidableEq, Repr

/-- How what a register write starts turns out: an OTP burn (R569), the steps of an UNFENCE (R438); `races` are the flags that
hardware sets on the very cycle of the write (R14). -/
structure WriteEnv where
  races : Nat
  burnOk : Bool
  linkOk : Bool
  microcodeOk : Bool
  scans : List ScanResult
  testsOk : Bool
  deriving DecidableEq, Repr

/-- What a two-way exchange with a PTP master gives (R58, R63): its domain, and the master's time now. -/
structure SyncTime where
  domain : Nat
  time : Nat
  deriving DecidableEq, Repr

/-- What error correction found in the source of a transfer, and the places of the bytes it could not correct among those that
the transfer moves (R284, R587). -/
structure XferEcc where
  ecc : Ecc
  bad : List Nat
  deriving DecidableEq, Repr

/-- The dressing of a tile record of an epoch, with the errors of the reads that follow it (R119, R395). -/
structure TileDressing where
  record : Nat
  reads : List (List Int)
  deriving DecidableEq, Repr

/-- A manifest to be checked (R384): its model and version, the digest of its object and the hash of the key that signed it. -/
structure ManifestObject where
  model : Nat
  version : Nat
  digest : Nat
  keyHash : Nat
  deriving DecidableEq, Repr

/-- The hash of the key that signed a firmware package, and whether its signature holds (R532). -/
structure FwStamp where
  keyHash : Nat
  signatureOk : Bool
  deriving DecidableEq, Repr

/-- The body of a request (R467 to R472, R513, R520, R532 to R543): one constructor for each BCP command. -/
inductive BcpReq where
  | ping
  | close
  | sessionInfo
  | regRead (addr count : Nat)
  | regWrite (addr value : Nat) (env : WriteEnv)
  | timeOfDay (tai : Nat)
  | timeStep
  | admitOpen (stream tag length : Nat)
  | admitBlock (stream tag offset length : Nat) (data : List Byte)
  | admitCommit (stream tag : Nat) (records : List ClaimRecord)
  | admitStatus (stream : Nat)
  | release (stream tag : Nat)
  | modelOpen (model version length source sourceId : Nat)
  | modelBlock (model version offset length : Nat) (manifest : Bool) (data : List Byte)
  | modelManifest (model version digest keyHash : Nat) (signatureOk : Bool)
  | modelStatus (model version : Nat)
  | modelResume (model version : Nat)
  | modelDiscard (model version : Nat)
  | switch (model : Nat)
  | adapterRestore (model adapter : Nat)
  | redress (unit : Nat)
  | fwOpen (data : List Byte) (keyHash : Nat) (signatureOk : Bool)
  | fwBlock (version build offset length : Nat) (data : List Byte) (digest : Nat)
  | fwStatus (version build : Nat)
  | activate (option limit : Nat) (reservedZero : Bool)
  | attest (length nonce : Nat)
  | anchorSet (body : AnchorBody) (burned : Nat)
  | keySet (body : KeyBody)
  | debugUnlock (token : DebugToken)
  | test (unit codes : Nat)
  | restart (env : BootEnv)
  | noticeAck (nSeq : Nat)
  | noticeFetch (first count : Nat)
  | faultFetch (first count : Nat)
  deriving DecidableEq, Repr

/-- The plaintext of a DATA datagram (R459): shorter than 16 bytes, breaking the header's table or its command unknown,
or a request. -/
inductive BcpMsg where
  | short
  | bad
  | request (r : BcpReq)
  deriving DecidableEq, Repr

/-- The commands of the SX8, one for each row of the table of operations and events. (DESIGN CHOICE, assumption log 5.) -/
inductive Instr where
  /-- PACKAGE_RESET (R37). -/
  | packageReset (env : BootEnv) (released : Bool)
  /-- HUB_WATCHDOG_EXPIRY (R538). -/
  | hubWatchdogExpiry (env : BootEnv)
  /-- DIE_ENUMERATION (R550). -/
  | dieEnumeration (answers corrected bad : List Nat)
  /-- LINK_QUALIFICATION (R551). -/
  | linkQualification (link failures : Nat)
  /-- MICROCODE_BROADCAST (R262). -/
  | microcodeBroadcast (failed : List Nat)
  /-- HBM_TRAINING (R548). -/
  | hbmTraining (ok0 ok1 : Bool)
  /-- LOCK_WAIT_EXPIRY (R548). -/
  | lockWaitExpiry
  /-- STARTUP_SIGHTING_SCAN (R158). -/
  | startupSightingScan (results : List ScanResult)
  /-- READY (R555). -/
  | ready (burned : List Nat)
  /-- REGION_RESET (R41). -/
  | regionReset (r : Nat)
  /-- REGION_RESET_FORCED_STOP (R41). -/
  | regionResetForcedStop (r : Nat)
  /-- TILE_CTRL_RESET (R116). -/
  | tileCtrlReset (who pt : Nat)
  /-- FORWARDED_CLOCK_LOSS (R36). -/
  | forwardedClockLoss (die : Nat)
  /-- RAIL_FAULT (R594). -/
  | railFault
  /-- REFCLK_LOSS (R597). -/
  | refclkLoss
  /-- THERMAL_TRIP (R564). -/
  | thermalTrip (diode : Nat)
  /-- HUB_HALT_AFTER_TRIP (R564). -/
  | hubHaltAfterTrip
  /-- VPP_PCM_DROP (R595). -/
  | vppPcmDrop
  /-- VPP_PCM_RECOVER (R595). -/
  | vppPcmRecover
  /-- MERIDIAN_LO_READ (R47). -/
  | meridianLoRead (who : Nat)
  /-- FRAME_OFFSET_HI_WRITE (R50). -/
  | frameOffsetHiWrite (who value : Nat)
  /-- FRAME_OFFSET_STEP (R50). -/
  | frameOffsetStep
  /-- TB_CTRL_MODE_WRITE (R66). -/
  | tbCtrlModeWrite (who value : Nat)
  /-- REF_PRIO_WRITE (R77). -/
  | refPrioWrite (who value : Nat)
  /-- PTP_SYNC_EXCHANGE (R62). -/
  | ptpSyncExchange (quad : Nat) (time : SyncTime) (rate : Nat)
  /-- PTP_ANNOUNCE (R64). -/
  | ptpAnnounce (quad : Nat) (msg : PtpMsg)
  /-- ANNOUNCE_RECEIPT_TIMEOUT (R64). -/
  | announceReceiptTimeout (quad : Nat)
  /-- SYNC_EXCHANGE_TIMEOUT (R64). -/
  | syncExchangeTimeout (quad : Nat)
  /-- PPS_EDGE (R60). -/
  | ppsEdge (ahead : Nat) (rising : Bool)
  /-- PPS_EDGE_MISSING (R60). -/
  | ppsEdgeMissing
  /-- HOLDOVER_EXPIRY (R71). -/
  | holdoverExpiry
  /-- REPLICA_TIMESTAMP (R56). -/
  | replicaTimestamp (die : Nat) (difference : Int)
  /-- APPLY_STROBE (R85). -/
  | applyStrobe (pt : Nat) (shadowReady : Bool)
  /-- MVM_OUTPUT_COMPLETE (R102). -/
  | mvmOutputComplete (pt no : Nat) (errs : List Int) (badTrims : List Nat)
  /-- CHECK_VERDICT (R412). -/
  | checkVerdict (pt no : Nat)
  /-- ROW_TRIP (R92). -/
  | rowTrip (pt : Nat) (rows : List RowOver)
  /-- TONE_CTRL_START (R108). -/
  | toneCtrlStart (who pt : Nat)
  /-- TONE_CTRL_STOP (R109). -/
  | toneCtrlStop (who pt : Nat)
  /-- TONE_STROBE (R108). -/
  | toneStrobe (pt : Nat) (errs : List Int)
  /-- TONE_RUN_END (R109). -/
  | toneRunEnd (pt : Nat)
  /-- HIST_SEL_CLEAR (R109). -/
  | histSelClear (who pt : Nat)
  /-- DRESSING_START (R123). -/
  | dressingStart (pt : Nat)
  /-- DRESS_ROW (R122). -/
  | dressRow (pt : Nat) (reads : List (Nat × List Nat))
  /-- DRESSING_COMPLETE (R121). -/
  | dressingComplete (pt : Nat)
  /-- DRESS_ALLOW_WRITE (R123). -/
  | dressAllowWrite (who r value : Nat)
  /-- SIGHT_TIMER_TRIGGER (R136). -/
  | sightTimerTrigger (pt : Nat)
  /-- SIGHT_APPLY_TRIGGER (R136). -/
  | sightApplyTrigger (pt : Nat)
  /-- SIGHTING_INTERVAL (R133). -/
  | sightingInterval (pt : Nat)
  /-- SIGHTING_READ (R137). -/
  | sightingRead (pt : Nat) (errs : List Int)
  /-- SIGHT_CTRL_WRITE (R139). -/
  | sightCtrlWrite (who pt value : Nat)
  /-- SIGHT_PERIOD_WRITE (R136). -/
  | sightPeriodWrite (who pt value : Nat)
  /-- SIGHT_DELAY_WRITE (R136). -/
  | sightDelayWrite (who pt value : Nat)
  /-- TRIM_ENTRY_LOW_WRITE (R148). -/
  | trimEntryLowWrite (who die index value : Nat)
  /-- TRIM_ENTRY_HIGH_WRITE (R148). -/
  | trimEntryHighWrite (who die index value : Nat)
  /-- KAPPA_WRITE (R129). -/
  | kappaWrite (who pt value : Nat)
  /-- REDRESS_START (R153). -/
  | redressStart (lt : Nat)
  /-- TILE_MAP_SWITCH (R28). -/
  | tileMapSwitch (lt : Nat)
  /-- ACTIVATION_START (R224). -/
  | activationStart (r slot entry start : Nat)
  /-- ESC_BAL_REFILL (R214). -/
  | escBalRefill (stream : Nat)
  /-- STALL_OVERRUN (R244). -/
  | stallOverrun (r : Nat)
  /-- LATE_TRAP (R256). -/
  | lateTrap (r code slotClass info faultPc : Nat)
  /-- TRAP_TIMEOUT_EXPIRY (R259). -/
  | trapTimeoutExpiry (r : Nat)
  /-- SEQ_CTRL_HALT (R264). -/
  | seqCtrlHalt (who r : Nat)
  /-- SEQ_CTRL_RESUME (R259). -/
  | seqCtrlResume (who r : Nat)
  /-- SEQ_CTRL_ABORT (R259). -/
  | seqCtrlAbort (who r : Nat)
  /-- SEQ_CTRL_QUARANTINE (R259). -/
  | seqCtrlQuarantine (who r : Nat)
  /-- SEQ_CTRL_RELEASE (R264). -/
  | seqCtrlRelease (who r : Nat)
  /-- YIELD_GAP (R252). -/
  | yieldGap (r : Nat)
  /-- TEST_DUE (R442). -/
  | testDue (unit code part : Nat)
  /-- TEST_START (R250). -/
  | testStart (r code : Nat)
  /-- TEST_END (R249). -/
  | testEnd (r : Nat) (pass : Bool) (detail : Nat)
  /-- YIELD_OFFER_EXPIRY (R249). -/
  | yieldOfferExpiry (r : Nat)
  /-- TEST_OVERDUE (R253). -/
  | testOverdue (r index : Nat)
  /-- REMOTE_WRITE_ARRIVAL (R234). -/
  | remoteWriteArrival (r offset : Nat) (data : List Byte)
  /-- TRANSFER_COMPLETE (R235). -/
  | transferComplete (r id : Nat) (found : XferEcc)
  /-- NOP (R271). -/
  | nop (r : Nat) (g : Guard) (last : Bool) (cls : Nat) (ecc : Ecc)
  /-- BR (R271). -/
  | br (r : Nat) (g : Guard) (last : Bool) (target : Nat)
  /-- BRC (R271). -/
  | brc (r : Nat) (g : Guard) (last : Bool) (rs cond : Nat) (off : Int)
  /-- CALL (R273). -/
  | call (r : Nat) (g : Guard) (last : Bool) (target : Nat)
  /-- RET (R271). -/
  | ret (r : Nat) (g : Guard) (last : Bool)
  /-- LOOP_I (R271). -/
  | loopI (r : Nat) (g : Guard) (last : Bool) (count : Nat)
  /-- LOOP_R (R271). -/
  | loopR (r : Nat) (g : Guard) (last : Bool) (rs : Nat)
  /-- LOOP_E (R274). -/
  | loopE (r : Nat) (g : Guard) (last : Bool)
  /-- WAITM (R245). -/
  | waitm (r : Nat) (g : Guard) (last : Bool) (rs : Nat)
  /-- WAITM_RELEASE (R245). -/
  | waitmRelease (r : Nat)
  /-- WAITB (R246). -/
  | waitb (r : Nat) (g : Guard) (last : Bool)
  /-- WAITB_RELEASE (R246). -/
  | waitbRelease (r : Nat)
  /-- YIELD_TEST (R249). -/
  | yieldTest (r : Nat) (g : Guard) (last : Bool) (offer : Nat)
  /-- SEAL (R278). -/
  | seal (r : Nat) (g : Guard) (last : Bool)
  /-- HALT (R225). -/
  | halt (r : Nat) (g : Guard) (last : Bool)
  /-- TRAP (R279). -/
  | trap (r : Nat) (g : Guard) (last : Bool) (code : Nat)
  /-- ALU_ADD (R275). -/
  | aluAdd (r : Nat) (g : Guard) (last : Bool) (rd rs : Nat)
  /-- ALU_SUB (R275). -/
  | aluSub (r : Nat) (g : Guard) (last : Bool) (rd rs : Nat)
  /-- ALU_AND (R275). -/
  | aluAnd (r : Nat) (g : Guard) (last : Bool) (rd rs : Nat)
  /-- ALU_OR (R275). -/
  | aluOr (r : Nat) (g : Guard) (last : Bool) (rd rs : Nat)
  /-- ALU_XOR (R275). -/
  | aluXor (r : Nat) (g : Guard) (last : Bool) (rd rs : Nat)
  /-- ALU_SHL (R275). -/
  | aluShl (r : Nat) (g : Guard) (last : Bool) (rd rs : Nat)
  /-- ALU_SHR (R275). -/
  | aluShr (r : Nat) (g : Guard) (last : Bool) (rd rs : Nat)
  /-- ALU_SAR (R275). -/
  | aluSar (r : Nat) (g : Guard) (last : Bool) (rd rs : Nat)
  /-- ALU_MUL (R275). -/
  | aluMul (r : Nat) (g : Guard) (last : Bool) (rd rs : Nat)
  /-- ALU_MIN (R275). -/
  | aluMin (r : Nat) (g : Guard) (last : Bool) (rd rs : Nat)
  /-- ALU_MAX (R275). -/
  | aluMax (r : Nat) (g : Guard) (last : Bool) (rd rs : Nat)
  /-- ALU_MINU (R275). -/
  | aluMinu (r : Nat) (g : Guard) (last : Bool) (rd rs : Nat)
  /-- ALU_MAXU (R275). -/
  | aluMaxu (r : Nat) (g : Guard) (last : Bool) (rd rs : Nat)
  /-- ALU_MERADD (R276). -/
  | aluMeradd (r : Nat) (g : Guard) (last : Bool) (rd rs : Nat)
  /-- ALU_FADD (R275). -/
  | aluFadd (r : Nat) (g : Guard) (last : Bool) (rd rs : Nat)
  /-- ALU_FMUL (R275). -/
  | aluFmul (r : Nat) (g : Guard) (last : Bool) (rd rs : Nat)
  /-- ADDI (R271). -/
  | addi (r : Nat) (g : Guard) (last : Bool) (rd : Nat) (imm : Int)
  /-- MOVI (R271). -/
  | movi (r : Nat) (g : Guard) (last : Bool) (rd : Nat) (imm : Int)
  /-- SHLI (R271). -/
  | shli (r : Nat) (g : Guard) (last : Bool) (rd sh : Nat)
  /-- SHRI (R271). -/
  | shri (r : Nat) (g : Guard) (last : Bool) (rd sh : Nat)
  /-- SARI (R271). -/
  | sari (r : Nat) (g : Guard) (last : Bool) (rd sh : Nat)
  /-- CMP_EQ (R271). -/
  | cmpEq (r : Nat) (g : Guard) (last : Bool) (pd rs rt : Nat)
  /-- CMP_NE (R271). -/
  | cmpNe (r : Nat) (g : Guard) (last : Bool) (pd rs rt : Nat)
  /-- CMP_LT (R271). -/
  | cmpLt (r : Nat) (g : Guard) (last : Bool) (pd rs rt : Nat)
  /-- CMP_LE (R271). -/
  | cmpLe (r : Nat) (g : Guard) (last : Bool) (pd rs rt : Nat)
  /-- CMP_LTU (R271). -/
  | cmpLtu (r : Nat) (g : Guard) (last : Bool) (pd rs rt : Nat)
  /-- CMP_LEU (R271). -/
  | cmpLeu (r : Nat) (g : Guard) (last : Bool) (pd rs rt : Nat)
  /-- LIMM (R269). -/
  | limm (r : Nat) (last : Bool) (sd : Nat) (h sx : Bool) (imm : Nat)
  /-- MOV_S (R280). -/
  | movS (r : Nat) (g : Guard) (last : Bool) (sd ss : Nat)
  /-- MOV_SA (R280). -/
  | movSa (r : Nat) (g : Guard) (last : Bool) (ad ss : Nat)
  /-- MOV_AS (R280). -/
  | movAs (r : Nat) (g : Guard) (last : Bool) (sd as_ : Nat)
  /-- MOV_AI (R280). -/
  | movAi (r : Nat) (g : Guard) (last : Bool) (ad : Nat) (imm : Int)
  /-- MOV_AA (R280). -/
  | movAa (r : Nat) (g : Guard) (last : Bool) (ad ss : Nat)
  /-- MOV_TA (R280). -/
  | movTa (r : Nat) (g : Guard) (last : Bool) (tn as_ : Nat)
  /-- MOV_TS (R281). -/
  | movTs (r : Nat) (g : Guard) (last : Bool) (tn fld ss : Nat)
  /-- MOV_ST (R281). -/
  | movSt (r : Nat) (g : Guard) (last : Bool) (sd tn fld : Nat)
  /-- MOV_PS (R280). -/
  | movPs (r : Nat) (g : Guard) (last : Bool) (ss : Nat)
  /-- MOV_SP (R280). -/
  | movSp (r : Nat) (g : Guard) (last : Bool) (sd : Nat)
  /-- MOV_QS (R280). -/
  | movQs (r : Nat) (g : Guard) (last : Bool) (qn : Nat) (h : Bool) (ss : Nat)
  /-- MOV_SQ (R280). -/
  | movSq (r : Nat) (g : Guard) (last : Bool) (sd qn : Nat) (h : Bool)
  /-- MOV_L (R282). -/
  | movL (r : Nat) (g : Guard) (last : Bool) (sd as_ : Nat) (off : Int) (ecc : Ecc)
  /-- MOV_W (R282). -/
  | movW (r : Nat) (g : Guard) (last : Bool) (ss as_ : Nat) (off : Int)
  /-- MOV_SM (R282). -/
  | movSm (r : Nat) (g : Guard) (last : Bool) (sd : Nat) (beat : Bool)
  /-- XFER_D (R284). -/
  | xferD (r : Nat) (g : Guard) (last : Bool) (td ts : Nat)
  /-- XFER_B (R284). -/
  | xferB (r : Nat) (g : Guard) (last : Bool) (ad as_ sl : Nat)
  /-- CTX_GET (R286). -/
  | ctxGet (r : Nat) (g : Guard) (last : Bool) (sk ad : Nat)
  /-- CTX_PUT (R286). -/
  | ctxPut (r : Nat) (g : Guard) (last : Bool) (sk as_ : Nat) (del : Bool) (ecc : Ecc)
  /-- SEND (R289). -/
  | send (r : Nat) (g : Guard) (last : Bool) (ts ch : Nat) (ecc : Ecc)
  /-- EGRESS (R290). -/
  | egress (r : Nat) (g : Guard) (last : Bool) (ts sm : Nat) (ecc : Ecc)
  /-- TILE_MVM (R297). -/
  | tileMvm (r : Nat) (g : Guard) (last : Bool) (rc ts td pm : Nat) (ecc : Ecc)
  /-- TILE_LOAD (R303). -/
  | tileLoad (r : Nat) (g : Guard) (last : Bool) (rc ts rm : Nat) (ecc : Ecc)
  /-- TILE_READ (R304). -/
  | tileRead (r : Nat) (g : Guard) (last : Bool) (rc td pm : Nat)
  /-- TILE_CHK (R305). -/
  | tileChk (r : Nat) (g : Guard) (last : Bool) (rc pd sd : Nat)
  /-- TILE_SIGHT (R306). -/
  | tileSight (r : Nat) (g : Guard) (last : Bool) (rc : Nat)
  /-- VMM (R309). -/
  | vmm (r : Nat) (g : Guard) (last : Bool) (ta tb td : Nat) (ecc : Ecc)
  /-- VMM_E (R310). -/
  | vmmE (r : Nat) (g : Guard) (last : Bool) (ta tb td rc : Nat) (ecc : Ecc)
  /-- VADD (R311). -/
  | vadd (r : Nat) (g : Guard) (last : Bool) (ta tb td : Nat) (bc sub : Bool) (ecc : Ecc)
  /-- VMUL (R311). -/
  | vmul (r : Nat) (g : Guard) (last : Bool) (ta tb td : Nat) (bc : Bool) (ecc : Ecc)
  /-- VACT (R208). -/
  | vact (r : Nat) (g : Guard) (last : Bool) (ts td tbl fn rs : Nat) (ecc : Ecc)
  /-- VSMAX (R211). -/
  | vsmax (r : Nat) (g : Guard) (last : Bool) (ts td : Nat) (ecc : Ecc)
  /-- VNORM_L (R212). -/
  | vnormL (r : Nat) (g : Guard) (last : Bool) (ts td tg re : Nat) (ecc : Ecc)
  /-- VNORM_R (R212). -/
  | vnormR (r : Nat) (g : Guard) (last : Bool) (ts td tg re : Nat) (ecc : Ecc)
  /-- VADAPT (R312). -/
  | vadapt (r : Nat) (g : Guard) (last : Bool) (tw tg tm : Nat) (adaptive : Bool) (rh : Nat) (ecc : Ecc)
  /-- QSCAN (R313). -/
  | qscan (r : Nat) (g : Guard) (last : Bool) (ts td : Nat) (ecc : Ecc)
  /-- QCONV (R174). -/
  | qconv (r : Nat) (g : Guard) (last : Bool) (ts td pm : Nat) (ecc : Ecc)
  /-- DQ (R177). -/
  | dq (r : Nat) (g : Guard) (last : Bool) (ts td rc : Nat) (ecc : Ecc)
  /-- STAT_TAG_WRITE (R185). -/
  | statTagWrite (who r slot value : Nat)
  /-- STAT_LO_READ (R185). -/
  | statLoRead (who r slot pair : Nat)
  /-- BUSY_CYCLES_LO_READ (R221). -/
  | busyCyclesLoRead (who r : Nat)
  /-- TRAP_MER_LO_READ (R264). -/
  | trapMerLoRead (who r : Nat)
  /-- REPORT_SEQ_LO_READ (R505). -/
  | reportSeqLoRead (who : Nat)
  /-- EGRESS_GROUP_TIMEOUT (R277). -/
  | egressGroupTimeout (r stream : Nat)
  /-- EGRESS_DATA_ARRIVAL (R291). -/
  | egressDataArrival (r : Nat)
  /-- RESULT_VERDICT (R421). -/
  | resultVerdict (stream seq : Nat)
  /-- EGRESS_INSTANT (R334). -/
  | egressInstant (stream slot instant : Nat)
  /-- SEAL_FRAME (R422). -/
  | sealFrame (stream group : Nat)
  /-- CLAIM_EVALUATION (R330). -/
  | claimEvaluation
  /-- ALMANAC_BANK_EXCHANGE (R321). -/
  | almanacBankExchange
  /-- STREAM_FREE (R314). -/
  | streamFree (stream : Nat)
  /-- PKG_LIMIT_WRITE (R339). -/
  | pkgLimitWrite (who value : Nat)
  /-- REGION_DARK_WRITE (R325). -/
  | regionDarkWrite (who r word value : Nat)
  /-- DARK_SLOT_START (R325). -/
  | darkSlotStart (unit : Nat)
  /-- DARK_SLOT_END (R325). -/
  | darkSlotEnd (unit : Nat)
  /-- FABRIC_SLOT_BOUNDARY (R352). -/
  | fabricSlotBoundary (r : Nat)
  /-- NOTICE_RESEND (R469). -/
  | noticeResend (session : Nat)
  /-- LINK_FRAME_RECEIVE (R364). -/
  | linkFrameReceive (link far : Nat) (crcOk late : Bool)
  /-- RETRAIN_COMPLETE (R365). -/
  | retrainComplete (link failures : Nat)
  /-- LINK_CTRL_RETRAIN (R375). -/
  | linkCtrlRetrain (who link far : Nat)
  /-- LINK_CTRL_UNFENCE (R369). -/
  | linkCtrlUnfence (who link far : Nat)
  /-- BE_PACKET_TIMEOUT (R363). -/
  | bePacketTimeout (unit packet : Nat)
  /-- ROUTER_CTRL_RESET (R371). -/
  | routerCtrlReset (who r : Nat)
  /-- ROUTER_SLOT_MOVE (R371). -/
  | routerSlotMove (r instant : Nat)
  /-- ROUTER_DRAIN_END (R371). -/
  | routerDrainEnd (r flits : Nat)
  /-- ROUTER_LINKS_TRAINED (R371). -/
  | routerLinksTrained (r : Nat)
  /-- ROUTER_REJOIN (R373). -/
  | routerRejoin (r : Nat)
  /-- SHARD_COMPLETE (R390). -/
  | shardComplete (slot area shard digest : Nat)
  /-- SHARD_TIMEOUT_EXPIRY (R391). -/
  | shardTimeoutExpiry (slot area shard : Nat)
  /-- IDLE_LIMIT_EXPIRY (R392). -/
  | idleLimitExpiry (slot area : Nat)
  /-- SHARD_REQ_FRAME (R393). -/
  | shardReqFrame (port mac model version shard : Nat) (icvOk : Bool)
  /-- SHARD_DATA_FRAME (R489). -/
  | shardDataFrame (port mac model version shard offset : Nat) (icvOk : Bool) (data : List Byte)
  /-- EPOCH_TILE_DRESS (R395). -/
  | epochTileDress (slot area : Nat) (dressing : TileDressing)
  /-- SWITCH_INSTANT (R400). -/
  | switchInstant (slot r : Nat)
  /-- SHARD_REHASH (R404). -/
  | shardRehash (slot area shard digest : Nat)
  /-- TILE_AUDIT (R406). -/
  | tileAudit (pt deviations : Nat)
  /-- FENCE_CTRL_FENCE (R437). -/
  | fenceCtrlFence (who die : Nat)
  /-- FENCE_CTRL_UNFENCE (R438). -/
  | fenceCtrlUnfence (who die : Nat) (linkOk microcodeOk : Bool) (scans : List ScanResult) (testsOk : Bool)
  /-- DM_WATCHDOG_MISS (R437). -/
  | dmWatchdogMiss (die : Nat)
  /-- REGION_REPLACEMENT (R435). -/
  | regionReplacement (stream target : Nat) (admitOk : Bool)
  /-- REMAP_LIMIT_EXPIRY (R435). -/
  | remapLimitExpiry (stream : Nat)
  /-- FAULT_MERGE_WINDOW_END (R447). -/
  | faultMergeWindowEnd (pt : Nat)
  /-- HELLO (R454). -/
  | hello (m : HelloMsg)
  /-- FINISH (R454). -/
  | finish (port peer id : Nat) (formatOk signatureOk : Bool)
  /-- DATA_DATAGRAM (R453). -/
  | dataDatagram (port peer id record seq fingerprint : Nat) (outerOk tagOk : Bool) (msg : BcpMsg)
  /-- HELD_REQUEST_EXECUTE (R460). -/
  | heldRequestExecute (session : Nat)
  /-- HANDSHAKE_TIMEOUT (R457). -/
  | handshakeTimeout (id : Nat)
  /-- BCP_IDLE_EXPIRY (R458). -/
  | bcpIdleExpiry (session : Nat)
  /-- CONVERSATION_HOLD_EXPIRY (R470). -/
  | conversationHoldExpiry (kind index : Nat)
  /-- PING (R467). -/
  | ping (session : Nat)
  /-- CLOSE (R458). -/
  | close (session : Nat)
  /-- SESSION_INFO (R467). -/
  | sessionInfo (session : Nat)
  /-- REG_READ (R468). -/
  | regRead (session addr count : Nat)
  /-- REG_WRITE (R468). -/
  | regWrite (session addr value : Nat) (env : WriteEnv)
  /-- TIME_OF_DAY (R60). -/
  | timeOfDay (session tai : Nat)
  /-- TIME_STEP (R73). -/
  | timeStep (session : Nat)
  /-- ADMIT_OPEN (R471). -/
  | admitOpen (session stream tag length : Nat)
  /-- ADMIT_BLOCK (R465). -/
  | admitBlock (session stream tag offset length : Nat) (data : List Byte)
  /-- ADMIT_COMMIT (R471). -/
  | admitCommit (session stream tag : Nat) (records : List ClaimRecord)
  /-- ADMIT_STATUS (R471). -/
  | admitStatus (session stream : Nat)
  /-- RELEASE (R314). -/
  | release (session stream tag : Nat)
  /-- MODEL_OPEN (R472). -/
  | modelOpen (session model version length source sourceId : Nat)
  /-- MODEL_BLOCK (R389). -/
  | modelBlock (session model version offset length : Nat) (manifest : Bool) (data : List Byte)
  /-- MODEL_MANIFEST (R384). -/
  | modelManifest (session : Nat) (object : ManifestObject) (signatureOk : Bool)
  /-- MODEL_STATUS (R472). -/
  | modelStatus (session model version : Nat)
  /-- MODEL_RESUME (R392). -/
  | modelResume (session model version : Nat)
  /-- MODEL_DISCARD (R403). -/
  | modelDiscard (session model version : Nat)
  /-- SWITCH (R397). -/
  | switch (session model : Nat)
  /-- ADAPTER_RESTORE (R220). -/
  | adapterRestore (session model adapter : Nat)
  /-- REDRESS (R152). -/
  | redress (session unit : Nat)
  /-- FW_OPEN (R532). -/
  | fwOpen (session : Nat) (data : List Byte) (stamp : FwStamp)
  /-- FW_BLOCK (R534). -/
  | fwBlock (session version build offset length : Nat) (data : List Byte) (digest : Nat)
  /-- FW_STATUS (R536). -/
  | fwStatus (session version build : Nat)
  /-- ACTIVATE (R540). -/
  | activate (session option limit : Nat) (reservedZero : Bool)
  /-- ATTEST (R519). -/
  | attest (session length nonce : Nat)
  /-- ANCHOR_SET (R513). -/
  | anchorSet (session : Nat) (body : AnchorBody) (burned : Nat)
  /-- KEY_SET (R520). -/
  | keySet (session : Nat) (body : KeyBody)
  /-- DEBUG_UNLOCK (R543). -/
  | debugUnlock (session : Nat) (token : DebugToken)
  /-- TEST (R443). -/
  | test (session unit codes : Nat)
  /-- RESTART (R37). -/
  | restart (session : Nat) (env : BootEnv)
  /-- NOTICE_ACK (R469). -/
  | noticeAck (session nSeq : Nat)
  /-- NOTICE_FETCH (R467). -/
  | noticeFetch (session first count : Nat)
  /-- FAULT_FETCH (R467). -/
  | faultFetch (session first count : Nat)
  /-- FLASH_WRITE_COMPLETE (R535). -/
  | flashWriteComplete (ok : Bool)
  /-- ACTIVATION_RESTART (R541). -/
  | activationRestart (env : BootEnv)
  /-- TRNG_HEALTH_FAIL (R523). -/
  | trngHealthFail
  /-- TRNG_RETEST (R523). -/
  | trngRetest (pass : Bool)
  /-- PORT_TRAINING_COMPLETE (R478). -/
  | portTrainingComplete (port lanes rate : Nat) (trained : Bool)
  /-- PORT_RETRY_TIMER (R479). -/
  | portRetryTimer
  /-- PORT_LINK_LOSS (R480). -/
  | portLinkLoss (port : Nat)
  /-- QUAD_CFG_WRITE (R481). -/
  | quadCfgWrite (who value : Nat)
  /-- UPLANE_FRAME (R491). -/
  | uplaneFrame (port mac eaxc seq frameId subframe slot symbol : Nat) (ok : Bool) (sections : List UplaneSection) (bytes : Nat)
  /-- TENSOR_FRAME (R488). -/
  | tensorFrame (port mac flow seq mer token0 fmt : Nat) (ok : Bool) (tokens : List (List Byte)) (records : List Nat) (bytes : Nat)
  /-- FABRIC_FRAME (R489). -/
  | fabricFrame (port mac channel seq : Nat) (ok icvOk : Bool) (data : List Byte)
  /-- QUAR_HOLD_EXPIRY (R496). -/
  | quarHoldExpiry (partner : Nat)
  /-- P_CTRL_RELEASE (R496). -/
  | pCtrlRelease (who partner : Nat)
  /-- BATCH_CUTOFF (R493). -/
  | batchCutoff (stream : Nat)
  /-- MKA_FRAME (R497). -/
  | mkaFrame (port ckn peer : Nat) (icvOk : Bool) (sci : Nat) (serverKey : Bool)
  /-- MKA_LIFE_EXPIRY (R497). -/
  | mkaLifeExpiry (port : Nat)
  /-- PAB_DATAGRAM (R500). -/
  | pabDatagram (port kind src : Nat) (forUs : Bool)
  /-- REPORT_DATAGRAM_SEND (R502). -/
  | reportDatagramSend
  /-- REPORT_HEARTBEAT (R502). -/
  | reportHeartbeat
  /-- THERMAL_SAMPLE (R561). -/
  | thermalSample (sensor : Nat) (reading : Int) (fault : Bool)
  /-- PKG_POWER_UPDATE (R565). -/
  | pkgPowerUpdate (milliwatts : Nat)
  /-- SET_COMMIT (R569). -/
  | setCommit (who value : Nat) (burnOk : Bool)
  /-- DRAIN_LIMIT_EXPIRY (R540). -/
  | drainLimitExpiry
  /-- DIE_MANAGER_RESTART (R37). -/
  | dieManagerRestart (die : Nat)
  /-- PORT_AB_LINK_CHANGE (R505). -/
  | portAbLinkChange (port : Nat) (up : Bool)
  /-- TEST_ACCESS_PORT_OPERATION (R601). -/
  | testAccessPortOperation (instr : Nat)
  /-- MIGRATION_COMPLETE (R542). -/
  | migrationComplete
  /-- TEST_PERIOD_END (R442). -/
  | testPeriodEnd (unit : Nat)
  /-- MKA_HELLO_TIMER (R497). -/
  | mkaHelloTimer
  deriving DecidableEq, Repr

end Sys2Proof
end

