-- ==== Sys2Proof/Machine/State.lean ====
section
/-! DEFINITION. The state of the SX8 with its queue of waiting commands, the reasons a command can stop, and the
state right after a package reset. Every reset value is the one the registers' chapters give; the values the spec
leaves open are listed in DESIGN CHOICE, assumption log 6. -/
namespace Sys2Proof.Machine

/-- One end of a hub or ring link (R375). -/
structure LinkEnd where
  thrHitF : Bool
  retrainedF : Bool
  fencedF : Bool
  clockLostF : Bool
  errWin : Nat
  /-- Link frames of the window under way (R364). -/
  frames : Nat
  errCount : Nat
  replayCount : Nat
  retrainCount : Nat
  lateReplayCount : Nat
  deriving DecidableEq, Repr

/-- LINK_STATUS.STATE (R375). -/
inductive LinkSt where
  | down | training | up | retraining | fenced
  deriving DecidableEq, Repr

/-- A hub or ring link with its two ends: the hub or the lower die first (R375, R376). -/
structure Link where
  st : LinkSt
  near : LinkEnd
  far : LinkEnd
  /-- Qualifications failed in a row (R365). -/
  fails : Nat
  /-- Real times of the retrains within FENCE_PERIOD (R367). -/
  retrains : List Nat
  deriving DecidableEq, Repr

/-- DM_STATUS.STATE (R584). -/
inductive DmSt where
  | reset | inService | computeReset | fenced
  deriving DecidableEq, Repr

/-- A compute die: its die manager (R584) and its OTP (R608). -/
structure Die where
  dm : DmSt
  wdogMissF : Bool
  otpEccF : Bool
  wdogMissCount : Nat
  /-- Watchdog messages missed in a row (R437). -/
  wdogRow : Nat
  /-- Real time of the last of them. -/
  wdogAt : Nat
  /-- Replica disagreements in a row (R56). -/
  replicaBad : Nat
  /-- TTW_SEL.BANK of the die manager's firmware (R583). -/
  bank : Nat
  ident : Nat
  stepping : Nat
  /-- The park code, 4 bits (R89). -/
  park : Nat
  digest : Nat
  /-- Physical tiles found faulty at manufacture. -/
  faulty : List Nat
  /-- Repair entries as burned, oldest first. -/
  repairs : List Nat
  /-- The die OTP array has an uncorrectable error, met at step 5 of start-up (R548). -/
  otpBad : Bool
  dressFailCount : Nat
  beWeight : Nat
  drainDropCount : Nat
  /-- The die manager holds a verified microcode image (R263). -/
  microcode : Bool
  /-- The maps of R26 have been built from the die OTP and the placement log (R157, R552). -/
  mapped : Bool
  deriving DecidableEq, Repr

/-- What travels on the fabric and has not arrived. -/
structure EgressPacket where
  region : Nat
  /-- The egress instant named, in Tc from frame 0. -/
  instant : Nat
  pc : Nat
  /-- The frame to be; SEQ and the hub's flags come when it reaches the hub. GROUP and GIDX stand in every egress mode
  and leave only in cut-through. -/
  frame : ResultFrame
  deriving DecidableEq, Repr

/-- Links of the fabric: from router to router of a die, gateway ports, hub links, ring links, crossbar ports, each in
one direction. -/
inductive FabLink where
  | mesh (die a b : Nat)
  | gate (die row : Nat) (out : Bool)
  | hub (die : Nat) (up : Bool)
  | ring (die : Nat) (up : Bool)
  | cross (port : Nat) (out : Bool)
  deriving DecidableEq, Repr

/-- What feeds an input of an arbiter: a leaf, or the link before it (R359, R361). -/
inductive BeSource where
  | leaf (n : Nat)
  | link (l : FabLink)
  deriving DecidableEq, Repr

/-- A best-effort packet (R349): its leaf, its size, the links still ahead of it, and the SHARE stamped into its flits
(R360). -/
structure BePacket where
  leaf : Nat
  bytes : Nat
  route : List FabLink
  share : Nat
  deriving DecidableEq, Repr

/-- An input of an arbiter that holds a packet for its output: its latest SHARE and its deficit in bytes (R360, R361). -/
structure BeInput where
  src : BeSource
  share : Nat
  deficit : Nat
  queue : List BePacket
  deriving DecidableEq, Repr

/-- The arbiter of a link's output (R361): its inputs in the order of the rotation, the one it has reached first, and whether that
one has had its addition. -/
structure Arbiter where
  out : FabLink
  inputs : List BeInput
  added : Bool
  deriving DecidableEq, Repr

/-- The hub fabric block (R375) and what is on the fabric. -/
structure Fabric where
  detourF : Bool
  errWindow : Nat
  errThr : Nat
  fenceRetrains : Nat
  fencePeriod : Nat
  hubWeight : List Nat
  links : Table Link
  /-- EGRESS data on its way to the hub, oldest first. -/
  egress : List EgressPacket
  /-- BE packets sent again once: leaf and packet (R363). -/
  beResent : List (Nat × Nat)
  /-- Time-triggered slots that could not be kept in a detour: region and stream (R372). -/
  lostSlots : List (Nat × Nat)
  deriving DecidableEq, Repr

/-- What leaves the package. (DESIGN CHOICE, assumption log 28.) -/
inductive Out where
  /-- A BCP reply: session, command code, status and body words. -/
  | reply (session cmd status : Nat) (body : List Nat)
  /-- A handshake or datagram answered in clear: port, peer, kind, reason. -/
  | handshake (port peer kind reason : Nat)
  /-- An OUTCOME message (R471). -/
  | outcome (session stream tag state : Nat)
  /-- A CLOSE message with its reason (R458, R459). -/
  | closed (session reason : Nat)
  /-- A NOTICE message (R469). -/
  | notice (session nSeq : Nat)
  /-- A RESULT frame on a data port (R485). -/
  | result (port : Nat) (frame : ResultFrame)
  /-- A RECALL or a SEAL frame (R422, R487): MER of the first frame, COUNT, FAIL_MAP; a RECALL with the sequence
  numbers it names. -/
  | recall (port stream group mer count failMap : Nat) (seqs : List Nat)
  | sealFrame (port stream group mer count failMap : Nat)
  /-- An inter-package fabric frame (R489). -/
  | fabric (mac channel : Nat) (data : List Byte)
  /-- A SHARD_REQ, or a SHARD_DATA run (R393). -/
  | shardReq (mac model version shard : Nat)
  | shardData (mac model version shard : Nat)
  /-- A report datagram on port B (R501): collector, BOOT_ID, RSEQ, the Meridian value at sending, and items. -/
  | report (coll bootId rseq mer : Nat) (items : List ReportItem)
  /-- An answer of port A or B to ARP, neighbour discovery or echo (R500). -/
  | pab (port kind : Nat)
  /-- An MKPDU (R497). -/
  | mka (port msgNo : Nat)
  /-- A notice about a model load: session, or 8 for port B; the status, what it names, and shards (R392, R395,
  R404). -/
  | modelNotice (session model version status index : Nat) (shards : List Nat)
  /-- A request to the board flash writer or a record written there (R126, R528). -/
  | placement (kind pt lt model epoch count : Nat)
  /-- Bits shifted out of the test access port (R601). -/
  | tap (value : Nat)
  deriving DecidableEq, Repr

/-- A record of the placement log in board flash (R126, R528). -/
structure PlacementRecord where
  lseq : Nat
  /-- 1 dressed, 2 map switch, 3 freed, 4 faulty (R528); 0, the model's own, a repair (R120), whose KIND the spec does
  not give. -/
  kind : Nat
  pt : Nat
  lt : Nat
  model : Nat
  version : Nat
  epoch : Nat
  count : Nat
  /-- The shards that hold the tile's codes (R126, R528). -/
  shardFirst : Nat
  shardLast : Nat
  /-- Its tag is under the log key of MODE DEBUG (R517, R544). -/
  debugKey : Bool
  deriving DecidableEq, Repr

/-- A request held until every lower SEQ of its session has been executed (R460). -/
structure HeldRequest where
  session : Nat
  seq : Nat
  fingerprint : Nat
  msg : BcpMsg
  deriving DecidableEq, Repr

/-- Everything of the SX8 but the queue of commands. -/
structure Device where
  /-- The model's own: how many values the spec leaves open have been used. -/
  free : Nat
  clk : Clock
  tb : Timebase
  start : StartUp
  therm : Thermal
  settings : Settings
  pins : Pins
  sec : Security
  bcp : Bcp
  /-- Requests held for their SEQ turn (R460). -/
  held : List HeldRequest
  dp : DataPorts
  pab : Pab
  adm : Admission
  mm : ModelMgr
  flt : Faults
  hbm : Hbm
  fab : Fabric
  /-- Arbiter outputs of the fabric that hold best-effort packets (R359 to R361). -/
  be : List Arbiter
  dies : Table Die
  regions : Table Region
  tiles : Table Tile
  clusters : Table Cluster
  hostScratch : Nat
  /-- GLB_EVENT (R586), by bit. -/
  glbEvent : Nat
  /-- The placement log in board flash, oldest first. -/
  placement : List PlacementRecord
  /-- What has left the package, newest first. -/
  out : List Out
  deriving DecidableEq, Repr

/-- The SX8 with the commands that wait, first in, first out. -/
structure State where
  dev : Device
  pending : List Instr
  deriving DecidableEq, Repr

/-- Why the block stops with a fault: no command does. A command the SX8 refuses is answered with a status code
(R466), and a read of any address answers. -/
inductive Fault where
  deriving DecidableEq, Repr

/-- Why a command has no meaning. -/
inductive Refusal where
  /-- Raised by an arm whose command has no meaning yet. Safe. -/
  | notModelled (mnemonic : String)
  /-- Raised by TEST_ACCESS_PORT_OPERATION in MODE DEBUG: the debug scope of R543 opens a unit whose behaviour
  the spec does not give. Safe. -/
  | debugScope
  deriving DecidableEq, Repr

/-! ### Reset values -/

/-- Meridian at power-on (R44). -/
def Clock.reset : Clock := { cycles := 0, frame := 0, tc := 0, acc := 0, slew := 0, slewAcc := 0, since := 0, done := [], latch := 0 }

/-- A time reference not yet seen. -/
def Source.reset : Source :=
  { live := false, refused := false, clockClass := 0, master := none, count := 0, qualified := false, first := 0, last := 0,
    announceAt := 0, exchangeAt := 0, rate := 16 }

/-- The timebase after a package reset (R76). -/
def Timebase.reset : Timebase :=
  { mode := 0, ptpEn := false, ppsEn := false, ptpDomain := 24, classMax := 135, st := .freerun, refSrc := 15,
    loss := false, expired := false, stepBlocked := false, lateEvent := false, replicaErr := false,
    frameOffset := 0, frameOffsetLo := 0, frameOffsetHi := 0, stepPending := none, stepAt := 0, oscStab := 50, teLimit := 500,
    lockTe := 100, stepThreshold := 1000, slewMax := 10, refPrio := 0x0000FFFF, phaseOffset := 0, freqEst := 0,
    freqUnc := 0, freqChanges := [], lateEvents := 0, asym := [0, 0, 0, 0],
    sources := [.reset, .reset, .reset, .reset, .reset], lastGoodAt := 0, lastGoodOff := 0, holdLen := 0,
    ppsTai := [], ppsLast := none, ppsAt := none, blockedSrc := none, ptpDiscards := 0 }

/-- The start-up block (R575). -/
def StartUp.reset : StartUp :=
  { st := .reset, step := 0, minDies := 1, lockWait := 5, startTime := 0, capDies := 0, capTiles := 0, capLinks := 0,
    flagRaceCount := 0, startedAt := 0, isRestart := false, hbmFails := 0, lockDone := false,
    scanDone := false, stepAt := 0 }

/-- The thermal block (R574). -/
def Thermal.reset : Thermal :=
  { k := 0, tripped := false, warnF := false, stepUpF := false, sensorFaultF := false, overLimitF := false,
    tWarn := 95, tLimit := 105, hyst := 2, stepUp := 10, stepDown := 1000, hotSensor := 0, hotReading := 0,
    pkgPower := 0, stepCount := 0, sensorFaultCount := 0, sensors := [], kChangedAt := none,
    overReportedAt := none, hubHaltDue := false, trippedAt := 0 }

/-- A sensor that has given no reading (R574). -/
def Sensor.reset : Sensor :=
  { temp := 0, present := false, fault := false, period := 0, mode := 0, failsafe := false, warn := 0, limit := 0,
    param := 0x4083, sampledAt := 0 }

/-- Settings registers, and OTP slots all blank (R566, R576). (DESIGN CHOICE, assumption log 6.) -/
def Settings.reset : Settings :=
  { slots := [], stage := List.replicate 12 0, skipCount := 0, dressAllow := none }

/-- The pins of a part at rest: RST_N high, straps high, nothing driven low. (DESIGN CHOICE, assumption log 6.) -/
def Pins.reset : Pins :=
  { rstHigh := true, recoveryHigh := true, recoverySampled := true, bootStat := 0, faultLow := false, intLow := false,
    thermTripLow := false, railHold := false, vppLow := false, refclkLost := false, hubHalted := false, tapInstr := 0,
    tapOut := 0, extest := false }

/-- A firmware conversation that is not open. (DESIGN CHOICE, assumption log 16.) -/
def FwConv.reset : FwConv :=
  { st := .none, header := none, buf := [], units := [], verified := 0, flashWritten := 0, failStatus := 0, touchedAt := 0 }

/-- An anchor slot as shipped (R511). -/
def Anchor.reset : Anchor := { hash := 0, ceiling := 0, present := false, revoked := false, lost := false }

/-- The security block of a part as shipped (R511, R546). (DESIGN CHOICE, assumption log 6.) -/
def Security.reset : Security :=
  { lifecycle := .unowned, anchors := [.reset, .reset, .reset, .reset], deviceId := 0, macBase := 0,
    vendorAnchor := 0, stepping := 0, identityDigest := 0, certChain := [], grade := 8, arb := [0, 0, 0],
    mode := .normal, trngWarn := false, otpBurnFail := false, rollback := false, sigFail := false,
    migrating := false, drbgStopped := false, retestFails := 0, retestAt := 0, claim := false, selfTest := 0, fwVersion := 0, fwBuild := 0,
    svnRun := [0, 0, 0], bootAttempts := 0, keystore := [], keystoreWrites := 0,
    otpBurnFailCount := 0, sigFailCount := 0, trngFailCount := 0, logTagFailCount := 0, measLoader := 0, measHub := 0,
    measDie := 0, fw := .reset, flashGen := 0, recordedB := 0, flashTorn := false, activation := none,
    debugNext := none, debugScope := 0 }

/-- A free session table entry (R474). -/
def Session.reset : Session :=
  { inUse := false, role := .observer, port := 0, id := 0, base := 0, key := 0, root := 0, anchor := 0, payload := 0,
    blockSize := 0, recHigh := 0, recSeen := [], txRecord := 0, cache := [], busy := none, notices := [], lastValid := 0,
    bank := 0 }

/-- The BCP block (R474). -/
def Bcp.reset : Bcp :=
  { ctrl := 3, udpPort := 40810, idle := 30, hold := 60, payloadA := 1400, payloadB := 1400, hsFailF := false,
    tagFailF := false, supersededF := false, hsFailCount := 0, tagFailCount := 0, replayDropCount := 0, rejectCount := 0,
    badSeqCount := 0, notimeSessions := 0, discards := 0, sessions := [], handshakes := [], rejectTimes := [] }

/-- A data port (R503). -/
def Port.reset : Port :=
  { st := .off, lanes := 0, rate := 0, ip4 := 0, ip6 := [0, 0, 0, 0], unknownDrop := 0, malformedDrop := 0,
    policeDrop := 0, lateDrop := 0, quarDrop := 0, dupDrop := 0, fecUncorr := 0, linkDown := 0,
    sakInstalled := false, sakSci := 0, mkaPeer := none, mkaMsgNo := 0, mkaAt := 0,
    downAt := 0, retry := false }

/-- An unused partner entry (R503). -/
def Partner.reset : Partner :=
  { port := 0, st := 0, mac := 0, quarTimes := [], hold := 0, viol := 0, violAt := 0, level := 0, levelAt := 0 }

/-- A result destination not written (R504). -/
def ResultDest.reset : ResultDest := { w := List.replicate 8 0 }

/-- An ingress binding not written (R504). -/
def InBind.reset : InBind := { w := List.replicate 8 0 }

/-- No batch under way. -/
def Batch.reset : Batch :=
  { beat := 0, tokens := [], part := [], seen := [], incomplete := 0, inputLost := false, missUntil := 0 }

/-- The data port block (R503). -/
def DataPorts.reset : DataPorts :=
  { degradedF := false, linkLostF := false, quarantineF := false, inputLostF := false, quadCfg := [9, 9, 9, 9],
    trainLimit := 500, ingressMargin := 2, streamTimeout := 8, policeSlack := 10, quarThr := 1000, quarHold := 60,
    egressOversize := 0, downDrops := 0, helloAt := 0, ports := [], partners := [], dests := [], binds := [], batches := [] }

/-- Ports A and B (R505). (DESIGN CHOICE, assumption log 6.) -/
def Pab.reset : Pab :=
  { linkA := false, linkB := false, linkAF := false, linkBF := false, cfg := 0, aIp4 := 0, bIp4 := 0,
    aIp6 := [0, 0, 0, 0], bIp6 := [0, 0, 0, 0], collIp := [[0, 0, 0, 0], [0, 0, 0, 0]],
    collCfg := [0x9F6B, 0x9F6B], rseq := 0, rseqLatch := 0, sentAt := none, reportDrop := 0, bootId := 0, items := [], lost := 0,
    sources := [], discards := 0 }

/-- A FREE stream (R314). -/
def Stream.reset : Stream :=
  { st := .free, almanac := 0, almanacNo := 0, prio := 0, guarantee := false, clearedBy := [], cls := 0,
    cutThrough := false, redundant := false, startFrame := 0, ctxQuota := 0, model := 0, tag := 0,
    order := 0, power := 0, ledger := 0, programs := [], starts := [], tiles := [], moved := [], flows := [], hbm := [],
    egress := [], ingress := [], channels := [], lagMax := 0, nextSeq := 0, nextGroup := 0, removeFrame := 0, entriesGone := false,
    taints := [] }

/-- P_BASE of the grade in mW (R336). -/
def pBaseOf (grade : Nat) : Nat :=
  if grade ≤ 2 then 26000 else if grade ≤ 4 then 31000 else if grade ≤ 6 then 36000 else 41000

/-- The largest PKG_LIMIT of the grade in W (R3, R347). -/
def pkgMaxOf (grade : Nat) : Nat :=
  if grade ≤ 2 then 150 else if grade ≤ 4 then 240 else if grade ≤ 6 then 330 else 420

/-- The admission block of a part of the given grade (R347). -/
def Admission.reset (grade : Nat) : Admission :=
  { breachF := false, shedF := false, capacityF := false, engine := 0, closed := false, pkgLimit := pkgMaxOf grade,
    pBase := pBaseOf grade, eMvm10 := 1220, eMvm15 := 1570, eMvm20 := 2060, ePath := 780, eDmu := 1500,
    eHbm := 12200, ePort := 60000, hbmResMax := 80, fabTtMax := 75, unboundLen := 0, unboundPeriod := 0,
    ledgerHwm := 0, ledgerFullCount := 0, absentCount := 0, noticeSeq := 0, notices := [], dark := [], streams := [],
    queue := [], convs := [], nextOrder := 0, exchangeFrame := none, ledger := [], groups := [], darkNow := [],
    phases := [], draining := false }

/-- An EMPTY store area (R407). -/
def Area.reset : Area :=
  { st := .empty, version := 0, epoch := 0, manifest := none, shards := [], dressed := [], partner := [], source := 0,
    sourceId := 0, failStatus := 0, failIndex := 0, base := 0, allocated := false, touchedAt := 0,
    adapterShipped := true, adaptersRestored := [], adapters := [], matched := false, replyTo := [] }

/-- A free model slot (R407). -/
def ModelSlot.reset : ModelSlot :=
  { model := 0, area0 := .reset, area1 := .reset, areaUnits := 0, nextEpoch := 0, activeEpoch := 0, plan := none,
    sel := [], reloc := [] }

/-- The model manager block (R407). (DESIGN CHOICE, assumption log 6.) -/
def ModelMgr.reset : ModelMgr :=
  { loadFailF := false, rehashFailF := false, auditFailF := false, switchDoneF := false, storeBase := 2048,
    storeSize := 6144, shardTimeout := 2000, idleLimit := 60, switchLead := 2000, switchHorizon := 100,
    rehashPeriod := 600, auditPeriod := 24, auditTol := 1000, auditMax := 64, shardRetryCount := 0,
    rehashFailCount := 0, auditFailCount := 0, poisonReadCount := 0, slots := [], buffers := [], followers := [] }

/-- The fault reporting block (R449). -/
def Faults.reset : Faults :=
  { fenceF := false, quarantineF := false, shedF := false, testFailF := false, seq := 0, log := [], ckK := 8,
    redK := 8, cusumK := 16, cusumH := 256, suspectFails := 4, testPeriod := 10, obsFactor := 8, obsClear := 16,
    obsPeriod := 24, remapLimit := 60, statTrig := 50, fenced := [], fenceCause := [], failResultCount := 0,
    recallCount := 0, sealCount := 0, replaceCount := 0, replacements := [], discardedResets := 0,
    ignoredAccesses := 0 }

/-- HBM before its training (R587). (DESIGN CHOICE, assumption log 16.) -/
def Hbm.reset : Hbm :=
  { mem := [], st0 := 0, st1 := 0, selfRefresh := false, eccCorrF := false, eccUncorrF := false, eccCorr := 0,
    eccUncorr := 0, contexts := [] }

/-- A link end (R375). -/
def LinkEnd.reset : LinkEnd :=
  { thrHitF := false, retrainedF := false, fencedF := false, clockLostF := false, errWin := 0, frames := 0,
    errCount := 0, replayCount := 0, retrainCount := 0, lateReplayCount := 0 }

/-- A link that is DOWN (R375). -/
def Link.reset : Link := { st := .down, near := .reset, far := .reset, fails := 0, retrains := [] }

/-- The hub fabric block (R375). -/
def Fabric.reset : Fabric :=
  { detourF := false, errWindow := 20, errThr := 16, fenceRetrains := 3, fencePeriod := 10,
    hubWeight := [1, 1, 1, 1, 1], links := [], egress := [], beResent := [], lostSlots := [] }

/-- A compute die in reset (R584). (DESIGN CHOICE, assumption log 6.) -/
def Die.reset : Die :=
  { dm := .reset, wdogMissF := false, otpEccF := false, wdogMissCount := 0, wdogRow := 0, wdogAt := 0, replicaBad := 0, bank := 0,
    ident := 0, stepping := 0, park := 0, digest := 0, faulty := [], repairs := [], otpBad := false, dressFailCount := 0,
    beWeight := 0x01111111, drainDropCount := 0, microcode := false, mapped := false }

/-- A bank of architected state (R228): all zero. -/
def Bank.reset : Bank := { s := [], a := [], p := 1, t := [], q := [], pc := 0, loop := [], ret := [], above := [] }

/-- A FREE program slot (R223). -/
def ProgSlot.reset : ProgSlot :=
  { st := .free, stream := 0, base := 0, len := 0, hold := 0, fabBound := 0, hbmBound := 0, actCount := 0, win := [] }

/-- The sequencer registers (R264). -/
def SeqRegs.reset : SeqRegs :=
  { st := .reset, slot := 0, trapF := false, overrunF := false, testOverdueF := false, yieldGapF := false,
    eccCorrF := false, startMissedF := false, rxDropF := false, cause := 0, slotClass := 0, late := false, swCode := 0,
    multi := 0, trapPc := 0, faultPc := 0, trapInfo := 0, trapMer := 0, trapMerLatch := 0, resumePc := 0,
    trapTimeout := 50, stallMaxTile := 0, stallMaxFab := 0, stallMaxHbm := 0, trapCount := 0, overrunCount := 0,
    startSkipCount := 0, testOverdueCount := 0, yieldGapCount := 0, eccCorrCount := 0, rxDropCount := 0,
    ctxMissCount := 0, ctxDropCount := 0, egressLateCount := 0, sendDropCount := 0, scratchPage := 0 }

/-- A statistics slot (R185). -/
def StatSlot.reset : StatSlot :=
  { en := false, tag := 0, flags := 0, conv := 0, tokenCount := 0, satCount := 0, zrangeCount := 0, misfitCount := 0,
    errSum := 0, sigSum := 0, nonfinCount := 0, escCount := 0, degradedCount := 0, lastMisfit := 0, convLatch := 0,
    errLatch := 0, sigLatch := 0, trigAt := 0, trigTokens := 0, trigMisfit := 0, trigNonfin := 0 }

/-- The DMU block (R221). -/
def DmuRegs.reset : DmuRegs :=
  { nonfinF := false, satF := false, maskedF := false, eccCorrF := false, eccUncorrF := false, nonfinCount := 0,
    satCount := 0, maskedRowCount := 0, eccCorrCount := 0, adaptStepCount := 0, busyCycles := 0, busyLatch := 0,
    escBal := [], escPriced := [], escSpent := [], actBase := List.replicate 8 0, actStep := List.replicate 8 0 }

/-- A router in service with nothing detoured (R376). -/
def Router.reset : Router := { st := .in_, detour := false, resetAsked := false, since := 0 }

/-- A region in reset (R264). (DESIGN CHOICE, assumption log 16.) -/
def Region.reset : Region :=
  { regs := .reset, ps := [], arch := [], imem := [], scratch := [], fw := [], act := [], rxwin := [],
    microcode := false, staged := [], held := [], stalls := [], heldAt := 0, busyR := [], cyc := 0, pend := [], engineFree := 0, egressFree := 0,
    arrayFree := 0, arrayDone := 0, pipeFree := 0, quantFree := 0, tileFree := [], busy := [], xfers := [],
    nextXfer := 0, inject := [], wait := none, active := false, lateTraps := [], haltAsked := false, kept := [], sinceYield := 0,
    gapSeen := false, tests := [], running := none, yieldedFrom := false, offerEnd := 0, stats := [], dmu := .reset, router := .reset,
    health := .normal, eccAt := none, corrTimes := [], obsEndedAt := none, passes := 0, setDone := [], periodAt := 0,
    setFull := false, obsEvent := 0, groups := [],
    dressAllow := 2400, resetAsked := false, lost := false, unloaded := false }

/-- A trim entry (R149). -/
def TrimEntry.reset : TrimEntry := { colsum := 0, gain := 0, offset := 0, role := 0, bad := false, heldLow := none }

/-- A mismatch trim (R114). -/
def AdcTrim.reset : AdcTrim := { offs := 0, gain := 0, skew := 0 }

/-- The tone generator (R114). -/
def Tone.reset : Tone :=
  { span := 0, range := 0, running := false, ftw := 0, phase0 := 0, stagger := 0, amp := 0, offs := 0, first := 0,
    count := 1, n := 65536, histSlot := 0, histAdc := 0, phase := 0, left := 0, hist := [],
    levels := [] }

/-- The sighting registers (R151). -/
def Sight.reset : Sight :=
  { trig := 0, len := 0, free := false, code := 60, every := 1, period := 1966080, delay := 0, pos := 0,
    eventF := false, faultF := false, overrunF := false, nearF := false, edgeF := false, loops := 0, loopPeriod := 0,
    loopTemp := 0, eventCount := 0, faultCount := 0, leSlot := 0, leMode := 0, leApplied := false, leCount := 0,
    leDev := 0, kappa := 32768, ktemp := -2621, tk := 0, table := [], pendCtrl := none, pendTable := [],
    readsLeft := 0, dueAt := 0, sums := [], sinceTrig := 0, trigAt := [], lastTrig := none, loopStart := none, intervals := [], placedAt := none, fires := [],
    trimCycle := 0, wrote := [], updated := [] }

/-- The check registers (R448). -/
def Check.reset : Check :=
  { a0 := 0, a1 := 0, health := .normal, failF := false, alarmF := false, mismatchF := false, suspectF := false,
    failCount := 0, clipFailCount := 0, alarmCount := 0, mismatchCount := 0, lastFail := 0, c0p := 0, c0m := 0,
    c1p := 0, c1m := 0, failTimes := [], missTimes := [], eccAt := none, obsEndedAt := none, passes := 0,
    setDone := [], periodAt := 0, setFull := false, obsEvent := 0, mergeCount := none, mergeAt := 0 }

/-- A tile never dressed. -/
def Dress.reset : Dress :=
  { st := .idle, order := 0, logical := 0, rowsDone := 0, count := 0, dressed := false, dressedAt := none,
    targets := [], ckTargets := [] }

/-- A physical tile after a package reset (R40, R114): parked. (DESIGN CHOICE, assumption log 6.) -/
def Tile.reset : Tile :=
  { span := 0, inmode := 0, range := 0, parity := 0, st := .parked, rowTripF := false, shadowLateF := false,
    adcClipF := false, trimSatF := false, clamp128F := false, toneClipF := false, histIncompleteF := false, ilim := 6,
    tripTicks := 4, firstTrip := none, rowTripCount := 0, clamp128Count := 0, adcClipCount := 0, trimSatCount := 0,
    shadowLateCount := 0, toneClipCount := 0, parked := [], tripFail := false, rowRepair := [], colRepair := [],
    shadow := [], active := [], cells := [], spentRows := [], spentSlots := [], strobeAt := none, adcBad := false, adcTrim := [], staged := [], mvmNo := 0, bursts := [], pmAcc := false,
    flight := [],
    tone := .reset, sight := .reset, check := .reset, dress := .reset, trims := [], logModel := 0, logVersion := 0,
    logEpoch := 0 }

/-- A cluster at manufacture: each logical tile on the physical tile of its number (R24, R26). (DEDUCED, assumption log 64.)
-/
def Cluster.reset : Cluster :=
  { map := [0, 1, 2, 3, 4, 5, 6, 7], redress := [], holds := [], failCounts := [], rescale := [], zrange := [] }

/-- The SX8 right after a package reset, before start-up runs. (DESIGN CHOICE, assumption log 6.) -/
def Device.reset : Device :=
  { free := 0, clk := .reset, tb := .reset, start := .reset, therm := .reset, settings := .reset, pins := .reset,
    sec := .reset, bcp := .reset, held := [], dp := .reset, pab := .reset, adm := .reset 8, mm := .reset, flt := .reset,
    hbm := .reset, fab := .reset, be := [], dies := [], regions := [], tiles := [], clusters := [], hostScratch := 0,
    glbEvent := 0, placement := [], out := [] }

/-- The machine right after reset, with no command waiting. (DESIGN CHOICE, assumption log 1.) -/
def State.reset : State := { dev := .reset, pending := [] }

end Sys2Proof.Machine
end

