-- ==== Sys2Proof/Decode.lean ====
section
/-! DEFINITION. The words of commands. The table of operations and events gives no row any bits: a command of the
SX8 is an event, a register access or a request, not a word of its own. -/
namespace Sys2Proof

/-- The command that a word of `nbits` bits spells by the table's bits. The table gives no row bits, so no word spells a
command. (DESIGN CHOICE, assumption log 8.) -/
def decodeTableWord (_nbits _w : Nat) : Option Instr := none

end Sys2Proof
end

