-- ==== Sys2Proof/Config.lean ====
section
/-! DEFINITION. What the spec leaves open as a value. Each constant here has no body: nothing can be proved of
its value, so a statement about it holds whatever the hardware produces. -/
namespace Sys2Proof

/-- The `n`-th value the spec leaves open, `w` bits wide. `n` is the model's own counter `Device.free`
(DESIGN CHOICE, assumption log 1). -/
opaque Config.freeBits (w n : Nat) : BitVec w

/-- The exponential of the softmax datapath for an element and the row's largest element, FP32 patterns in and out:
R211 bounds its relative error by 2^-20 and fixes no more (DESIGN CHOICE, assumption log 2). -/
opaque Config.expFp32 (x m : BitVec 32) : BitVec 32

/-- What the engine takes for a register that a bundle loads from memory, a tile or a quantiser, when it prices a path: R326
has it compute from the image alone, and the image does not fix such a value (DESIGN CHOICE, assumption log 96). -/
opaque Config.unfixed (bundle : BitVec 128) : BitVec 64

/-- The root of a negative second moment, by its FP32 pattern: step 3 of R217 takes it and R10 has the same operands give the same
bits, and the spec states no value (DESIGN CHOICE, assumption log 10). -/
opaque Config.negRoot (v : BitVec 32) : BitVec 31

end Sys2Proof
end

