-- ==== Sys2Proof/Machine/Ops.lean ====
section
/-! DEFINITION. Named operations over the state: tables, bytes of memory, bit fields, rounding, Meridian, units,
fault records, notices and the pins that follow the state. -/
namespace Sys2Proof.Machine

/-! ### Tables -/

/-- Entry `k` of a table, or `d` where it is not listed. -/
def tget {α : Type} (d : α) (t : Table α) (k : Nat) : α :=
  match t with
  | [] => d
  | (j, v) :: rest => if j = k then v else tget d rest k

/-- The table with entry `k` set to `v`, keys rising. -/
def tset {α : Type} (t : Table α) (k : Nat) (v : α) : Table α :=
  match t with
  | [] => [(k, v)]
  | (j, w) :: rest =>
    if j = k then (k, v) :: rest
    else if k < j then (k, v) :: (j, w) :: rest
    else (j, w) :: tset rest k v

/-- The table without entry `k`. -/
def tdel {α : Type} (t : Table α) (k : Nat) : Table α := t.filter fun e => e.1 ≠ k

/-- The table with entry `k` changed by `f`. -/
def tupd {α : Type} (d : α) (t : Table α) (k : Nat) (f : α → α) : Table α := tset t k (f (tget d t k))

/-- The table with every listed entry changed by `f`. -/
def tmap {α : Type} (t : Table α) (f : Nat → α → α) : Table α := t.map fun e => (e.1, f e.1 e.2)

/-- Element `i` of a list, or `d`. -/
def lget {α : Type} (d : α) (l : List α) (i : Nat) : α := l.getD i d

/-- The list with element `i` set. -/
def lset {α : Type} (l : List α) (i : Nat) (v : α) : List α := l.set i v

/-! ### Bytes of memory

A memory lists its bytes by rising address and lists no zero byte: an address not listed reads zero (R166). -/

/-- The byte at an address. (DESIGN CHOICE, assumption log 16.) -/
def memGet (m : List (Nat × Byte)) (a : Nat) : Byte :=
  match m with
  | [] => 0
  | (j, v) :: rest => if j = a then v else memGet rest a

/-- Write one byte, keeping the canonical form. (DESIGN CHOICE, assumption log 15.) -/
def memSet (m : List (Nat × Byte)) (a : Nat) (v : Byte) : List (Nat × Byte) :=
  match m with
  | [] => if v = 0 then [] else [(a, v)]
  | (j, w) :: rest =>
    if j = a then (if v = 0 then rest else (a, v) :: rest)
    else if a < j then (if v = 0 then (j, w) :: rest else (a, v) :: (j, w) :: rest)
    else (j, w) :: memSet rest a v

/-- Write bytes at successive addresses. (DESIGN CHOICE, assumption log 15.) -/
def memWrite (m : List (Nat × Byte)) (a : Nat) (bs : List Byte) : List (Nat × Byte) :=
  match bs with
  | [] => m
  | b :: rest => memWrite (memSet m a b) (a + 1) rest

/-- `n` bytes from address `a`. -/
def memRead (m : List (Nat × Byte)) (a n : Nat) : List Byte := (List.range n).map fun i => memGet m (a + i)

/-- The value of bytes, lowest first (R12). -/
def leValue (bs : List Byte) : Nat :=
  match bs with
  | [] => 0
  | b :: rest => b.toNat + 256 * leValue rest

/-- The value of bytes, highest first. -/
def beValue (bs : List Byte) : Nat := bs.foldl (fun acc b => 256 * acc + b.toNat) 0
/-- A 64-bit big-endian word of an object, by its byte offset (R12). -/
def beWord (m : List (Nat × Byte)) (off : Nat) : Nat := beValue (memRead m off 8)

/-- `n` bytes of a value, lowest first (R12). -/
def leBytes (n v : Nat) : List Byte := (List.range n).map fun i => BitVec.ofNat 8 (v / 2 ^ (8 * i))

/-- The canonical form of a memory: addresses rising, no zero byte listed. (DESIGN CHOICE, assumption log 15.) -/
def memWf (m : List (Nat × Byte)) : Bool :=
  match m with
  | [] => true
  | (a, v) :: rest => decide (v ≠ 0) && rest.all (fun e => decide (a < e.1)) && memWf rest

/-! ### Bit fields and signed values -/

/-- Bits `[hi:lo]` of a value. -/
def bits (v hi lo : Nat) : Nat := v / 2 ^ lo % 2 ^ (hi + 1 - lo)

/-- Bit `i` of a value. -/
def bit (v i : Nat) : Bool := v / 2 ^ i % 2 = 1

/-- One for true. -/
def b2n (b : Bool) : Nat := if b then 1 else 0

/-- A `w`-bit two's-complement pattern read as a signed value. -/
def sx (w v : Nat) : Int := if v % 2 ^ w < 2 ^ (w - 1) then (v % 2 ^ w : Nat) else (v % 2 ^ w : Nat) - (2 ^ w : Nat)

/-- A signed value as a `w`-bit two's-complement pattern. -/
def ux (w : Nat) (v : Int) : Nat := (v % (2 ^ w : Nat)).toNat

/-- The bit set of a list of numbers. -/
def maskOf (l : List Nat) : Nat := (l.eraseDups).foldl (fun acc i => acc + 2 ^ i) 0

/-- A value kept between two limits. -/
def clampI (lo hi v : Int) : Int := if v < lo then lo else if hi < v then hi else v

/-- A rational rounded to the nearest integer, ties away from zero (R161). -/
def rna (x : Rat) : Int :=
  let m : Nat := x.num.natAbs
  let q : Nat := (2 * m + x.den) / (2 * x.den)
  if x.num < 0 then -(q : Int) else q

/-- The least integer at or above a quotient. -/
def ceilDiv (a b : Nat) : Nat := (a + b - 1) / b

/-! ### Free values -/

/-- The next value the spec leaves open, `w` bits wide, and the device with the value used up. (DESIGN CHOICE, assumption
log 1, DESIGN CHOICE, assumption log 7.) -/
def takeFree (w : Nat) (d : Device) : Nat × Device :=
  ((Config.freeBits w d.free).toNat, { d with free := d.free + 1 })

/-! ### Meridian and real time -/

/-- Tc of a frame (R44). -/
def tcPerFrame : Nat := 19660800

/-- Meridian now, in Tc counted from frame 0. -/
def Clock.now (c : Clock) : Nat := c.frame * tcPerFrame + c.tc

/-- A 64-bit Meridian value (R44) of an instant in Tc from frame 0. -/
def merOf (t : Nat) : Nat := t / tcPerFrame % 2 ^ 39 * 2 ^ 25 + t % tcPerFrame

/-- The instant in Tc from frame 0 of a 64-bit Meridian value. -/
def ofMer (m : Nat) : Nat := m / 2 ^ 25 % 2 ^ 39 * tcPerFrame + m % 2 ^ 25

/-- The TC field of a 64-bit value lies in its range (R45). -/
def merOk (m : Nat) : Bool := m % 2 ^ 25 < tcPerFrame

/-- Meridian now as a 64-bit value. -/
def Device.mer (d : Device) : Nat := merOf d.clk.now

/-- Real time since power-on in Tc at the nominal rate: 4 for each timebase cycle (R46). -/
def Device.real (d : Device) : Nat := 4 * d.clk.cycles

/-- A timer of `span` Tc that began at a real time has run out. -/
def Device.ranOut (d : Device) (since span : Nat) : Bool := decide (since + span ≤ d.real)

/-- Cycles of a region in a span of Tc at the nominal rate. -/
def cyclesOf (tc : Nat) : Nat := tc * 125000 / 196608

/-- The region cycle under way, counted from reset: the scale of every issue cycle (R237). (DEDUCED, assumption log 52.) -/
def Device.nowCycle (d : Device) : Nat := cyclesOf d.real

/-- Milliseconds in Tc at the nominal rate. -/
def msTc (ms : Nat) : Nat := ms * 1966080

/-- Microseconds in Tc at the nominal rate, rounded up. -/
def usTc (us : Nat) : Nat := ceilDiv (us * 196608) 100

/-- Nanoseconds in Tc, rounded up. -/
def nsTc (n : Nat) : Nat := ceilDiv (n * 196608) 100000

/-- Start of beat `k` of frame `f` of an almanac of N beats (R51). -/
def beatStart (n f k : Nat) : Nat := f * tcPerFrame + ceilDiv (k * tcPerFrame) n

/-- The beat of a frame that contains a TC: the largest `k` whose start is at or before it (R51). -/
def beatIn (n tc : Nat) : Nat := if n = 0 then 0 else min (n - 1) (tc * n / tcPerFrame)

/-- The beat number `f × N + k` of an instant (R51). -/
def beatNo (n t : Nat) : Nat := t / tcPerFrame * n + beatIn n (t % tcPerFrame)

/-- Start of a beat by its number. -/
def beatStartNo (n b : Nat) : Nat := if n = 0 then 0 else beatStart n (b / n) (b % n)

/-! ### Parts of the device -/

/-- Dies of the grade (R1). -/
def Device.dieCount (d : Device) : Nat := d.sec.grade

def Device.die (d : Device) (n : Nat) : Die := tget .reset d.dies n
def Device.updDie (d : Device) (n : Nat) (f : Die → Die) : Device := { d with dies := tupd .reset d.dies n f }
def Device.region (d : Device) (r : Nat) : Region := tget .reset d.regions r
def Device.updRegion (d : Device) (r : Nat) (f : Region → Region) : Device :=
  { d with regions := tupd .reset d.regions r f }
def Device.tile (d : Device) (p : Nat) : Tile := tget .reset d.tiles p
def Device.updTile (d : Device) (p : Nat) (f : Tile → Tile) : Device := { d with tiles := tupd .reset d.tiles p f }
def Device.cluster (d : Device) (c : Nat) : Cluster := tget .reset d.clusters c
def Device.updCluster (d : Device) (c : Nat) (f : Cluster → Cluster) : Device :=
  { d with clusters := tupd .reset d.clusters c f }
def Device.stream (d : Device) (n : Nat) : Stream := tget .reset d.adm.streams n
def Device.updStream (d : Device) (n : Nat) (f : Stream → Stream) : Device :=
  { d with adm := { d.adm with streams := tupd .reset d.adm.streams n f } }
def Device.port (d : Device) (n : Nat) : Port := tget .reset d.dp.ports n
def Device.updPort (d : Device) (n : Nat) (f : Port → Port) : Device :=
  { d with dp := { d.dp with ports := tupd .reset d.dp.ports n f } }
def Device.session (d : Device) (n : Nat) : Session := tget .reset d.bcp.sessions n
def Device.updSession (d : Device) (n : Nat) (f : Session → Session) : Device :=
  { d with bcp := { d.bcp with sessions := tupd .reset d.bcp.sessions n f } }
def Device.link (d : Device) (n : Nat) : Link := tget .reset d.fab.links n
def Device.updLink (d : Device) (n : Nat) (f : Link → Link) : Device :=
  { d with fab := { d.fab with links := tupd .reset d.fab.links n f } }
def Device.modelSlot (d : Device) (n : Nat) : ModelSlot := tget .reset d.mm.slots n
def Device.updModelSlot (d : Device) (n : Nat) (f : ModelSlot → ModelSlot) : Device :=
  { d with mm := { d.mm with slots := tupd .reset d.mm.slots n f } }

/-- Regions of the populated dies. -/
def Device.allRegions (d : Device) : List Nat := List.range (6 * d.dieCount)

/-- Streams that are not FREE. -/
def Device.liveStreams (d : Device) : List Nat :=
  (List.range 256).filter fun s => (d.stream s).st ≠ .free

/-- No stream is admitted: every stream is FREE (R50, R66, R73). -/
def Device.noStream (d : Device) : Bool := d.adm.streams.all fun e => e.2.st = .free

/-- Apply `f` for each number of a list. -/
def forEach (l : List Nat) (f : Nat → Device → Device) (d : Device) : Device := l.foldl (fun acc i => f i acc) d

/-! ### Units (R24, R25, R30, R113) -/

/-- Die, region number in the package, cluster number in the package of a physical tile. -/
def ptDie (p : Nat) : Nat := p / 864
def ptRegion (p : Nat) : Nat := p / 144
def ptCluster (p : Nat) : Nat := p / 9
def ptTile (p : Nat) : Nat := p % 9
/-- The same of a logical tile. -/
def ltDie (l : Nat) : Nat := l / 768
def ltRegion (l : Nat) : Nat := l / 128
def ltCluster (l : Nat) : Nat := l / 8
def ltTile (l : Nat) : Nat := l % 8

/-- The physical tile of a logical tile under its cluster's tile map, none when it is unavailable (R26, R552). -/
def Device.physOf (d : Device) (l : Nat) : Option Nat :=
  let t := lget 9 (d.cluster (ltCluster l)).map (ltTile l)
  if t < 9 then some (9 * ltCluster l + t) else none

/-- The logical tile a physical tile serves, if any. -/
def Device.logicalOf (d : Device) (p : Nat) : Option Nat :=
  let m := (d.cluster (ptCluster p)).map
  ((List.range 8).find? fun t => decide (lget 9 m t = ptTile p)).map fun t => 8 * ptCluster p + t

/-- The spare physical tile of a cluster: one that serves no logical tile (R153). -/
def Device.spareOf (d : Device) (c : Nat) : Option Nat :=
  ((List.range 9).find? fun t => !(d.cluster c).map.contains t).map fun t => 9 * c + t

/-- R30 words. -/
def unitPt (p : Nat) : Nat :=
  2 ^ 28 + ptDie p * 2 ^ 13 + ptRegion p % 6 * 2 ^ 10 + ptCluster p % 16 * 2 ^ 6 + ptTile p
def unitLt (l : Nat) : Nat :=
  ltDie l * 2 ^ 13 + ltRegion l % 6 * 2 ^ 10 + ltCluster l % 16 * 2 ^ 6 + ltTile l
def unitRegion (r : Nat) : Nat := 2 * 2 ^ 29 + r / 6 * 2 ^ 13 + r % 6 * 2 ^ 10
def unitDie (n : Nat) : Nat := 3 * 2 ^ 29 + n * 2 ^ 13
def unitPackage : Nat := 4 * 2 ^ 29

/-- Fields of an R30 word. -/
def unitLevel (u : Nat) : Nat := bits u 31 29
def unitPhys (u : Nat) : Bool := bit u 28
def unitDieOf (u : Nat) : Nat := bits u 15 13
def unitRegionOf (u : Nat) : Nat := 6 * bits u 15 13 + bits u 12 10
def unitClusterOf (u : Nat) : Nat := 16 * unitRegionOf u + bits u 9 6
def unitPtOf (u : Nat) : Nat := 9 * unitClusterOf u + bits u 3 0
def unitLtOf (u : Nat) : Nat := 8 * unitClusterOf u + bits u 3 0

/-! ### Status codes (R466) -/

abbrev stOK : Nat := 0
abbrev stFieldRange : Nat := 0x0201
abbrev stReserved : Nat := 0x0202
abbrev stAlignment : Nat := 0x0203
abbrev stLength : Nat := 0x0204
abbrev stWrongState : Nat := 0x0301
abbrev stBusy : Nat := 0x0302
abbrev stNoCapacity : Nat := 0x0401
abbrev stDeadline : Nat := 0x0402
abbrev stPower : Nat := 0x0403
abbrev stNotAuthorised : Nat := 0x0501
abbrev stSignature : Nat := 0x0502
abbrev stDigest : Nat := 0x0601
abbrev stMissing : Nat := 0x0602
abbrev stInternal : Nat := 0x0701
abbrev stFenced : Nat := 0x0702

/-- The check of a unit identifier over BCP, in the order of R30; `stOK` when it passes. -/
def unitCheck (d : Device) (u : Nat) : Nat :=
  let lv := unitLevel u
  if bits u 27 16 ≠ 0 ∨ bits u 5 4 ≠ 0 then stReserved
  else if 4 < lv then stFieldRange
  else if (0 < lv ∧ bits u 3 0 ≠ 0) ∨ (1 < lv ∧ bits u 9 6 ≠ 0) ∨ (2 < lv ∧ bits u 12 10 ≠ 0)
      ∨ (3 < lv ∧ bits u 15 13 ≠ 0) then stReserved
  else if lv < 4 ∧ d.dieCount ≤ bits u 15 13 then stFieldRange
  else if lv < 3 ∧ 5 < bits u 12 10 then stFieldRange
  else if lv = 0 ∧ (if unitPhys u then 8 else 7) < bits u 3 0 then stFieldRange
  else stOK

/-! ### Routes and best-effort arbitration (R349 to R351, R359 to R361, R372) -/

/-- The router of a die that packets go around: out, or on its way there (R371, R372). One per die at most. -/
def Device.outRouter (d : Device) (die : Nat) : Option Nat := (List.range 6).find? fun g => (d.region (6 * die + g)).router.detour

/-- Links along a row of a die's mesh, and across from one row to the other. -/
def meshRow (die row c1 c2 : Nat) : List FabLink :=
  if c1 ≤ c2 then (List.range (c2 - c1)).map fun i => .mesh die (3 * row + c1 + i) (3 * row + c1 + i + 1)
  else (List.range (c1 - c2)).map fun i => .mesh die (3 * row + c1 - i) (3 * row + c1 - i - 1)
def meshCross (die row col : Nat) : List FabLink := [.mesh die (3 * row + col) (3 * (1 - row) + col)]

/-- The mesh route between two routers of a die: along the row, then across (R350). Where that would pass through the router that
is out, it crosses to the other row first, moves along it, and crosses back if it has to (R372). -/
def meshRoute (die : Nat) (out : Option Nat) (a b : Nat) : List FabLink :=
  let row := a / 3
  let c1 := a % 3
  let c2 := b % 3
  let same := decide (row = b / 3)
  let direct := meshRow die row c1 c2 ++ if same then [] else meshCross die row c2
  let through (x : Nat) : Bool := decide (x ≠ a) && decide (x ≠ b) && direct.any fun l => match l with
    | .mesh _ _ y => decide (y = x)
    | _ => false
  if out.any through then
    meshCross die row c1 ++ meshRow die (1 - row) c1 c2 ++ if same then meshCross die (1 - row) c2 else []
  else direct

/-- The row whose gateway port a region's packets use: its own, or the other while the router at its own port is out (R350,
R372). -/
def Device.gateRow (d : Device) (r : Nat) : Nat :=
  let row := r % 6 / 3
  if d.outRouter (r / 6) = some (3 * row + 1) then 1 - row else row

/-- From a router to the gateway, and back (R350). -/
def Device.toGate (d : Device) (r : Nat) : List FabLink :=
  meshRoute (r / 6) (d.outRouter (r / 6)) (r % 6) (3 * d.gateRow r + 1) ++ [.gate (r / 6) (d.gateRow r) true]
def Device.fromGate (d : Device) (r : Nat) : List FabLink :=
  .gate (r / 6) (d.gateRow r) false :: meshRoute (r / 6) (d.outRouter (r / 6)) (3 * d.gateRow r + 1) (r % 6)

/-- Neighbouring dies of the ring of the grade (R32). -/
def Device.neighbours (d : Device) (a b : Nat) : Bool :=
  decide (a ≠ b) && (decide ((a + 1) % d.dieCount = b) || decide ((b + 1) % d.dieCount = a))

/-- The ring link above a die is in service. -/
def Device.ringUp (d : Device) (n : Nat) : Bool := decide ((d.link (8 + n)).st ≠ .fenced)

/-- The ring link between two neighbouring dies that a flow takes. Of the two parallel links of a DPS-SX8-2 the engine places it on
the source die's own upward link while that is in service (R32, R351). (DESIGN CHOICE, assumption log 101.) -/
def Device.ringBetween (d : Device) (a b : Nat) : Option (Nat × Bool) :=
  ([a, b].filter fun x => (d.ringUp x && decide ((x + 1) % d.dieCount = (if x = a then b else a)))).head?.map
    fun x => (x, x = a)

/-- Links from a die's gateway to the hub: its hub link, or, while that retrains, a ring link and the neighbour's hub link
(R366). -/
def Device.hubward (d : Device) (die : Nat) : List FabLink :=
  if (d.link die).st = .retraining then
    match (List.range d.dieCount).findSome? fun m => if d.neighbours die m then (d.ringBetween die m).map fun x => (m, x) else none with
    | some (m, x, up) => [.ring x up, .hub m true]
    | none => [.hub die true]
  else [.hub die true]

/-- BE leaves (R359): region g of die d is 7 × d + g, the die manager of die d 7 × d + 6, hub agent a 56 + a. -/
abbrev leafFaults : Nat := 58

/-- BE_WEIGHT of a leaf (R359, R375, R376). -/
def Device.beWeight (d : Device) (leaf : Nat) : Nat :=
  if leaf < 56 then bits (d.die (leaf / 7)).beWeight (4 * (leaf % 7) + 3) (4 * (leaf % 7)) else lget 1 d.fab.hubWeight (leaf - 56)

/-- A packet arrives at an input of an arbiter: the input's SHARE is that of its latest flit, and one that was empty joins the
rotation at its end (R360, R361). -/
def Arbiter.take (a : Arbiter) (src : BeSource) (p : BePacket) : Arbiter :=
  if a.inputs.any fun i => i.src = src then
    { a with inputs := a.inputs.map fun i => if i.src = src then { i with share := p.share, queue := i.queue ++ [p] } else i }
  else { a with inputs := a.inputs ++ [{ src := src, share := p.share, deficit := 0, queue := [p] }] }

/-- The sum of SHARE over the inputs that hold a packet (R360): at most 915. -/
def Arbiter.sum (a : Arbiter) : Nat := (a.inputs.map fun i => i.share).sum

/-- The next packet of an arbiter output by deficit round robin (R361): the rotation adds 64 bytes × SHARE to the deficit of each
input it reaches, sends from it while the deficit covers the next packet, and moves on. An input whose queue empties leaves the
rotation and the sum at once and loses its deficit. -/
def Arbiter.send (fuel : Nat) (a : Arbiter) : Option BePacket × Arbiter :=
  match fuel, a.inputs with
  | 0, _ | _, [] => (none, a)
  | n + 1, i :: rest =>
    let i := if a.added then i else { i with deficit := i.deficit + 64 * i.share }
    match i.queue with
    | [] => Arbiter.send n { a with inputs := rest, added := false }
    | p :: q =>
      if p.bytes ≤ i.deficit then
        (some p, if q = [] then { a with inputs := rest, added := false }
                 else { a with inputs := { i with deficit := i.deficit - p.bytes, queue := q } :: rest, added := true })
      else Arbiter.send n { a with inputs := rest ++ [i], added := false }

/-- A packet comes to the next arbiter of its route; past the last it is delivered (R363). -/
def beArrive (l : List Arbiter) (src : BeSource) (p : BePacket) : List Arbiter :=
  match p.route with
  | [] => l
  | out :: rest =>
    let p := { p with route := rest }
    if l.any fun a => a.out = out then l.map fun a => if a.out = out then a.take src p else a
    else l ++ [Arbiter.take { out := out, inputs := [], added := false } src p]

/-- A leaf hands a packet to the fabric, its weight stamped as SHARE (R360). -/
def Device.bePut (d : Device) (leaf bytes : Nat) (route : List FabLink) : Device :=
  { d with be := beArrive d.be (.leaf leaf) { leaf := leaf, bytes := bytes, route := route, share := d.beWeight leaf } }

/-- Arbiters of outputs that pass a test lose what they hold; their leaves send each packet again, on the route of now (R363,
R371). -/
def Device.beResend (d : Device) (gone : FabLink → Bool) (route : Nat → List FabLink) : Device :=
  let held := (d.be.filter fun a => gone a.out).flatMap fun a => a.inputs.flatMap fun i => i.queue
  held.foldl (fun d p => d.bePut p.leaf p.bytes (route p.leaf)) { d with be := d.be.filter fun a => !gone a.out }

/-- One cycle of the fabric: every arbiter output forwards one packet, stamped with the sum as it stood, and the packets then arrive
(R360, R361, R374). (DESIGN CHOICE, assumption log 101.) -/
def beCycle (l : List Arbiter) : List Arbiter :=
  let sent := l.map fun a => (a, a.send (8 * a.inputs.length + 8))
  let left := (sent.map fun e => e.2.2).filter fun a => a.inputs ≠ []
  sent.foldl (fun l e => match e.2.1 with
    | some p => beArrive l (.link e.1.out) { p with share := e.1.sum }
    | none => l) left

/-- The way of a leaf's reports to the hub (R349, R350, R359): a region's over its mesh, a die manager's from its gateway, a hub
agent's on the crossbar. (DESIGN CHOICE, assumption log 101.) -/
def Device.leafRoute (d : Device) (leaf : Nat) : List FabLink :=
  let n := leaf / 7
  let up := d.hubward n ++ [.cross 14 true]
  if 56 ≤ leaf then [.cross 15 true]
  else if leaf % 7 < 6 then d.toGate (6 * n + leaf % 7) ++ up
  else up

/-- The leaf where the report of a unit enters the fabric (R359): a tile's or a region's at its region, a die's at its die manager.
(DESIGN CHOICE, assumption log 101.) -/
def reportLeaf (unit : Nat) : Option Nat :=
  if unitLevel unit ≤ 2 then some (7 * unitDieOf unit + unitRegionOf unit % 6)
  else if unitLevel unit = 3 then some (7 * unitDieOf unit + 6)
  else none

/-- The packet of a unit's report enters the fabric (R349, R359). -/
def Device.beReport (d : Device) (unit : Nat) : Device :=
  match reportLeaf unit with
  | some leaf => d.bePut leaf 64 (d.leafRoute leaf)
  | none => d

/-! ### Outputs, reports and notices -/

/-- The session a DATA datagram goes to (R455). -/
def Out.session : Out → Option Nat
  | .reply s _ _ _ => some s
  | .outcome s _ _ _ => some s
  | .closed s _ => some s
  | .notice s _ => some s
  | .modelNotice s _ _ _ _ _ => if s < 8 then some s else none
  | _ => none

/-- Something leaves the package; a DATA datagram takes the session's next RECORD (R455). (DESIGN CHOICE, assumption log
28.) -/
def Device.emit (d : Device) (o : Out) : Device :=
  match o.session with
  | some s => { d.updSession s fun x => { x with txRecord := x.txRecord + 1 } with out := o :: d.out }
  | none => { d with out := o :: d.out }

/-- Set bits of GLB_EVENT (R586). -/
def Device.glb (d : Device) (b : Nat) : Device :=
  { d with glbEvent := if bit d.glbEvent b then d.glbEvent else d.glbEvent + 2 ^ b }

/-- An item for the port B reports; past 256 pending the oldest is dropped and counted (R502). -/
def Device.item (d : Device) (kind : Nat) (words : List Nat) : Device :=
  let d := d.bePut leafFaults 64 [.cross 15 true]
  let items := d.pab.items ++ [⟨kind, words⟩]
  if 256 < items.length then
    { d with pab := { d.pab with items := items.drop 1, reportDrop := satInc d.pab.reportDrop, lost := d.pab.lost + 1 } }
  else { d with pab := { d.pab with items := items } }

/-- The 64-bit words of a fault record on the wire (R445). -/
def FaultRecord.words (f : FaultRecord) : List Nat :=
  [f.seq * 2 ^ 32 + f.mer % 2 ^ 32, f.mer / 2 ^ 32 * 2 ^ 32 + f.unitL,
   f.unitP * 2 ^ 32 + (f.event + f.action * 2 ^ 8 + f.count * 2 ^ 16), f.detail * 2 ^ 32 + f.stream]

/-- Log and send a fault record (R445): F_SEQ from 1, wrapping to 1; the last 256 kept. -/
def Device.faultRec (d : Device) (unitL unitP event action count detail stream : Nat) : Device :=
  let seq := if d.flt.seq + 1 < 2 ^ 32 then d.flt.seq + 1 else 1
  let f : FaultRecord :=
    { seq := seq, mer := d.mer, unitL := unitL, unitP := unitP, event := event, action := action, count := count,
      detail := detail, stream := stream }
  let d := d.beReport unitP
  ({ d with flt := { d.flt with seq := seq, log := (f :: d.flt.log).take 256 } }.glb 2).item 1 f.words

/-- A fault record about one unit, with no stream and a count of one. -/
def Device.fault (d : Device) (unitL unitP event action detail : Nat) : Device :=
  d.faultRec unitL unitP event action 1 detail 0x1FF

/-- The logical unit of a physical tile: the tile it serves (R27). -/
def Device.tileUnitL (d : Device) (p : Nat) : Nat := match d.logicalOf p with | some l => unitLt l | none => 0

/-- A fault record about a physical tile; the logical unit is the tile it serves (R27). -/
def Device.faultTile (d : Device) (p event action detail : Nat) : Device :=
  d.fault (d.tileUnitL p) (unitPt p) event action detail

/-- A fault record about a region. -/
def Device.faultRegion (d : Device) (r event action detail : Nat) : Device :=
  d.fault (unitRegion r) (unitRegion r + 2 ^ 28) event action detail

/-- A fault record about a die. -/
def Device.faultDie (d : Device) (n event action detail : Nat) : Device :=
  d.fault (unitDie n) (unitDie n + 2 ^ 28) event action detail

/-- A port event item (R501), setting GLB_EVENT.PORT. -/
def Device.portEvent (d : Device) (port event status idx : Nat) : Device :=
  (d.glb 5).item 4 [idx * 2 ^ 32 + status * 2 ^ 16 + event * 2 ^ 8 + port]

/-- STATE codes of a stream (R347). -/
def StreamSt.code : StreamSt → Nat
  | .free => 0 | .admitted => 1 | .active => 2 | .releasing => 3

/-- The causes of R342 that are declared exceptions. -/
def exceptionCause (cause : Nat) : Bool := 1 ≤ cause ∧ cause ≤ 5

/-- The causes of R342 that clear the guarantee flag: all but LATE_RESULT. -/
def clearsFlag (cause : Nat) : Bool := cause ≠ 0x10

/-- Sessions that notices go to: every open Owner and Operator session (R344, R469). -/
def Device.noticeSessions (d : Device) : List Nat :=
  (List.range 8).filter fun s => (d.session s).inUse ∧ ((d.session s).role = .owner ∨ (d.session s).role = .operator)

/-- Kinds of notice (R347). -/
abbrev kBreach : Nat := 0
abbrev kRestored : Nat := 1
abbrev kShed : Nat := 2
abbrev kEnded : Nat := 3
abbrev kCapacity : Nat := 4

/-! ### Capacity (R337, R346, R552) -/

/-- ADM_CAP in mW (R337). -/
def Device.admCap (d : Device) : Nat := d.adm.pkgLimit * 1000 * (32 - d.therm.k) / 32

/-- A die in service: populated, not fenced. -/
def Device.dieLive (d : Device) (n : Nat) : Bool := n < d.dieCount && !d.flt.fenced.contains n

/-- Dies in service. -/
def Device.diesUp (d : Device) : List Nat :=
  (List.range d.dieCount).filter fun n => d.dieLive n && decide ((d.die n).dm = .inService)

/-- Logical tiles available (R552, R575). -/
def Device.tilesUp (d : Device) : Nat :=
  768 * d.diesUp.length - ((d.clusters.filter fun e => d.diesUp.contains (e.1 / 96)).map fun e =>
    (e.2.map.filter fun t => decide (t = 9)).length).sum

/-- Ring links fenced, as a bit set (R575). -/
def Device.ringsFenced (d : Device) : Nat :=
  maskOf ((List.range d.dieCount).filter fun n => decide ((d.link (8 + n)).st = .fenced))

/-- What a CAPACITY notice adds (R469): ADM_CAP and the unit counts: dies in service, logical tiles, ring links fenced. -/
def Device.capacityWords (d : Device) : List Nat := [d.admCap, d.diesUp.length, d.tilesUp, d.ringsFenced]

/-- Log a notice, send it to the sessions and on port B, and set the flags (R344, R346, R347, R469, R586). -/
def Device.notice (d : Device) (cause kind unit : Nat) (named : List (Nat × Nat × Nat)) : Device :=
  let seq := d.adm.noticeSeq % 2 ^ 32 + 1
  let n : Notice := { seq := seq, cause := cause, exception := exceptionCause cause && kind == kBreach, kind := kind,
                      mer := d.mer, unit := unit, named := named,
                      cap := if kind = kCapacity then d.capacityWords else [] }
  let a := d.adm
  let a := { a with noticeSeq := seq, notices := (n :: a.notices).take 64,
                    breachF := a.breachF || kind == kBreach, shedF := a.shedF || kind == kShed,
                    capacityF := a.capacityF || kind == kCapacity }
  let d := { d with adm := a }
  let d := if kind == kBreach || kind == kShed then d.glb 0 else if kind == kCapacity then d.glb 1 else d
  let d := d.item 2 [seq * 2 ^ 32 + cause + b2n n.exception * 2 ^ 8 + kind * 2 ^ 9 + named.length * 2 ^ 16, n.mer,
                     unit * 2 ^ 32]
  forEach d.noticeSessions
    (fun s d => (d.updSession s fun x => { x with notices := x.notices ++ [{ nSeq := seq, sends := 1, sentAt := d.real }] }).emit
      (.notice s seq)) d

/-- Clear the guarantee flags of streams for a cause (R315, R342). -/
def Device.clearFlags (d : Device) (cause : Nat) (streams : List Nat) : Device :=
  if clearsFlag cause then
    forEach streams (fun s d => d.updStream s fun x =>
      { x with guarantee := false, clearedBy := if x.clearedBy.contains cause then x.clearedBy else cause :: x.clearedBy }) d
  else d

/-- A breach notice of a cause naming the live streams of a list (R342, R344). Nothing is sent for none. -/
def Device.breach (d : Device) (cause unit : Nat) (streams : List Nat) : Device :=
  let ss := streams.filter fun s => (d.stream s).st ≠ .free
  if ss = [] then d
  else
    let d := d.clearFlags cause ss
    d.notice cause kBreach unit (ss.map fun s => (s, (d.stream s).st.code, (d.stream s).nextSeq))

/-- End a cause for streams: those it alone kept clear get their flag back, and one restoration notice names them
(R315, R344). -/
def Device.restore (d : Device) (cause unit : Nat) (streams : List Nat) : Device :=
  let ss := streams.filter fun s => decide ((d.stream s).st ≠ .free) && (d.stream s).clearedBy.contains cause
  let d := forEach ss (fun s d => d.updStream s fun x =>
    let left := x.clearedBy.filter fun c => c ≠ cause
    { x with clearedBy := left, guarantee := left = [] }) d
  let back := ss.filter fun s => (d.stream s).guarantee
  if back = [] then d
  else d.notice cause kRestored unit (back.map fun s => (s, (d.stream s).st.code, (d.stream s).nextSeq))

/-- End a cause that the whole package met, with a restoration notice that names every live stream (R72), whether or not
another cause keeps its flag clear. -/
def Device.restoreAll (d : Device) (cause unit : Nat) (streams : List Nat) : Device :=
  let ss := streams.filter fun s => decide ((d.stream s).st ≠ .free)
  let d := forEach ss (fun s d => d.updStream s fun x =>
    let left := x.clearedBy.filter fun c => c ≠ cause
    { x with clearedBy := left, guarantee := left = [] }) d
  if ss = [] then d else d.notice cause kRestored unit (ss.map fun s => (s, (d.stream s).st.code, (d.stream s).nextSeq))

/-- A stream enters RELEASING: its entries go at the first frame boundary at least 1 ms later (R314). -/
def Device.toReleasing (d : Device) (s : Nat) : Device :=
  d.updStream s fun x =>
    if x.st = .free ∨ x.st = .releasing then x
    else { x with st := .releasing, removeFrame := (d.clk.now + 1966080 + tcPerFrame - 1) / tcPerFrame }

/-- Allowances for dressing of the populated regions, in mW (R337). -/
def Device.dressPower (d : Device) : Nat := (d.allRegions.map fun r => (d.region r).dressAllow).sum

/-- ADM_POWER_USED in mW (R337). -/
def Device.powerUsed (d : Device) : Nat :=
  d.adm.pBase + d.dressPower + (d.adm.streams.map fun e => if e.2.st = .free then 0 else e.2.power).sum

/-- A CAPACITY notice with the new capacity (R346). -/
def Device.capacityNotice (d : Device) : Device := d.notice 0 kCapacity unitPackage []

/-- A die of the grade (R24). -/
def Device.populated (d : Device) (n : Nat) : Bool := n < d.dieCount


/-! ### Time states -/

/-- TB_STATUS.STATE codes (R76). -/
def TbState.code : TbState → Nat
  | .freerun => 0 | .acquiring => 1 | .locked => 2 | .holdover => 3 | .unreferenced => 4 | .localTime => 5

/-- The phase still to be slewed away is set, or given up with 0 (R62, R63, R66, R67). -/
def Device.setSlew (d : Device) (tc : Int) : Device := { d with clk := { d.clk with slew := tc, slewAcc := 0 } }

/-- The states in which the timebase slews (R61, R63, R67). -/
def TbState.slews (st : TbState) : Bool := st == .acquiring || st == .locked

/-- Enter a timebase state, reporting the change on port B (R61, R75); outside ACQUIRING and LOCKED no phase correction
is applied (R61, R66, R67). -/
def Device.tbEnter (d : Device) (st : TbState) (src : Nat) : Device :=
  let changed := d.tb.st ≠ st
  let d := { d with tb := { d.tb with st := st, refSrc := src } }
  let d := if st.slews then d else d.setSlew 0
  if changed then d.item 3 [ux 32 d.tb.phaseOffset * 2 ^ 32 + src * 8 + st.code] else d

/-! ### Events against the timeline (R53 to R55) -/

/-- An event whose Meridian value has passed (R55): counted, flagged, reported with its lateness in Tc. -/
def Device.lateEvent (d : Device) (unitL unitP lateness stream : Nat) : Device :=
  { d with tb := { d.tb with lateEvents := satInc d.tb.lateEvents, lateEvent := true } }.faultRec unitL unitP 0x10 0 1
    (min lateness 0xFFFFFFFF) stream

/-- The counter has reached an instant (R53). -/
def Device.came (d : Device) (t : Nat) : Bool := decide (t ≤ d.clk.now)

/-- An instant had passed before the cycle under way: the counter reached it on an earlier cycle, or stepped over it
(R53, R55). -/
def Device.passed (d : Device) (t : Nat) : Bool := decide (t < d.clk.since)

/-- An event is executed: late when its instant has passed (R55). -/
def Device.onTime (d : Device) (t unitL unitP stream : Nat) : Device :=
  if d.passed t then d.lateEvent unitL unitP (d.clk.now - t) stream else d

/-- Places in R54's order of the events of one unit that fall due on one cycle; reset and park actions come first. -/
abbrev ordSlot : Nat := 2
abbrev ordStrobe : Nat := 3
abbrev ordEgress : Nat := 4
abbrev ordDark : Nat := 5
abbrev ordSight : Nat := 6

/-- An event may take its place in R54's order: no event that the order puts after it has been executed on its unit on
this cycle. -/
def Device.inOrder (d : Device) (unit place : Nat) : Bool := !d.clk.done.any fun e => e.1 == unit && decide (place < e.2)

/-- A scheduled event of a unit is executed at its instant: before the instant, or out of R54's order, it does not
happen; past the instant it is late (R53 to R55). (DESIGN CHOICE, assumption log 27.) -/
def Device.event (d : Device) (t unitL unitP place stream : Nat) (f : Device → Device) : Device :=
  if d.came t && d.inOrder unitP place then
    f ({ d with clk := { d.clk with done := (unitP, place) :: d.clk.done } }.onTime t unitL unitP stream)
  else d

/-! ### Pins and the step of a command -/

/-- START_STATUS.STATE codes (R575). -/
def StartState.code : StartState → Nat
  | .reset => 0 | .booting => 1 | .starting => 2 | .ready => 3 | .service => 4 | .recovery => 5 | .error => 6
  | .tripped => 7

/-- FAULT_N is low in each of the cases of R600. -/
def Device.faultPin (d : Device) : Bool :=
  d.start.st = .service || d.start.st = .error || d.start.st = .tripped || !d.flt.fenced.isEmpty || d.pins.railHold ||
    d.pins.refclkLost

/-- The status pins follow the state (R586, R600): BOOT_STAT carries START_STATUS.STATE, FAULT_N and INT_N their
conditions. -/
def Device.settle (d : Device) : Device :=
  { d with pins := { d.pins with bootStat := d.start.st.code, faultLow := d.faultPin, intLow := d.glbEvent ≠ 0 } }

/-- No part of the SX8 runs: RST_N is low, a rail failed (R594) or the reference clock is lost (R597). -/
def Device.stopped (d : Device) : Bool := !d.pins.rstHigh || d.pins.railHold || d.pins.refclkLost

/-- A command's effect on everything but the queue, with the status pins following. While no part of the SX8 runs
a command has no effect. -/
def State.upd (s : State) (f : Device → Device) : State :=
  { s with dev := (if s.dev.stopped then s.dev else f s.dev).settle }

/-- As `State.upd`, for the events that act whether or not the SX8 runs: the pins, rails and clock. -/
def State.updAlways (s : State) (f : Device → Device) : State := { s with dev := (f s.dev).settle }

end Sys2Proof.Machine
end

