-- ==== Sys2Proof/Machine/Flags.lean ====
section
/-! DEFINITION. Access to registers: the roles of sessions (R580), replies, and write-one-to-clear flags (R13, R14,
R573). `who` is a session 0-7, or 8 for the part's own firmware and die managers, which reach every register
subject only to its own rules (R581). -/
namespace Sys2Proof.Machine

/-- Rank of a role (R456, R467). -/
def Role.rank : Role → Nat
  | .observer => 0 | .maintainer => 1 | .operator => 2 | .owner => 3

/-- Role codes (R451). -/
def Role.code : Role → Nat
  | .owner => 0 | .operator => 1 | .maintainer => 2 | .observer => 3

/-- Command codes that registers' own rows answer with (R467). -/
abbrev cmdRegRead : Nat := 0x0010
abbrev cmdRegWrite : Nat := 0x0011

/-- The session holds at least a role (R580). -/
def Device.hasRole (d : Device) (who : Nat) (need : Role) : Bool :=
  (d.session who).inUse && decide (need.rank ≤ (d.session who).role.rank)

/-- A reply enters the cache of its session, which holds the last 256 (R461), and BASE passes its SEQ (R460). -/
def Session.answered (x : Session) (seq fp cmd status : Nat) (words : List Nat) : Session :=
  { x with base := (seq + 1) % 2 ^ 32, busy := none, cache := ({ seq := seq, fingerprint := fp, cmd := cmd, status := status, words := words } :: x.cache).take 256 }

/-- A reply to a session; the answer of a request under way enters the cache with it. -/
def Device.reply (d : Device) (who cmd status : Nat) (body : List Nat) : Device :=
  (d.updSession who fun x => match x.busy with
    | some (seq, fp) => x.answered seq fp cmd status body
    | none => x).emit (.reply who cmd status body)

/-- A session closes (R458): it is told why, its held requests go unexecuted, and its reply cache with them. -/
def Device.closeSession (d : Device) (n reason : Nat) : Device :=
  if (d.session n).inUse then
    let d := d.emit (.closed n reason)
    let forget (x : Area) : Area := { x with replyTo := x.replyTo.filter fun e => e.1 ≠ n }
    { d with bcp := { d.bcp with sessions := tset d.bcp.sessions n .reset },
             held := d.held.filter fun h => h.session ≠ n,
             mm := { d.mm with slots := tmap d.mm.slots fun _ m => { m with area0 := forget m.area0, area1 := forget m.area1 } } }
  else d

/-- A session may be answered: it is in use and the hub's processor runs (R564). -/
def Device.served (d : Device) (who : Nat) : Bool := decide (who < 8) && (d.session who).inUse && !d.pins.hubHalted

/-- Answer a request of a session: below the role it is refused with NOT_AUTHORISED before any other check (R462, R580);
otherwise `op` gives the status, the reply's words and the new state. A request that no open session carries has no effect.
(DESIGN CHOICE, assumption log 29.) -/
def Device.request (d : Device) (who cmd : Nat) (need : Role) (op : Device → Nat × List Nat × Device) : Device :=
  if d.served who then
    if d.hasRole who need then
      let (st, body, d') := op d
      d'.reply who cmd st body
    else d.reply who cmd stNotAuthorised []
  else d

/-- Commands that recovery mode accepts (R539), and the ones every state before READY refuses (R549, R554). -/
def recoveryCmd (cmd : Nat) : Bool := [0x0001, 0x0002, 0x0003, 0x0050, 0x0051, 0x0052, 0x0053, 0x0054].contains cmd
def readyCmd (cmd : Nat) : Bool := decide (0x0030 ≤ cmd) && decide (cmd ≤ 0x0048) || decide (cmd = 0x0060)

/-- The part is in CLAIM mode (R512). -/
def Device.claimMode (d : Device) : Bool := d.sec.claim

/-- The refusal of a whole command by the part's mode (R512, R539, R549, R554). -/
def Device.modeCheck (d : Device) (code : Nat) : Option Nat :=
  if d.claimMode && decide (code ≠ 0x0055) then some stNotAuthorised
  else if decide (d.sec.mode = .recovery) && !d.claimMode && !recoveryCmd code then some stWrongState
  else if readyCmd code && decide (d.start.st ≠ .ready) then some stWrongState
  else none

/-- A BCP command (R462): role first, then the modes that refuse whole commands, then the command's own checks. -/
def Device.cmd (d : Device) (who code : Nat) (need : Role) (op : Device → Nat × List Nat × Device) : Device :=
  d.request who code need fun d =>
    match d.modeCheck code with
    | some st => (st, [], d)
    | none => op d

/-- An ignored access of an on-chip agent is counted in fault reporting (R16, R579). -/
def Device.countIgnored (d : Device) : Device := { d with flt := { d.flt with ignoredAccesses := satInc d.flt.ignoredAccesses } }

/-- A refused write of an on-chip agent is ignored; it is counted where it set a reserved bit or named a register with nothing to
write (R16). -/
def Device.ignored (d : Device) (st : Nat) : Device := if st = stReserved ∨ st = stWrongState then d.countIgnored else d

/-- A write of a register that has a row of its own, by a session or by the part's firmware: a refused write of an on-chip
agent is ignored (R16). (DESIGN CHOICE, assumption log 29.) -/
def Device.rowWrite (d : Device) (who : Nat) (need : Role) (op : Device → Nat × Device) : Device :=
  if who = 8 then
    let (st, d') := op d
    if st = stOK then d' else d.ignored st
  else d.cmd who cmdRegWrite need fun d => let (st, d') := op d; (st, [], if st = stOK then d' else d)

/-- A read of a register whose read latches, answered with the words read. (DESIGN CHOICE, assumption log 29.) -/
def Device.rowRead (d : Device) (who : Nat) (need : Role) (op : Device → Nat × List Nat × Device) : Device :=
  if who = 8 then (op d).2.2 else d.cmd who cmdRegRead need op

/-- State of a compute die for an access of its blocks (R579): outside the grade, or fenced or in SERVICE. -/
def Device.dieAccess (d : Device) (n : Nat) : Nat :=
  if ¬ n < d.dieCount then stFieldRange
  else if d.flt.fenced.contains n ∨ d.start.st = .service then stFenced
  else stOK

/-- A write into a compute die's blocks: the die's own state is tested after the role (R579). -/
def Device.dieWrite (d : Device) (who die : Nat) (need : Role) (op : Device → Nat × Device) : Device :=
  if who = 8 ∧ d.dieAccess die ≠ stOK then d.countIgnored
  else d.rowWrite who need fun d => if d.dieAccess die = stOK then op d else (d.dieAccess die, d)

/-- A flag after a write-one-to-clear of a bit (R13). -/
def w1c (flag : Bool) (v i : Nat) : Bool := flag && !bit v i

end Sys2Proof.Machine
end

