-- ==== Sys2Proof/Machine/Fp.lean ====
section
/-! DEFINITION. The number formats of R159, exactly: decoding to rationals, and the one rounding of R162. -/
namespace Sys2Proof.Machine

/-- A binary format: exponent bits, fraction bits, the pattern of the largest finite value, and whether the
all-ones exponent is reserved as in IEEE 754. -/
structure FpFmt where
  eb : Nat
  mb : Nat
  maxPat : Nat
  ieee : Bool
  deriving DecidableEq, Repr

/-- The formats of R159, and binary64 of R176. -/
def e4m3 : FpFmt := { eb := 4, mb := 3, maxPat := 0x7E, ieee := false }
def e5m2 : FpFmt := { eb := 5, mb := 2, maxPat := 0x7B, ieee := true }
def bf16 : FpFmt := { eb := 8, mb := 7, maxPat := 0x7F7F, ieee := true }
def fp32 : FpFmt := { eb := 8, mb := 23, maxPat := 0x7F7FFFFF, ieee := true }
def fp64 : FpFmt := { eb := 11, mb := 52, maxPat := 0x7FEFFFFFFFFFFFFF, ieee := true }

/-- What a pattern stands for. -/
inductive FpVal where
  | num (x : Rat)
  | nan
  | inf (neg : Bool)
  deriving DecidableEq, Repr

def FpFmt.bias (f : FpFmt) : Nat := 2 ^ (f.eb - 1) - 1
def FpFmt.width (f : FpFmt) : Nat := 1 + f.eb + f.mb

/-- A power of two with a signed exponent. -/
def pow2 (e : Int) : Rat := if 0 ≤ e then ((2 ^ e.toNat : Nat) : Rat) else 1 / ((2 ^ (-e).toNat : Nat) : Rat)

/-- The magnitude of a finite pattern. -/
def FpFmt.mag (f : FpFmt) (p : Nat) : Rat :=
  let e := p / 2 ^ f.mb % 2 ^ f.eb
  let m := p % 2 ^ f.mb
  if e = 0 then (m : Rat) * pow2 (1 - (f.bias : Int) - f.mb)
  else ((2 ^ f.mb + m : Nat) : Rat) * pow2 ((e : Int) - f.bias - f.mb)

/-- Decode a pattern (R159): subnormals exactly, −0 as 0 (R160). -/
def FpFmt.decode (f : FpFmt) (p : Nat) : FpVal :=
  let neg := bit p (f.eb + f.mb)
  let e := p / 2 ^ f.mb % 2 ^ f.eb
  let m := p % 2 ^ f.mb
  if e = 2 ^ f.eb - 1 ∧ f.ieee then (if m = 0 then .inf neg else .nan)
  else if e = 2 ^ f.eb - 1 ∧ m = 2 ^ f.mb - 1 then .nan
  else .num (if neg then -(f.mag p) else f.mag p)

/-- The largest finite value. -/
def FpFmt.maxVal (f : FpFmt) : Rat := f.mag f.maxPat

/-- The exponent of a positive rational: the greatest `e` with `2^e ≤ x`. -/
def ilog2 (x : Rat) : Int :=
  let k : Int := (Nat.log2 x.num.natAbs : Int) - Nat.log2 x.den
  if pow2 k ≤ x then k else k - 1

/-- The spacing exponent of a format at a positive magnitude. -/
def FpFmt.quantum (f : FpFmt) (x : Rat) : Int := max (ilog2 x) (1 - (f.bias : Int)) - f.mb

/-- The pattern of a magnitude counted in units of a spacing exponent. -/
def FpFmt.pack (f : FpFmt) (q : Int) (m : Nat) : Nat := ((q + f.mb + f.bias - 1) * (2 ^ f.mb : Nat) + m).toNat

/-- Round once to the format under R162: nearest, ties to the larger magnitude, overflow to the largest finite
value, never −0. The Bool says that the value saturated. -/
def FpFmt.round (f : FpFmt) (x : Rat) : Nat × Bool :=
  if x = 0 then (0, false)
  else
    let a := |x|
    let q := f.quantum a
    let m := (a / pow2 q + 1 / 2).floor.toNat
    let p := min (f.pack q m) f.maxPat
    (if x < 0 ∧ p ≠ 0 then p + 2 ^ (f.eb + f.mb) else p, decide (f.maxVal < a))

/-- Round a non-negative scale upward to FP32 (R163), at least S_MIN (R164, R169). -/
def scaleUp (x : Rat) : Nat :=
  if x ≤ pow2 (-126) then 0x00800000
  else
    let q := fp32.quantum x
    min (fp32.pack q (x / pow2 q).ceil.toNat) fp32.maxPat

/-- The least power of two at or above a scale, at least S_MIN, as FP32 (R169). -/
def scalePow2 (x : Rat) : Nat :=
  if x ≤ pow2 (-126) then 0x00800000
  else
    let k := ilog2 x
    let k := if pow2 k = x then k else k + 1
    min (fp32.pack (k - 23) (2 ^ 23)) fp32.maxPat

/-- A decoded operand of the DMU or the ALU (R203): NaN is 0, an infinity the largest finite value; the Bool says the
element was non-finite. -/
def FpFmt.finite (f : FpFmt) (p : Nat) : Rat × Bool :=
  match f.decode p with
  | .num x => (x, false)
  | .nan => (0, true)
  | .inf neg => (if neg then -f.maxVal else f.maxVal, true)

/-- Value of an FP32 pattern under R203. -/
def f32 (p : Nat) : Rat := (fp32.finite p).1

/-- An FP32 pattern is a positive normal value (R166). -/
def posNormal (p : Nat) : Bool := 0x00800000 ≤ p && p ≤ 0x7F7FFFFF

/-- Round to FP32 and give the value back, with whether it saturated (R202). -/
def toF32 (x : Rat) : Rat × Bool := let (p, s) := fp32.round x; (f32 p, s)

/-- Add to an FP32 accumulator with one rounding (R202): value and count of saturations. (DEDUCED, assumption log 9.) -/
def acc32 (a : Rat × Nat) (x : Rat) : Rat × Nat := let (v, s) := toF32 (a.1 + x); (v, a.2 + b2n s)

/-- Add two binary64 patterns under R162 (R176). -/
def add64 (p : Nat) (x : Rat) : Nat := (fp64.round ((fp64.finite p).1 + x)).1

/-- The square root of a non-negative value, correctly rounded to FP32 under R162 (R212). (DEDUCED, assumption log 9.) -/
def sqrt32 (x : Rat) : Rat :=
  if x ≤ 0 then 0
  else
    let e : Int := (ilog2 x) / 2
    let q : Int := max e (-126) - 23
    let t := (4 * x / pow2 (2 * q)).floor.toNat
    let m := (Nat.sqrt t + 1) / 2
    f32 (min (fp32.pack q m) fp32.maxPat)

/-- `2^96 × exp(−r)` for `0 ≤ r < 1` given as `2^96 × r`: terms of the series, each truncated. (DESIGN CHOICE, assumption
log 2.) -/
def expSeries (fuel k term acc r : Nat) (neg : Bool) : Int :=
  match fuel with
  | 0 => acc
  | n + 1 =>
    let t := term * r / (k * 2 ^ 96)
    if neg then expSeries n (k + 1) t acc r false - t else expSeries n (k + 1) t acc r true + t

/-- exp of a value at or below zero, to far within 2^-60 relative. (DESIGN CHOICE, assumption log 2.) -/
def expNeg (t : Rat) : Rat :=
  let u := (-t) * ((2 ^ 96 : Nat) : Rat)
  let ln2 : Nat := 54916777467707473351141471128
  let n := u.floor.toNat
  let k := n / ln2
  let e := expSeries 32 1 (2 ^ 96) (2 ^ 96) (n % ln2) true
  if 400 < k then 0 else (e : Rat) * pow2 (-96 - (k : Int))

/-- The exponential of VSMAX (R211): the free value where it lies within relative error 2^-20 of exp(x − m), and the
nearest FP32 value otherwise (DESIGN CHOICE, assumption log 2). Operands are FP32 patterns. -/
def softExp (x m : Nat) : Rat :=
  let c := expNeg (f32 x - f32 m)
  let v := fp32.decode (Config.expFp32 (BitVec.ofNat 32 x) (BitVec.ofNat 32 m)).toNat
  match v with
  | .num e => if c * (1 - pow2 (-20)) ≤ e ∧ e ≤ c * (1 + pow2 (-20)) then e else (toF32 c).1
  | _ => (toF32 c).1

/-! ### Tensor element formats (R230) -/

abbrev fU8 : Nat := 0
abbrev fS8 : Nat := 1
abbrev fE4M3 : Nat := 2
abbrev fE5M2 : Nat := 3
abbrev fW8 : Nat := 4
abbrev fBF16 : Nat := 5
abbrev fFP32 : Nat := 6
abbrev fY24 : Nat := 7

/-- Bytes of an element (R230). -/
def elemBytes (fmt : Nat) : Nat := if fmt = fBF16 then 2 else if fmt = fFP32 ∨ fmt = fY24 then 4 else 1

/-- The float format of an element format. -/
def floatFmt (fmt : Nat) : FpFmt :=
  if fmt = fE4M3 then e4m3 else if fmt = fE5M2 then e5m2 else if fmt = fBF16 then bf16 else fp32

/-- An element format is a float format. -/
def isFloat (fmt : Nat) : Bool := fmt = fE4M3 || fmt = fE5M2 || fmt = fBF16 || fmt = fFP32

/-- An element as read: integer codes as numbers, floats decoded. -/
def elemVal (fmt pat : Nat) : FpVal :=
  if fmt = fU8 then .num pat
  else if fmt = fS8 ∨ fmt = fW8 then .num (sx 8 pat)
  else if fmt = fY24 then .num (sx 32 pat)
  else (floatFmt fmt).decode pat

/-- An element under R203: its value and whether it was non-finite. -/
def elemFin (fmt pat : Nat) : Rat × Bool :=
  if isFloat fmt then (floatFmt fmt).finite pat
  else match elemVal fmt pat with
    | .num x => (x, false)
    | _ => (0, false)

/-- A value rounded once into BF16 or FP32, as a pattern, with whether it saturated. -/
def roundTo (fmt : Nat) (x : Rat) : Nat × Bool := (floatFmt fmt).round x

end Sys2Proof.Machine
end

