-- ==== Sys2Proof/Machine/Operands.lean ====
section
/-! DEFINITION. What Finern instructions take their operands from: the architected bank, tensor descriptors and
their checks (R230, R231), memory spaces and windows (R232, R233), quantiser parameter sets and token records
(R165 to R167), tile control words (R295). -/
namespace Sys2Proof.Machine

/-! ### Trap causes (R254) -/

abbrev trImemEcc : Nat := 0x01
abbrev trIllegalBundle : Nat := 0x02
abbrev trIllegalOperand : Nat := 0x03
abbrev trDescriptor : Nat := 0x04
abbrev trQset : Nat := 0x05
abbrev trAddress : Nat := 0x06
abbrev trAlignment : Nat := 0x07
abbrev trPermission : Nat := 0x08
abbrev trStack : Nat := 0x09
abbrev trWaitRange : Nat := 0x0A
abbrev trStallOverrun : Nat := 0x0B
abbrev trDataEcc : Nat := 0x0C
abbrev trTileState : Nat := 0x0D
abbrev trSoftware : Nat := 0x0E
abbrev trInstrRange : Nat := 0x0F
abbrev trDmHalt : Nat := 0x10

/-- The first cause of a list of checks, in order (R257). -/
def firstCause (l : List (Option Nat)) : Option Nat := (l.filterMap id).head?

/-- A cause when a condition fails. -/
def need (ok : Bool) (cause : Nat) : Option Nat := if ok then none else some cause

/-! ### The architected bank (R227) -/

/-- A pending register write reaches its bank. -/
def Bank.apply (b : Bank) (t : RegTarget) (v : Nat) : Bank :=
  match t with
  | .s n => { b with s := tset b.s n (v % 2 ^ 64) }
  | .a n => { b with a := tset b.a n (v % 2 ^ 48) }
  | .p n => if n = 0 then b else { b with p := b.p - b2n (bit b.p n) * 2 ^ n + v % 2 * 2 ^ n }
  | .t n => { b with t := tset b.t n (v % 2 ^ 256) }
  | .q n => { b with q := tset b.q n (v % 2 ^ 128) }

/-- The bank at a cycle: every write visible by then, by the cycle it became visible and then in the order issued
(R241). -/
def Bank.at_ (b : Bank) (pend : List RegWrite) (cycle : Nat) : Bank :=
  ((pend.filter fun w => w.cycle ≤ cycle).insertionSort fun x y => x.cycle ≤ y.cycle).foldl
    (fun b w => b.apply w.target w.value) b

/-- What a slot instruction sees when it issues (R239): its region, program slot, bank and cycle. -/
structure Ctx where
  r : Nat
  slot : Nat
  ps : ProgSlot
  bank : Bank
  cycle : Nat
  deriving DecidableEq, Repr

def Ctx.stream (c : Ctx) : Nat := c.ps.stream
def Ctx.s (c : Ctx) (n : Nat) : Nat := tget 0 c.bank.s n
def Ctx.a (c : Ctx) (n : Nat) : Nat := tget 0 c.bank.a n
/-- p0 reads as 1 (R227). -/
def Ctx.p (c : Ctx) (n : Nat) : Bool := n = 0 || bit c.bank.p n
def Ctx.t (c : Ctx) (n : Nat) : Nat := tget 0 c.bank.t n
def Ctx.q (c : Ctx) (n : Nat) : Nat := tget 0 c.bank.q n

/-- The context of a region at a cycle. -/
def Device.ctx (d : Device) (r cycle : Nat) : Ctx :=
  let g := d.region r
  { r := r, slot := g.regs.slot, ps := tget .reset g.ps g.regs.slot,
    bank := (tget .reset g.arch g.regs.slot).at_ g.pend cycle, cycle := cycle }

/-- The guard of a slot (R240, R268). -/
def Ctx.guard (c : Ctx) (g : Guard) : Bool := c.p g.gp != g.gn

/-! ### Tensor descriptors (R230) -/

/-- A descriptor with its fields read. -/
structure Desc where
  addr : Nat
  fmt : Nat
  rank : Nat
  qset : Nat
  sref : Nat
  dim : List Nat
  stride : List Nat
  token0 : Nat
  reserved : Bool
  deriving DecidableEq, Repr

def Desc.of (v : Nat) : Desc :=
  { addr := bits v 47 0, fmt := bits v 51 48, rank := bits v 53 52, qset := bits v 57 54, sref := bits v 59 58,
    dim := [bits v 79 64, bits v 95 80, bits v 111 96, bits v 127 112],
    stride := [bits v 159 128, bits v 191 160, bits v 223 192], token0 := bits v 247 224,
    reserved := bits v 63 60 ≠ 0 || bits v 255 248 ≠ 0 }

def Ctx.desc (c : Ctx) (n : Nat) : Desc := .of (c.t n)

/-- DIMk and STRIDEk at their encoded values. -/
def Desc.d (x : Desc) (k : Nat) : Nat := lget 0 x.dim k
def Desc.st (x : Desc) (k : Nat) : Nat := lget 0 x.stride (k - 1)
/-- Elements of a token, and tokens. -/
def Desc.len (x : Desc) : Nat := x.d 0 + 1
def Desc.count (x : Desc) : Nat := (x.d 1 + 1) * (x.d 2 + 1) * (x.d 3 + 1)
def Desc.es (x : Desc) : Nat := elemBytes x.fmt
/-- Address of token `t`. -/
def Desc.tok (x : Desc) (t : Nat) : Nat :=
  let i1 := t % (x.d 1 + 1)
  let i2 := t / (x.d 1 + 1) % (x.d 2 + 1)
  let i3 := t / (x.d 1 + 1) / (x.d 2 + 1)
  x.addr + i1 * x.st 1 + i2 * x.st 2 + i3 * x.st 3
/-- Bytes from ADDR to the end of the extent (R231). -/
def Desc.extent (x : Desc) : Nat := x.d 1 * x.st 1 + x.d 2 * x.st 2 + x.d 3 * x.st 3 + x.len * x.es

/-- Two tokens share bytes. -/
def Desc.overlaps (x : Desc) : Bool :=
  let starts := (List.range x.count).map x.tok
  let n := x.len * x.es
  (List.range x.count).any fun i => (List.range i).any fun j =>
    let a := lget 0 starts i
    let b := lget 0 starts j
    decide (a < b + n) && decide (b < a + n)

/-! ### Memory spaces (R232, R233, R234) -/

def spaceOf (addr : Nat) : Nat := addr / 2 ^ 40 % 256
def offsetOf (addr : Nat) : Nat := addr % 2 ^ 40

abbrev spScratch : Nat := 0x00
abbrev spFw : Nat := 0x01
abbrev spAct : Nat := 0x02
abbrev spHbm : Nat := 0x10

/-- Bytes of region scratch, fast-weight SRAM, activation table memory and HBM. -/
abbrev szScratch : Nat := 0x600000
abbrev szFw : Nat := 0x200000
abbrev szAct : Nat := 0x8000
abbrev szHbm : Nat := 0x800000000

/-- A local space of a region (R283). -/
def isLocal (sp : Nat) : Bool := sp = spScratch || sp = spFw || sp = spAct

/-- The region that holds the work a stream's program addresses by a region's number (R435, R436). -/
def Stream.regionOf (x : Stream) (r : Nat) : Nat :=
  match x.moved.find? fun e => e.1 = r with
  | some e => e.2
  | none => r

/-- The region of a remote space, when it names one other than the program's own (R232). -/
def Device.remoteOf (d : Device) (stream r sp : Nat) : Option Nat :=
  let q := (d.stream stream).regionOf (6 * ((sp - 0x40) / 8) + sp % 8)
  if 0x40 ≤ sp ∧ sp < 0x80 ∧ sp % 8 < 6 ∧ (sp - 0x40) / 8 < d.dieCount ∧ q ≠ r then some q else none

/-- An HBM access against the slot's windows (R233). -/
def hbmWindows (ps : ProgSlot) (off len : Nat) (write : Bool) : Option Nat :=
  let inside := ps.win.filter fun w =>
    decide (w.size ≠ 0) && decide (w.base * 4096 ≤ off) && decide (off + len ≤ (w.base + w.size) * 4096)
  if inside = [] then some trAddress
  else if inside.any fun w => if write then w.write else w.read then none
  else some trPermission

/-- An access of a program to bytes from an address (R232 to R234). -/
def Device.spaceCheck (d : Device) (c : Ctx) (addr len : Nat) (write : Bool) : Option Nat :=
  let sp := spaceOf addr
  let off := offsetOf addr
  if sp = spScratch then need (off + len ≤ szScratch) trAddress
  else if sp = spFw then need (off + len ≤ szFw) trAddress
  else if sp = spAct then need (off + len ≤ szAct) trAddress
  else if sp = spHbm then (if szHbm < off + len then some trAddress else hbmWindows c.ps off len write)
  else match d.remoteOf c.stream c.r sp with
    | none => some trAddress
    | some _ => if ¬ off + len ≤ szScratch then some trAddress else if write then none else some trPermission

/-- The check of a descriptor (R231), with the spaces its instruction takes; SREF of a destination answers for the
sources (R308). -/
def Device.descCheck (d : Device) (c : Ctx) (x : Desc) (write : Bool) (spaces : Nat → Bool) (srefNeeded : Bool) :
    Option Nat :=
  let above (k : Nat) : Bool := decide (x.rank < k)
  let step1 := decide (7 < x.fmt) || decide (x.sref = 3) || x.reserved
    || (above 1 && (x.d 1 ≠ 0 || x.st 1 ≠ 0)) || (above 2 && (x.d 2 ≠ 0 || x.st 2 ≠ 0))
    || (above 3 && (x.d 3 ≠ 0 || x.st 3 ≠ 0)) || decide (2 ^ 24 < x.token0 + x.count)
    || (srefNeeded && decide (x.sref ≠ 1)) || (write && x.overlaps)
  let al := if spaceOf x.addr = spFw then 64 else x.es
  let step2 := decide (x.addr % al ≠ 0) || decide (x.st 1 % al ≠ 0) || decide (x.st 2 % al ≠ 0)
    || decide (x.st 3 % al ≠ 0)
  if step1 then some trDescriptor
  else if step2 then some trAlignment
  else if !spaces (spaceOf x.addr) then some trAddress
  else d.spaceCheck c x.addr x.extent write

/-! ### Reading and writing the spaces -/

/-- The HBM byte that a request of a slot's stream reaches: an aperture address goes to the area of the stream's
epoch select in the region (R386, R387). -/
def Device.hbmPhys (d : Device) (stream r off : Nat) : Nat :=
  let unit := 0x400000
  match d.mm.slots.find? fun e =>
      e.2.area0.allocated && decide (e.2.area0.base * unit ≤ off) && decide (off < (e.2.area0.base + e.2.areaUnits) * unit) with
  | some (_, m) =>
    if tget 0 m.sel (64 * stream + r) = 1 then off - m.area0.base * unit + m.area1.base * unit else off
  | none => off

/-- Bytes `off` to `off + n - 1` of HBM touch a corrupt shard of an area (R405). -/
def Area.poisons (a : Area) (off n : Nat) : Bool :=
  a.allocated && (List.range a.shards.length).any fun i => match (a.shards[i]? : Option Shard) with
    | some h => h.corrupt && decide (off < (a.base + i + 1) * 0x400000) && decide ((a.base + i) * 0x400000 < off + n)
    | none => false

/-- (DEDUCED, assumption log 56.) -/
def Device.poisoned (d : Device) (off n : Nat) : Bool :=
  decide (0 < n) && d.mm.slots.any fun e => e.2.area0.poisons off n || e.2.area1.poisons off n

/-- An HBM read that touches a corrupt shard is counted (R405). -/
def Device.countPoison (d : Device) : Device :=
  { d with mm := { d.mm with poisonReadCount := satInc d.mm.poisonReadCount } }

/-- `n` bytes a program of a region reads from an address. -/
def Device.readMem (d : Device) (c : Ctx) (addr n : Nat) : List Byte :=
  let sp := spaceOf addr
  let off := offsetOf addr
  let g := d.region c.r
  if sp = spScratch then memRead g.scratch off n
  else if sp = spFw then memRead g.fw off n
  else if sp = spAct then memRead g.act off n
  else memRead d.hbm.mem (d.hbmPhys c.stream c.r off) n

/-- Write bytes into a local space of a region, or into HBM. -/
def Device.writeMem (d : Device) (r stream addr : Nat) (bs : List Byte) : Device :=
  let sp := spaceOf addr
  let off := offsetOf addr
  if sp = spScratch then d.updRegion r fun g => { g with scratch := memWrite g.scratch off bs }
  else if sp = spFw then d.updRegion r fun g => { g with fw := memWrite g.fw off bs }
  else if sp = spAct then d.updRegion r fun g => { g with act := memWrite g.act off bs }
  else { d with hbm := { d.hbm with mem := memWrite d.hbm.mem (d.hbmPhys stream r off) bs } }

/-- The element patterns of token `t`. -/
def Device.token (d : Device) (c : Ctx) (x : Desc) (t : Nat) : List Nat :=
  (List.range x.len).map fun i => leValue (d.readMem c (x.tok t + i * x.es) x.es)

/-- Write the element patterns of token `t`. -/
def Device.setToken (d : Device) (c : Ctx) (x : Desc) (t : Nat) (pats : List Nat) : Device :=
  d.writeMem c.r c.stream (x.tok t) (pats.flatMap fun p => leBytes x.es p)

/-- The bytes of tokens that a late trap leaves unspecified (R256): free values. (DESIGN CHOICE, assumption log 17.) -/
def Device.scrambleTokens (d : Device) (c : Ctx) (x : Desc) (ts : List Nat) : Device :=
  forEach ts (fun t d =>
    forEach (List.range (x.len * x.es)) (fun i d =>
      let (v, d) := takeFree 8 d
      d.writeMem c.r c.stream (x.tok t + i) [BitVec.ofNat 8 v]) d) d

/-- The same for every token of a tensor (R256). -/
def Device.scramble (d : Device) (c : Ctx) (x : Desc) : Device := d.scrambleTokens c x (List.range x.count)

/-! ### Quantiser parameter sets and token records (R164 to R167) -/

def qFmt (q : Nat) : Nat := bits q 3 0
def qMin128 (q : Nat) : Bool := bit q 4
def qStatic (q : Nat) : Bool := bit q 5
def qPow2 (q : Nat) : Bool := bit q 6
def qSatThr (q : Nat) : Nat := bits q 15 8
def qMseThr (q : Nat) : Nat := bits q 31 16
def qStat (q : Nat) : Nat := bits q 37 32
def qRecBase (q : Nat) : Nat := bits q 63 40
def qScale (q : Nat) : Nat := bits q 95 64
def qZpBits (q : Nat) : Nat := bits q 103 96

/-- Code range of R164 for the integer formats. -/
def qLo (q : Nat) : Int := if qFmt q = fU8 then 0 else if qMin128 q then -128 else -127
def qHi (q : Nat) : Int := if qFmt q = fU8 then 255 else 127

/-- A zero point as its format reads it. -/
def zpOf (fmt b : Nat) : Int := if fmt = fU8 then b else sx 8 b

/-- The zero-point range of R164. -/
def zpOk (q b : Nat) : Bool :=
  if qFmt q = fU8 then true
  else if qFmt q = fS8 then decide (qLo q ≤ zpOf fS8 b)
  else decide (b = 0)

/-- The rules of a parameter set, with a record area that ends after `last` records (R165, R166). (DEDUCED, assumption log
53.) -/
def qsetOk (q last : Nat) : Bool :=
  decide (qFmt q ≤ 3) && (!qMin128 q || decide (qFmt q = fS8)) && !bit q 7 && decide (bits q 39 38 = 0)
    && decide (bits q 127 104 = 0) && decide (qRecBase q % 8 = 0) && decide (qRecBase q + 8 * last ≤ szScratch)
    && (!qStatic q || (posNormal (qScale q) && zpOk q (qZpBits q)))

/-- The set of a descriptor passes R166, with the records of its tokens. -/
def Ctx.setOk (c : Ctx) (x : Desc) : Bool := qsetOk (c.q x.qset) (x.token0 + x.count)

/-- Fields of a token record (R167). -/
def rScale (v : Nat) : Nat := bits v 31 0
def rZp (v : Nat) : Nat := bits v 39 32
def rZr (v : Nat) : Bool := bit v 40
def rNonfin (v : Nat) : Bool := bit v 41
def rMisfit (v : Nat) : Bool := bit v 42
def rEscalated (v : Nat) : Bool := bit v 43
def rDegraded (v : Nat) : Bool := bit v 44
def rSatn (v : Nat) : Nat := bits v 63 48

/-- Build a token record (R167). -/
def mkRec (scale zp : Nat) (zr nonfin misfit escalated degraded : Bool) (satn : Nat) : Nat :=
  scale % 2 ^ 32 + zp % 256 * 2 ^ 32 + b2n zr * 2 ^ 40 + b2n nonfin * 2 ^ 41 + b2n misfit * 2 ^ 42
    + b2n escalated * 2 ^ 43 + b2n degraded * 2 ^ 44 + min satn 65535 * 2 ^ 48

/-- FP32 1.0, the SCALE of produced tokens (R308). -/
abbrev one32 : Nat := 0x3F800000

/-- Sequencer address of the record of token `t` of a tensor. -/
def Ctx.recAddr (c : Ctx) (x : Desc) (t : Nat) : Nat := qRecBase (c.q x.qset) + 8 * (x.token0 + t)

/-- The record of token `t`, zero where the tensor has none. -/
def Device.record (d : Device) (c : Ctx) (x : Desc) (t : Nat) : Nat :=
  leValue (memRead (d.region c.r).scratch (c.recAddr x t) 8)

def Device.setRecord (d : Device) (c : Ctx) (x : Desc) (t v : Nat) : Device :=
  d.updRegion c.r fun g => { g with scratch := memWrite g.scratch (c.recAddr x t) (leBytes 8 v) }

/-- A record passes R166 under the set that governs it. -/
def recOk (q v : Nat) : Bool := posNormal (rScale v) && zpOk q (rZp v)

/-- The records of a source tensor pass R166; a tensor with no records passes. -/
def Device.recordsOk (d : Device) (c : Ctx) (x : Desc) (tokens : List Nat) : Bool :=
  x.sref ≠ 1 || tokens.all fun t => recOk (c.q x.qset) (d.record c x t)

/-- A source's record, when it has one. -/
def Device.srcRecord (d : Device) (c : Ctx) (x : Desc) (t : Nat) : Option Nat :=
  if x.sref = 1 then some (d.record c x t) else none

/-- DEGRADED, MISFIT and ESCALATED of a source record; a source with none contributes nothing (R308). -/
def degradedOf (v : Option Nat) : Bool := match v with | some x => rDegraded x | none => false
def misfitOf (v : Option Nat) : Bool := match v with | some x => rMisfit x | none => false
def escalatedOf (v : Option Nat) : Bool := match v with | some x => rEscalated x | none => false

/-- Write the record of a produced token where the destination has records (R308). -/
def Device.produce (d : Device) (c : Ctx) (x : Desc) (t v : Nat) : Device :=
  if x.sref = 1 then d.setRecord c x t v else d

/-! ### Byte ranges of operands (R235, R294) -/

/-- The bytes of a tensor: start and end of each token. -/
def Desc.ranges (x : Desc) : List (Nat × Nat) :=
  (List.range x.count).map fun t => (x.tok t, x.tok t + x.len * x.es)

/-- The bytes of some tokens of a tensor. -/
def Desc.rangesOf (x : Desc) (tokens : List Nat) : List (Nat × Nat) :=
  tokens.map fun t => (x.tok t, x.tok t + x.len * x.es)

/-- The bytes of the token records of a tensor. -/
def Ctx.recRanges (c : Ctx) (x : Desc) (first n : Nat) : List (Nat × Nat) :=
  [(c.recAddr x first, c.recAddr x (first + n))]

/-- Two ranges share a byte. -/
def meets (a b : Nat × Nat) : Bool := decide (a.1 < b.2) && decide (b.1 < a.2)

/-! ### Tile control words (R295) -/

/-- The logical tile a control word names in a region. -/
def rcTile (r w : Nat) : Nat := 128 * r + 8 * bits w 3 0 + bits w 6 4
def rcFire (w : Nat) : Bool := bit w 7
def rcSpan (w : Nat) : Nat := bits w 9 8
def rcRange (w : Nat) : Nat := bits w 12 10
def rcFirst (w : Nat) : Nat := bits w 39 16
def rcCount (w : Nat) : Nat := bits w 48 40 + 1

/-- No reserved bit is set, and SPAN is not 3 where the instruction reads it. -/
def rcOk (w : Nat) (span : Bool) : Bool :=
  decide (bits w 15 13 = 0) && decide (bits w 63 49 = 0) && !(span && decide (rcSpan w = 3))

/-- The rescale entry of a logical column (R181). -/
def Device.rescale (d : Device) (lt col : Nat) : Nat :=
  tget 0x00800000 (d.cluster (ltCluster lt)).rescale (512 * ltTile lt + col)

/-- The rescale entries of a logical tile that are not S_MIN, by column (R181, R182). -/
def Device.scalesOf (d : Device) (lt : Nat) : Table Nat :=
  (d.cluster (ltCluster lt)).rescale.filterMap fun e => if e.1 / 512 = ltTile lt then some (e.1 % 512, e.2) else none

/-- The logical tile is bound to a stream: one of its TILE records names it (R254, R318). -/
def Device.bound (d : Device) (stream lt : Nat) : Bool :=
  (d.stream stream).st ≠ .free && (d.stream stream).tiles.any fun e => e.1 = lt

/-! ### Statistics slots (R184 to R189) -/

/-- Update a statistics slot that is enabled (R184). -/
def Device.stat (d : Device) (r n : Nat) (f : StatSlot → StatSlot) : Device :=
  d.updRegion r fun g =>
    let s := tget .reset g.stats n
    if s.en then { g with stats := tset g.stats n (f s) } else g

/-- Set flag bit `i` of STAT_STATUS when a count is not zero. -/
def flagIf (flags i n : Nat) : Nat := if n = 0 ∨ bit flags i then flags else flags + 2 ^ i

/-- One converted token: elements, saturations and non-finite elements, with its error and signal sums (R184, R185). -/
def StatSlot.convert (s : StatSlot) (elems sat nonfin : Nat) (e p : Rat) : StatSlot :=
  { s with conv := (s.conv + elems) % 2 ^ 64, tokenCount := satInc s.tokenCount, satCount := satAdd s.satCount sat,
           nonfinCount := satAdd s.nonfinCount nonfin, errSum := add64 s.errSum e, sigSum := add64 s.sigSum p,
           flags := flagIf (flagIf s.flags 0 sat) 3 nonfin }

/-- A misfit token in its slot (R189): cause 1 SAT, 2 MSE, 3 both. (DEDUCED, assumption log 55.) -/
def StatSlot.misfit (s : StatSlot) (token cause : Nat) : StatSlot :=
  { s with flags := flagIf s.flags 2 1, misfitCount := satInc s.misfitCount,
           lastMisfit := if bit s.lastMisfit 31 then s.lastMisfit else token % 2 ^ 24 + cause * 2 ^ 24 + 2 ^ 31 }

/-- A zero-range token (R171). -/
def StatSlot.zeroRange (s : StatSlot) : StatSlot :=
  { s with flags := flagIf s.flags 1 1, zrangeCount := satInc s.zrangeCount }

/-- A bank from its 4 KiB image (R264). (DEDUCED, assumption log 57.) -/
def Bank.ofBytes (bs : List Byte) : Bank :=
  let v (off n : Nat) : Nat := leValue ((bs.drop off).take n)
  let tbl (n step off w : Nat) : Table Nat := (List.range n).filterMap fun i =>
    if v (off + step * i) w = 0 then none else some (i, v (off + step * i) w)
  let depth := v 0x1A8 1 % 8
  let rdepth := v 0x1A9 1 % 32
  { s := tbl 32 8 0 8, a := (tbl 16 8 0x100 8).map fun e => (e.1, e.2 % 2 ^ 48), p := v 0x180 1 ||| 1,
    t := tbl 64 32 0x800 32, q := tbl 16 16 0x200 16, pc := v 0x184 2 % 2 ^ 14,
    loop := ((List.range depth).map fun k => (v (0x188 + 8 * k) 4, v (0x18C + 8 * k) 2 % 2 ^ 14)).reverse,
    ret := ((List.range rdepth).map fun k => v (0x1C0 + 4 * k) 2 % 2 ^ 14).reverse, above := [] }

end Sys2Proof.Machine
end

