-- ==== Sys2Proof/Machine/Seq.lean ====
section
/-! DEFINITION. The region sequencer's shared operations (chapter 07): traps, the end and the start of an activation,
egress groups. -/
namespace Sys2Proof.Machine

/-- SLOTCLASS codes (R264). -/
abbrev clC : Nat := 0
abbrev clM : Nat := 1
abbrev clT : Nat := 2
abbrev clV : Nat := 3

/-- Change the sequencer registers of a region. -/
def Device.updSeq (d : Device) (r : Nat) (f : SeqRegs → SeqRegs) : Device :=
  d.updRegion r fun g => { g with regs := f g.regs }

/-- PC of the running slot. -/
def Device.pcOf (d : Device) (r : Nat) : Nat := (tget .reset (d.region r).arch (d.region r).regs.slot).pc

/-- A bundle index lies in the program's range (R238). -/
def ProgSlot.inRange (p : ProgSlot) (pc : Nat) : Bool := decide (p.base ≤ pc) && decide (pc < p.base + p.len)

/-- Every register write in flight reaches the bank of the running slot (R225: what was issued runs to completion). -/
def Device.flushWrites (d : Device) (r : Nat) : Device :=
  d.updRegion r fun g =>
    { g with pend := [],
             arch := tset g.arch g.regs.slot
               ((g.pend.insertionSort fun x y => x.cycle ≤ y.cycle).foldl (fun b w => b.apply w.target w.value)
                 (tget .reset g.arch g.regs.slot)) }

/-- Close the open egress group of a stream in a region (R277, R278). -/
def Device.closeGroup (d : Device) (r stream : Nat) : Device :=
  match (d.region r).groups.find? fun e => e.1 = stream with
  | none => d
  | some (_, n, _) =>
    let d := d.updRegion r fun g => { g with groups := tdel g.groups stream }
    { d with adm := { d.adm with groups := d.adm.groups.map fun x =>
        if x.stream = stream ∧ x.region = r ∧ x.number = n then { x with closed := true } else x } }

/-- A reset of a region closes its open egress groups: no frame joins one any more (R277). (DEDUCED, assumption log 39.) -/
def Device.closeGroups (d : Device) (r : Nat) : Device :=
  forEach ((d.region r).groups.map fun e => e.1) (fun s d => d.closeGroup r s) d

/-- The activation ends (R225): the sequencer is IDLE, the stream's open group closes. -/
def Device.endActivation (d : Device) (r : Nat) : Device :=
  let stream := (tget .reset (d.region r).ps (d.region r).regs.slot).stream
  let d := (d.flushWrites r).updRegion r fun g =>
    { g with active := false, wait := none, staged := [], held := [], stalls := [], lateTraps := [],
             haltAsked := false, yieldedFrom := false, regs := { g.regs with st := .idle } }
  d.closeGroup r stream

/-- A start that is skipped or missed is counted where the rules say so, and reported (R224, R260). -/
def Device.reportStart (d : Device) (r : Nat) : Device := d.faultRegion r 0x12 0 0

/-- No bundle of a region issues before the cycle under way: its wait, yield, halt or idle time ends there (R237, R271). -/
def Region.catchUp (now : Nat) (g : Region) : Region := { g with cyc := max g.cyc now }

/-- The same where the end is that of a yield point (R252). -/
def Region.fromYield (now : Nat) (g : Region) : Region := { g.catchUp now with sinceYield := 0, gapSeen := false }

/-- Begin an activation (R224): PC at the entry, the loop and return stacks empty, the rest of the bank as it was. A start after
its instant, one that ends another activation and one that was kept are late (R55, R226, R260). -/
def Device.begin_ (d : Device) (r slot entry start : Nat) (late : Bool) : Device :=
  let p := tget .reset (d.region r).ps slot
  let d := d.updRegion r fun g =>
    let g := g.fromYield d.nowCycle
    { g with active := true, wait := none, cyc := g.cyc + 8,
             ps := tupd .reset g.ps slot fun p => { p with actCount := satInc p.actCount },
             arch := tupd .reset g.arch slot fun b => { b with pc := p.base + entry, loop := [], ret := [] },
             regs := { g.regs with st := .running, slot := slot } }
  if late || d.passed start then d.lateEvent (unitRegion r) (unitRegion r + 2 ^ 28) (d.clk.now - start) p.stream else d

/-- The running activation is ended by a start that falls due (R226, R342). -/
def Device.overrun (d : Device) (r : Nat) : Device :=
  let stream := (tget .reset (d.region r).ps (d.region r).regs.slot).stream
  let d := d.updSeq r fun q => { q with overrunF := true, overrunCount := satInc q.overrunCount }
  let d := d.faultRec (unitRegion r) (unitRegion r + 2 ^ 28) 0x11 0 1 0 stream
  (d.endActivation r).breach 0x11 (unitRegion r) [stream]

/-- The logical identifier of a tested unit: the logical tile that the physical tile serves (R27). -/
def Device.testUnitL (d : Device) (unit : Nat) : Nat := if unitLevel unit = 0 then d.tileUnitL (unitPtOf unit) else unit

/-- An ADCLIN in parts has ended without a verdict: it falls due again from its first part (R441). -/
def Device.adclinAgain (d : Device) (r : Nat) (t : TestEntry) : Device :=
  let parts (x : TestEntry) : Bool := x.unit = t.unit && x.code = t.code && x.part / 32 = t.part / 32
  d.updRegion r fun g =>
    { g with tests := (g.tests.filter fun x => !parts x) ++
        [{ t with part := t.part / 32 * 32 + 1, dueAt := d.real, overdue := false }] }

/-- A test under way is abandoned and reported (R249); an ADCLIN in parts falls due again from its first part (R441). -/
def Device.abandonTest (d : Device) (r : Nat) : Device :=
  match (d.region r).running with
  | none => d
  | some t =>
    let d := d.updRegion r fun g => { g with running := none }
    let d := if t.code = 3 ∧ t.part % 32 ≠ 0 then d.adclinAgain r t else d
    d.fault (d.testUnitL t.unit) t.unit 0x08 0 t.code

/-- An activation start falls due (R224, R226, R260); `late` for one that was kept. A lost region takes none (R434). -/
def Device.startActivation (d : Device) (r slot entry start : Nat) (late : Bool) : Device :=
  let g := d.region r
  if (tget .reset g.ps slot).st ≠ .valid ∨ g.lost then
    (d.updSeq r fun q => { q with startSkipCount := satInc q.startSkipCount }).reportStart r
  else match g.regs.st with
  | .reset | .quarantined =>
    (d.updSeq r fun q => { q with startSkipCount := satInc q.startSkipCount }).reportStart r
  | .halted =>
    let dup := b2n (g.kept.any fun e => e.1 = slot)
    (d.updRegion r fun g =>
      { g with kept := tset g.kept slot (start, entry),
               regs := { g.regs with startMissedF := true,
                                     startSkipCount := satAdd g.regs.startSkipCount dup } }).reportStart r
  | .idle => d.begin_ r slot entry start late
  | .yielded =>
    let d := d.abandonTest r
    if g.active then (d.overrun r).begin_ r slot entry start true else d.begin_ r slot entry start late
  | .running => (d.overrun r).begin_ r slot entry start true

/-- The kept starts of a region in Meridian order (R260). -/
def Region.keptInOrder (g : Region) : List (Nat × Nat × Nat) :=
  g.kept.insertionSort fun x y => x.2.1 ≤ y.2.1

/-- After ABORT the kept starts begin at once in Meridian order, each late (R260). -/
def Device.beginKept (d : Device) (r : Nat) : Device :=
  let l := (d.region r).keptInOrder
  let d := d.updRegion r fun g => { g with kept := [] }
  l.foldl (fun d e => d.startActivation r e.1 e.2.2 e.2.1 true) d

/-- Streams with a program in a region (R342). -/
def Device.streamsOfRegion (d : Device) (r : Nat) : List Nat :=
  d.liveStreams.filter fun s => (d.stream s).programs.any fun p => p.region = r

/-- Count for a stream in every region that runs it, and in the region that issued (R292). -/
def Device.mirror (d : Device) (r stream : Nat) (f : SeqRegs → SeqRegs) : Device :=
  forEach ((r :: (d.stream stream).programs.map fun p => p.region).eraseDups) (fun x d => d.updSeq x f) d

/-- Data dropped (R20, R446 EVENT 0x13): the rule stands in F_DETAIL. -/
def Device.dropped (d : Device) (r rule stream : Nat) : Device :=
  d.faultRec (unitRegion r) (unitRegion r + 2 ^ 28) 0x13 0 1 rule stream

/-- ACTIVATION_START (R53, R224, R226, R260). `start` is the Almanac's instant, in Tc from frame 0; before it nothing
starts. -/
def execActivationStart (r slot entry start : Nat) (s : State) : Host.Outcome State Fault Refusal :=
  .next (s.upd fun d => if r < 6 * d.dieCount ∧ d.came start then d.startActivation r slot entry start false else d)

/-- The open group of a stream in a region has been leaving for 1 µs (R277). -/
def Device.groupOver (d : Device) (r stream : Nat) : Bool :=
  match (d.region r).groups.find? fun e => e.1 = stream with
  | none => false
  | some (_, n, _) => d.adm.groups.any fun x => x.stream = stream && x.region = r && x.number = n &&
      x.leftAt.any fun t => d.ranOut t (usTc 1)

/-- EGRESS_GROUP_TIMEOUT (R277): 1 µs after the group's first result frame leaves the package. -/
def execEgressGroupTimeout (r stream : Nat) (s : State) : Host.Outcome State Fault Refusal :=
  .next (s.upd fun d => if d.groupOver r stream then d.closeGroup r stream else d)

/-- TRAP_MER_LO_READ (R264): a read of TRAP_MER_LO latches both words. -/
def execTrapMerLoRead (who r : Nat) (s : State) : Host.Outcome State Fault Refusal :=
  .next (s.upd fun d => d.rowRead who .observer fun d =>
    if d.dieAccess (r / 6) ≠ stOK then (d.dieAccess (r / 6), [], d)
    else
      let m := (d.region r).regs.trapMer
      (stOK, [m % 2 ^ 32], d.updSeq r fun q => { q with trapMerLatch := m }))

end Sys2Proof.Machine
end

