-- ==== Sys2Proof/Machine/Contain.lean ====
section
/-! DEFINITION. Containment (chapters 04 and 13): the re-dress queue, suspect and faulty units, the fencing of tiles,
regions and dies, taints, and tests that fall due. -/
namespace Sys2Proof.Machine

/-- The die temperature in 1/16 °C: the higher of the die's two diodes (R111, R558). -/
def Device.dieTemp (d : Device) (n : Nat) : Int :=
  max (tget .reset d.therm.sensors (2 + 2 * n)).temp (tget .reset d.therm.sensors (3 + 2 * n)).temp

/-! ### The re-dress queue (R152 to R155) -/

/-- Rank of a cause in the order the queue is taken (R152, R432). (DEDUCED, assumption log 65.) -/
def RedressCause.rank : RedressCause → Nat
  | .fence => 0 | .substitution => 1 | .edge => 2 | .near => 3 | .command => 4

/-- Queue a re-dress of a logical tile; a request of lower rank for the same tile is merged (R152, R432). (DEDUCED,
assumption log 65.) -/
def Device.queueRedress (d : Device) (lt : Nat) (cause : RedressCause) (event : Nat) : Device :=
  d.updCluster (ltCluster lt) fun c =>
    match c.redress.find? fun x => x.logical = lt with
    | none => { c with redress := c.redress ++ [{ logical := lt, cause := cause, event := event, stage := 0 }] }
    | some y =>
      if cause.rank < y.cause.rank then
        { c with redress := c.redress.map fun x => if x.logical = lt then { x with cause := cause, event := event } else x }
      else c

/-- Every trim entry of a physical tile is set to ROLE 0 (R125, R153). -/
def Tile.clearRoles (t : Tile) : Tile := { t with trims := tmap t.trims fun _ e => { e with role := 0 } }

/-- A physical tile is left undressed (R125, R155). -/
def Tile.undress (t : Tile) : Tile :=
  { t.clearRoles with dress := { t.dress with st := .idle, dressed := false, rowsDone := 0 } }

/-- A re-dress that runs is abandoned: the map is unchanged, the spare is undressed, and the abandonment is reported
(R155). One that only waits leaves the queue. -/
def Device.abandonRedress (d : Device) (lt : Nat) : Device :=
  let c := ltCluster lt
  match (d.cluster c).redress.find? fun x => x.logical = lt with
  | none => d
  | some x =>
    let d := d.updCluster c fun k => { k with redress := k.redress.filter fun y => y.logical ≠ lt }
    if x.stage < 2 then d
    else
      let d := match d.spareOf c with
        | some p => d.updTile p Tile.undress
        | none => d
      d.fault (unitLt lt) (match d.spareOf c with | some p => unitPt p | none => 0) 0x0C 0xB x.event

/-- Every re-dress of a region's clusters is abandoned (R155). -/
def Device.abandonRegionRedress (d : Device) (r : Nat) : Device :=
  forEach ((List.range 16).flatMap fun c => (d.cluster (16 * r + c)).redress.map fun x => x.logical)
    (fun lt d => d.abandonRedress lt) d

/-! ### Regions and dies (R433 to R437) -/

/-- FLT_STATUS flags (R449). -/
def Device.updFlt (d : Device) (f : Faults → Faults) : Device := { d with flt := f d.flt }

/-- A tone run ends (R109): early when strobes are left. The tile is IDLE from then on, one that was PARKED before the run
too. (DESIGN CHOICE, assumption log 99.) -/
def Tile.endTone (t : Tile) : Tile :=
  if t.tone.running then
    { t with tone := { t.tone with running := false }, st := .idle, histIncompleteF := t.histIncompleteF || 0 < t.tone.left }
  else t

/-- A reset reaches a tile by its region or die (R37, R40, R109): bursts and MVMs in flight are discarded, rows parked, a tone
run ended. Its sighting position, staged writes and check accumulators stay. (DESIGN CHOICE, assumption log 99.) -/
def Device.parkTile (d : Device) (p : Nat) : Device :=
  d.updTile p fun t =>
    { t.endTone with bursts := [], flight := [], shadow := [], active := [], st := .parked, pmAcc := false, mvmNo := 0,
                     strobeAt := none }

/-- Physical tiles of a region. -/
def tilesOf (r : Nat) : List Nat := (List.range 144).map fun i => 144 * r + i

/-- The hub starts to re-place the streams of a lost region: one entry each, in priority order, then by number
(R435). -/
def Device.openReplacements (d : Device) (r cause : Nat) : Device :=
  let ss := (d.streamsOfRegion r).insertionSort fun a b => (d.stream a).prio ≤ (d.stream b).prio
  let d := d.updFlt fun f =>
    { f with replacements := (f.replacements.filter fun x => x.region ≠ r) ++
        ss.map fun s => { stream := s, region := r, target := none, cause := cause, since := d.real } }
  forEach ss (fun s d => d.faultRec (unitRegion r) (unitRegion r + 2 ^ 28) cause 0x7 1 0 s) d

/-- A region is quarantined (R434): it takes no activations, its running test is abandoned, its re-dresses are
abandoned, its streams are breached and their re-placement begins. `event` and `action` go into the fault record. -/
def Device.quarantine (d : Device) (r event action detail : Nat) : Device :=
  let d := d.faultRegion r event action detail
  let d := (d.abandonTest r).abandonRegionRedress r
  let d := d.endActivation r
  let d := (d.updRegion r fun g => { g with kept := [], lost := true, regs := { g.regs with st := .quarantined } })
  let d := d.updFlt fun f => { f with quarantineF := true }
  (d.breach 0x12 (unitRegion r) (d.streamsOfRegion r)).openReplacements r event

/-- Mark a health. (DEDUCED, assumption log 54.) -/
def Tile.setHealth (t : Tile) (h : Health) : Tile := { t with check := { t.check with health := h } }

/-- Redundant streams that use a logical tile as a twin lose their redundancy while it is withdrawn: each loss is reported, and
no breach is sent (R427). R446 has no EVENT for it. (DESIGN CHOICE, assumption log 21.) -/
def Device.redundancyLost (d : Device) (p lt : Nat) : Device :=
  let ss := d.liveStreams.filter fun s =>
    let x := d.stream s
    x.redundant && (x.tiles.drop (x.tiles.length / 2)).any fun t => t.1 = lt
  forEach ss (fun s d =>
    let (event, d) := takeFree 8 d
    d.faultRec (unitLt lt) (unitPt p) event 0 1 0 s) d

/-- Fence a physical tile (R432, R433): withdrawn, its logical tile's substitution queued first; a region whose
cluster cannot re-home it is quarantined. The event's record carries the action. -/
def Device.fenceTile (d : Device) (p event detail : Nat) : Device :=
  let r := ptRegion p
  if d.flt.fenced.contains (ptDie p) ∨ (d.region r).regs.st = .quarantined then d.faultTile p event 0xB detail
  else if (d.tile p).check.health = .withdrawn ∨ (d.tile p).check.health = .faulty then d.faultTile p event 0x0 detail
  else
    let d := d.faultTile p event 0x3 detail
    let d := if (d.region r).running.any fun t => t.unit = unitPt p then d.abandonTest r else d
    let d := d.updFlt fun f => { f with fenceF := true }
    match d.logicalOf p with
    | none =>
      let running := (d.cluster (ptCluster p)).redress.filter fun x => 2 ≤ x.stage
      let d := forEach (running.map fun x => x.logical) (fun lt d => d.abandonRedress lt) d
      let d := d.updTile p fun t => t.setHealth .faulty
      if running.any fun x => decide (x.cause.rank ≤ 1) then d.quarantine r 0x18 0x5 0 else d
    | some lt =>
      let d := d.updTile p fun t => t.setHealth .withdrawn
      let spareOk := match d.spareOf (ptCluster p) with
        | some q => decide ((d.tile q).check.health ≠ .faulty ∧ (d.tile q).check.health ≠ .withdrawn)
        | none => false
      if !spareOk then d.quarantine r 0x18 0x5 0
      else
        let others := ((d.cluster (ptCluster p)).redress.filter fun x => decide (2 ≤ x.stage ∧ x.logical ≠ lt))
        let d := forEach (others.map fun x => x.logical) (fun l d => d.abandonRedress l) d
        let d := forEach (List.range others.length)
          (fun i d => match others[i]? with | some x => d.queueRedress x.logical x.cause x.event | none => d) d
        (d.queueRedress lt .fence event).redundancyLost p lt

/-- Grades that fence a suspect tile and quarantine a suspect region (R430). -/
def Device.strict (d : Device) : Bool := decide (6 ≤ d.sec.grade)

/-- A physical tile becomes suspect (R428 to R431); its event's record carries the action it starts. -/
def Device.suspectTile (d : Device) (p event detail : Nat) : Device :=
  let d := d.updTile p fun t => { t with check := { t.check with suspectF := true } }
  let k := (d.tile p).check
  match k.health with
  | .withdrawn | .faulty => d.faultTile p event 0x0 detail
  | .observed => (d.updTile p fun t => { t with check := { t.check with passes := 0, setDone := [] } }).faultTile p event 0x0 detail
  | .normal =>
    let again := match k.obsEndedAt with
      | some t => decide (d.real < t + msTc (d.flt.obsPeriod * 3600000))
      | none => false
    if d.strict || again then d.fenceTile p event detail
    else
      (d.updTile p fun t => { t with check := { t.check with health := .observed, passes := 0, setDone := [], obsEvent := event } }).faultTile
        p event 0x1 detail

/-- A region becomes suspect (R428 to R431). -/
def Device.suspectRegion (d : Device) (r event detail : Nat) : Device :=
  let g := d.region r
  if g.regs.st = .quarantined then d.faultRegion r event 0x0 detail
  else match g.health with
  | .observed => (d.updRegion r fun g => { g with passes := 0, setDone := [] }).faultRegion r event 0x0 detail
  | .normal =>
    let again := match g.obsEndedAt with
      | some t => decide (d.real < t + msTc (d.flt.obsPeriod * 3600000))
      | none => false
    if d.strict || again then d.quarantine r event 0x5 detail
    else (d.updRegion r fun g => { g with health := .observed, passes := 0, setDone := [], obsEvent := event }).faultRegion r event 0x1 detail
  | _ => d.quarantine r event 0x5 detail

/-- Events of the last second, with one more; reaching the threshold restarts the count (R428). -/
def pushEvent (times : List Nat) (now thr : Nat) : List Nat × Bool :=
  let l := now :: times.filter fun t => decide (now < t + msTc 1000)
  if thr ≤ l.length then ([], true) else (l, false)

/-- A corrected error in a memory of a region: more than 16 within 1 s make it suspect (R428). R446 has no EVENT for it.
(DESIGN CHOICE, assumption log 21.) -/
def Device.correctedRegion (d : Device) (r : Nat) : Device :=
  let (l, hit) := pushEvent (d.region r).corrTimes d.real 17
  let d := d.updRegion r fun g => { g with corrTimes := l }
  if hit then
    let (event, d) := takeFree 8 d
    d.suspectRegion r event 0
  else d

/-- What error correction found is counted and flagged (R207, R236, R587). -/
def Device.eccFound (d : Device) (r : Nat) (e : Ecc) : Device :=
  match e with
  | .clean | .uncorrectable .region => d
  | .corrected .region =>
    (d.updSeq r fun q => { q with eccCorrF := true, eccCorrCount := satInc q.eccCorrCount }).correctedRegion r
  | .corrected .fast =>
    (d.updRegion r fun g => { g with dmu := { g.dmu with eccCorrF := true,
                                                         eccCorrCount := satInc g.dmu.eccCorrCount } }).correctedRegion r
  | .corrected .hbm => { d with hbm := { d.hbm with eccCorrF := true, eccCorr := satInc d.hbm.eccCorr } }
  | .uncorrectable .fast => d.updRegion r fun g => { g with dmu := { g.dmu with eccUncorrF := true } }
  | .uncorrectable .hbm => { d with hbm := { d.hbm with eccUncorrF := true, eccUncorr := satInc d.hbm.eccUncorr } }

/-- A region is faulty (R429, R430): quarantined and re-placed in every grade. -/
def Device.faultyRegion (d : Device) (r event detail : Nat) : Device :=
  (d.updRegion r fun g => { g with health := .faulty }).quarantine r event 0x5 detail

/-! ### Traps (R254 to R258) -/

/-- A trap is reported (R258, R428, R429): DATA_ECC, IMEM_ECC and STALL_OVERRUN make the region suspect, a second
uncorrectable error within an hour makes it faulty; every other cause is reported only. -/
def Device.trapReport (d : Device) (r code : Nat) : Device :=
  if code = trImemEcc ∨ code = trDataEcc then
    let again := match (d.region r).eccAt with
      | some t => decide (d.real < t + msTc 3600000)
      | none => false
    let d := d.updRegion r fun g => { g with eccAt := some d.real }
    if again then d.faultyRegion r 0x09 code else d.suspectRegion r 0x09 code
  else if code = trStallOverrun then d.suspectRegion r 0x09 code
  else d.faultRegion r 0x09 0 code

/-- Take a trap (R258): issue stops, the registers are written, the trap is counted and reported. `further` is the count of
other causes at the boundary (R257). (DEDUCED, assumption log 11.) -/
def Device.takeTrap (d : Device) (r : Nat) (t : Trap) (further : Nat) : Device :=
  let pc := d.pcOf r
  let d := (d.flushWrites r).updRegion r fun g =>
    { g with staged := [], held := [], stalls := [], haltAsked := false,
             regs := { g.regs with st := .halted, trapF := true, cause := t.code, slotClass := t.slotClass,
                                   late := t.late, swCode := t.swCode, multi := min further 255, trapPc := pc,
                                   faultPc := t.faultPc, trapInfo := t.info % 2 ^ 32, trapMer := d.mer, resumePc := pc,
                                   trapCount := satInc g.regs.trapCount } }
  d.trapReport r t.code

/-- Causes found late in one bundle (R256, R257): the first is taken, the others at the same boundary counted in MULTI. An idle
sequencer stands at a boundary, so one found after its activation has ended is taken at once; while the region is YIELDED or
HALTED they are kept. (DEDUCED, assumption log 11.) -/
def Device.lateTogether (d : Device) (r : Nat) (l : List Trap) : Device :=
  match l with
  | [] => d
  | t :: rest =>
    match (d.region r).regs.st with
    | .running | .idle => d.takeTrap r t rest.length
    | .yielded | .halted => d.updRegion r fun g => { g with lateTraps := g.lateTraps ++ l }
    | .reset | .quarantined => d

/-- A late trap (R256). -/
def Device.lateTrap (d : Device) (r : Nat) (t : Trap) : Device := d.lateTogether r [{ t with late := true }]

/-- Late traps and a DM_HALT kept for the boundary are taken, oldest first, the rest counted in MULTI (R257). -/
def Device.takeKept (d : Device) (r : Nat) : Device :=
  let g := d.region r
  match g.lateTraps with
  | t :: rest =>
    (d.updRegion r fun g => { g with lateTraps := [] }).takeTrap r t (rest.length + b2n g.haltAsked)
  | [] =>
    if g.haltAsked then
      d.takeTrap r { code := trDmHalt, slotClass := 0, late := false, swCode := 0, info := 0, faultPc := d.pcOf r } 0
    else d

/-- A region reset (R37, R41, R263): sequencer, memories, DMU and output stages. Counters, egress groups already with the
hub, the router and every rescale and trim entry stay. Programs in the HBM store are reloaded (R263). (DEDUCED, assumption
log 39.) -/
def Region.cleared (g : Region) : Region :=
  { g with regs := { g.regs with st := .idle, slot := 0, trapF := false, overrunF := false, testOverdueF := false,
                                 yieldGapF := false, eccCorrF := false, startMissedF := false, rxDropF := false, cause := 0,
                                 slotClass := 0, late := false, swCode := 0, multi := 0, trapPc := 0, faultPc := 0,
                                 trapInfo := 0, trapMer := 0, trapMerLatch := 0, resumePc := 0, trapTimeout := 50,
                                 stallMaxTile := 0, stallMaxFab := 0, stallMaxHbm := 0, scratchPage := 0 },
           imem := [], arch := [], scratch := [], fw := [], act := [], staged := [], held := [], stalls := [], pend := [],
           engineFree := 0, egressFree := 0, arrayFree := 0, arrayDone := 0, pipeFree := 0, quantFree := 0, tileFree := [],
           busy := [], busyR := [], xfers := [], inject := [], wait := none, active := false, lateTraps := [],
           haltAsked := false, kept := [], sinceYield := 0, gapSeen := false, running := none, yieldedFrom := false, groups := [],
           resetAsked := false, unloaded := true,
           dmu := { g.dmu with nonfinF := false, satF := false, maskedF := false, eccCorrF := false,
                               eccUncorrF := false, escBal := [], escSpent := [], actBase := List.replicate 8 0,
                               actStep := List.replicate 8 0 } }

/-- A remote write lies wholly within an enabled receive window (R234). -/
def Region.receives (g : Region) (off len : Nat) : Bool :=
  decide (off + len ≤ szScratch) &&
    g.rxwin.any fun w => w.read && decide (w.base * 64 ≤ off) && decide (off + len ≤ (w.base + w.size) * 64)

/-- Bytes that the spec leaves unspecified. (DESIGN CHOICE, assumption log 18.) -/
def freeBytes (n : Nat) (d : Device) : List Byte × Device :=
  (List.range n).foldl (fun (st : List Byte × Device) _ =>
    let (v, d) := takeFree 8 st.2
    (st.1 ++ [BitVec.ofNat 8 v], d)) ([], d)

/-- Transfers that a region reset discards leave what they had still to write outside the region unspecified (R285). (DESIGN
CHOICE, assumption log 18.) -/
def Device.discardXfers (d : Device) (r : Nat) : Device :=
  (d.region r).xfers.foldl (fun d x =>
    x.writes.foldl (fun d w =>
      let (bs, d) := freeBytes w.2.length d
      match d.remoteOf x.stream r (spaceOf w.1) with
      | some q => if (d.region q).receives (offsetOf w.1) bs.length then
            d.updRegion q fun g => { g with scratch := memWrite g.scratch (offsetOf w.1) bs }
          else d
      | none => if spaceOf w.1 = spHbm then d.writeMem r x.stream w.1 bs else d) d) d

/-- A dressing under way is undone, and the work lost is reported (R20, R41, R125); R446 names no EVENT for it but that of an
abandoned re-dress. (DESIGN CHOICE, assumption log 99.) -/
def Device.undoDressing (d : Device) (p : Nat) : Device :=
  match (d.tile p).dress.st with
  | .idle | .queued => d
  | .active | .pausedAllowance | .pausedTemp => (d.updTile p Tile.undress).faultTile p 0x0C 0xB 0

/-- Reset a region's sequencer, memories and output stages, and park its tiles (R37, R40). A region whose microcode is not
verified stays in RESET (R262). (DEDUCED, assumption log 39.) -/
def Device.clearRegion (d : Device) (r : Nat) : Device :=
  let d := ((d.discardXfers r).closeGroups r).updRegion r fun g =>
    let c := g.cleared
    { c with regs := { c.regs with st := if g.microcode then .idle else .reset } }
  let d := forEach (tilesOf r) (fun p d =>
    if tget .reset d.tiles p = .reset then d else (d.parkTile p).undoDressing p) d
  forEach (List.range 16) (fun c d =>
    if tget .reset d.clusters (16 * r + c) = .reset then d
    else d.updCluster (16 * r + c) fun k => { k with holds := [] }) d

/-- A PROGRAM record of a stream adds its ESC_CYCLES to the stream's balance in the region (R214, R330). -/
def DmuRegs.reserve (x : DmuRegs) (stream esc : Nat) : DmuRegs :=
  { x with escBal := tset x.escBal stream (tget 0 x.escBal stream + esc),
           escPriced := tset x.escPriced stream (tget 0 x.escPriced stream + esc) }

/-- The image and the initial bank of a program go into its slot's range and its bank (R222, R263). -/
def Region.putImage (g : Region) (p : StreamProgram) : Region :=
  { g with imem := (List.range p.len).foldl (fun m i => tset m (p.base + i) (lget 0 p.image i)) g.imem,
           arch := tset g.arch p.slot (if p.bank = [] then Bank.reset else Bank.ofBytes p.bank) }

/-- The hub reloads a region's programs with their initial banks from the HBM program store (R263, R434). (DEDUCED,
assumption log 39.) -/
def Device.reloadRegion (d : Device) (r : Nat) : Device :=
  let d := d.updRegion r fun g => { g with unloaded := false }
  forEach (d.streamsOfRegion r) (fun s d =>
    ((d.stream s).programs.filter fun (p : StreamProgram) => p.region = r).foldl (fun (d : Device) p =>
      d.updRegion r fun g => g.putImage p) d) d

/-- A region reset (R41, R434): what it ends is reported (R20, R41) with the EVENT of the trap or quarantine that it follows and
the stream whose activation is lost, its streams are breached, and the region serves them again once it has passed a full test
set. (DEDUCED, assumption log 60.) -/
def Device.resetRegion (d : Device) (r : Nat) : Device :=
  let g := d.region r
  let lost := if g.active then (tget ProgSlot.reset g.ps g.regs.slot).stream else 0x1FF
  let d := d.faultRec (unitRegion r) (unitRegion r + 2 ^ 28) 0x09 0 1 g.regs.cause lost
  let d := (d.abandonRegionRedress r).abandonTest r
  let d := (d.clearRegion r).updRegion r fun g => { g with lost := true }
  d.breach 0x12 (unitRegion r) (d.streamsOfRegion r)

/-- Regions of a die. -/
def dieRegions (n : Nat) : List Nat := (List.range 6).map fun g => 6 * n + g

/-- A router reset under way on a die, and a retrain of its hub link, give way to a wider action, which is reported with its EVENT
(R21). -/
def Device.abandonNetwork (d : Device) (n event : Nat) : Device :=
  let d := forEach ((dieRegions n).filter fun r => (d.region r).router.resetAsked ||
      decide ((d.region r).router.st = .draining) || decide ((d.region r).router.st = .reset))
    (fun r d => d.faultRegion r event 0xB 0) d
  if (d.link n).st = .retraining then d.faultDie n event 0xB 0 else d

/-- A die's compute side is reset (R37): sequencers, DMUs, scratch, tile input registers; its re-dresses and tests are abandoned
(R21, R155). The die manager's copy of the microcode is cleared, so the regions stay in RESET until the hub broadcasts again
(R263). -/
def Device.resetCompute (d : Device) (n : Nat) : Device :=
  let d := d.updDie n fun x => { x with microcode := false }
  forEach (dieRegions n) (fun r d =>
    (((d.abandonRegionRedress r).abandonTest r).updRegion r fun g => { g with microcode := false }).clearRegion r) d

/-- A wider reset of the region's die is under way: the die is fenced or its compute side is held in reset (R42). (DEDUCED,
assumption log 38.) -/
def Device.widerReset (d : Device) (n : Nat) : Bool :=
  d.flt.fenced.contains n || (d.die n).dm = .reset || (d.die n).dm = .computeReset

/-- A reset requested inside a wider one is discarded and counted (R42). -/
def Device.discardReset (d : Device) : Device := d.updFlt fun f => { f with discardedResets := f.discardedResets + 1 }

/-- Streams with a region, a tile or a flow endpoint on a die (R342). -/
def Device.streamsOfDie (d : Device) (n : Nat) : List Nat :=
  d.liveStreams.filter fun s =>
    let x := d.stream s
    (x.programs.any fun p => p.region / 6 = n) || (x.tiles.any fun t => ltDie t.1 = n)
      || (x.flows.any fun f => f.src / 6 = n || (f.kind = 0 && f.dest / 6 = n))

/-! ### Taints (R420) -/

/-- A FAIL verdict of an MVM of a stream taints the results that reach the hub from 200 ns after its strobe to the end of
beat k + L_s + 1. (DEDUCED, assumption log 63.) -/
def Device.taint (d : Device) (s strobe : Nat) : Device :=
  d.updStream s fun x =>
    if x.st = .free then x
    else { x with taints := (strobe + 394, beatStartNo x.almanac (beatNo x.almanac strobe + x.lagMax + 2)) :: x.taints }

/-- A result of a stream that reaches the hub at an instant is FAIL when any taint covers it. (DEDUCED, assumption log 63.)
-/
def Stream.tainted (x : Stream) (t : Nat) : Bool := x.taints.any fun w => decide (w.1 ≤ t) && decide (t < w.2)

/-! ### Tests due (R248, R443) -/

/-- Declared length of a test in µs (R440, R441). -/
def testLen (code : Nat) (inParts : Bool) (loopUs : Nat) : Nat :=
  if code = 1 then 30 else if code = 2 then 60 else if code = 3 then (if inParts then 110 else 1700)
  else if code = 4 then loopUs else if code = 5 then 120 else if code = 6 ∨ code = 7 then 400 else 20

/-- A test falls due: posted to the region's queue unless the same code of the unit, and the same part, is pending (R248,
R443). (DEDUCED, assumption log 61.) -/
def Device.postTest (d : Device) (r unit code part len : Nat) : Device :=
  d.updRegion r fun g =>
    if g.tests.any fun t => t.unit = unit && t.code = code && t.part = part then g
    else { g with tests := g.tests ++ [{ unit := unit, code := code, part := part, len := len, dueAt := d.real,
                                         overdue := false }] }

/-- A whole test of a physical tile falls due. -/
def Device.postTileTest (d : Device) (p code : Nat) : Device :=
  d.postTest (ptRegion p) (unitPt p) code 0 (testLen code false (d.tile p).sight.loopPeriod)

/-- A physical tile is faulty (R429): fenced in every grade. -/
def Device.faultyTile (d : Device) (p event detail : Nat) : Device := d.fenceTile p event detail

/-- The accumulators of a tile restart (R419). -/
def Check.restart (k : Check) : Check := { k with c0p := 0, c0m := 0, c1p := 0, c1m := 0 }

/-! ### Epochs of the model manager (R378, R387, R395, R436) -/

/-- Change an area of a model slot. -/
def ModelSlot.setArea (m : ModelSlot) (a : Nat) (f : Area → Area) : ModelSlot :=
  if a = 0 then { m with area0 := f m.area0 } else { m with area1 := f m.area1 }

/-- Area `a` of a model slot, and a change of it. -/
def Device.area (d : Device) (n a : Nat) : Area := if a = 0 then (d.modelSlot n).area0 else (d.modelSlot n).area1
def Device.updArea (d : Device) (n a : Nat) (f : Area → Area) : Device := d.updModelSlot n fun m => m.setArea a f

/-- The logical tile that a tile record names, read through the model's relocations (R436). -/
def ModelSlot.place (m : ModelSlot) (lt : Nat) : Nat :=
  match m.reloc.find? fun e => e.1 = ltRegion lt with
  | some e => 128 * e.2 + lt % 128
  | none => lt

/-- The logical tile on which a record of an epoch is dressed (R394). -/
def Area.dressedOn (a : Area) (i : Nat) : Nat := ((a.partner.find? fun e => e.1 = i).map fun e => e.2).getD 0

/-- A notice about a model load goes to every Owner and Operator session and to port B (R392, R404). (DEDUCED, assumption
log 79.) -/
def Device.modelNotice (d : Device) (model version status index : Nat) (shards : List Nat) : Device :=
  forEach (d.noticeSessions ++ [8]) (fun s d => d.emit (.modelNotice s model version status index shards)) d

/-- An epoch moves to FAILED (R392, R395): the notice names every shard not verified. -/
def Device.failEpoch (d : Device) (n a status index : Nat) : Device :=
  let x := d.area n a
  let missing := (List.range x.shards.length).filter fun i => match (x.shards[i]? : Option Shard) with
    | some h => !h.verified
    | none => false
  let d := d.updArea n a fun x =>
    { x with st := .failed, failStatus := status, failIndex := index,
             shards := x.shards.map fun (h : Shard) => { h with requested := false } }
  let d := { d with mm := { d.mm with loadFailF := true } }.glb 6
  d.modelNotice (d.modelSlot n).model x.version status index missing

/-- A tile record of an epoch is dressed and has completed its first sighting loop, or was found dressed (R395,
R396). -/
def Device.recordStaged (d : Device) (m : ModelSlot) (a : Area) (i : Nat) : Bool :=
  a.dressed.contains i && match d.physOf (a.dressedOn i) with
    | none => false
    | some p =>
      let t := d.tile p
      t.dress.dressed && decide (t.logModel = m.model) && decide (t.logVersion = a.version) &&
        (a.matched || decide (1 ≤ t.sight.loops))

/-- Epochs whose tiles are all ready are STAGED (R395). -/
def Device.stageEpochs (d : Device) : Device :=
  let upd (m : ModelSlot) (a : Area) : Area :=
    let n := match a.manifest with | some x => x.tiles.length | none => 0
    if a.st = .staging ∧ ((List.range n).all fun i => d.recordStaged m a i) then { a with st := .staged } else a
  let slots := tmap d.mm.slots fun _ m => { m with area0 := upd m m.area0, area1 := upd m m.area1 }
  { d with mm := { d.mm with slots := slots } }

/-- The failed dressing of a physical tile moves the epoch it was dressed for to FAILED, naming the tile record
(R395). -/
def Device.failDressing (d : Device) (p : Nat) : Device :=
  let lt := (d.tile p).dress.logical
  if d.logicalOf p ≠ some lt then d
  else forEach (List.range 16) (fun n d => forEach [0, 1] (fun a d =>
    let x := d.area n a
    if x.st = .receiving ∨ x.st = .staging then
      match x.partner.find? fun e => e.2 = lt && x.dressed.contains e.1 with
      | some e => (d.failEpoch n a stInternal e.1).updArea n a fun x => { x with dressed := x.dressed.filter fun i => i < e.1 }
      | none => d
    else d) d) d

/-- LATE_TRAP (R256): a cause found while an instruction ran, after issue. -/
def execLateTrap (r code slotClass info faultPc : Nat) (s : State) : Host.Outcome State Fault Refusal :=
  .next (s.upd fun d => d.lateTrap r
    { code := code, slotClass := slotClass, late := true, swCode := 0, info := info, faultPc := faultPc })

/-- Execution cycles since the last yield point, those of the bundle that is waited for included (R252). -/
def Device.gapNow (d : Device) (r : Nat) : Nat :=
  let g := d.region r
  g.sinceYield + if g.regs.st = .running ∧ g.wait = none then d.nowCycle - g.cyc else 0

/-- YIELD_GAP (R252, R428): more than 1,250,000 cycles have run since the last yield point. A gap is reported once. -/
def Device.yieldGap (d : Device) (r : Nat) : Device :=
  if (d.region r).active ∧ ¬ (d.region r).gapSeen ∧ 1250000 < d.gapNow r then
    let d := d.updRegion r fun g =>
      { g with gapSeen := true, regs := { g.regs with yieldGapF := true, yieldGapCount := satInc g.regs.yieldGapCount } }
    d.suspectRegion r 0x14 0
  else d

/-- YIELD_GAP (R252, R428). -/
def execYieldGap (r : Nat) (s : State) : Host.Outcome State Fault Refusal := .next (s.upd fun d => d.yieldGap r)

end Sys2Proof.Machine
end

