-- ==== Sys2Proof/WellFormed.lean ====
section
/-! DEFINITION. Which operands the encodings admit: the fields of the slot instructions (R268, R271, R280, R296, R307)
and the ranges of the other commands' operands. -/
namespace Sys2Proof

open Machine

/-- A signed immediate of `w` bits. -/
def fitsS (w : Nat) (v : Int) : Bool := decide (-(2 ^ (w - 1) : Int) ≤ v) && decide (v < 2 ^ (w - 1))

/-- Every field of a slot instruction holds a value its entry defines. -/
def Machine.SlotOp.legal : SlotOp → Bool
  | .nop => true
  | .br t => t < 16384
  | .brc rs cond off => rs < 32 && cond < 6 && fitsS 6 off
  | .call t => t < 16384
  | .ret => true
  | .loopI n => 1 ≤ n && n < 16384
  | .loopR rs => rs < 32
  | .loopE => true
  | .waitM rs => rs < 32
  | .waitB => true
  | .yieldTest o => 1 ≤ o && o ≤ 1000
  | .seal => true
  | .halt => true
  | .trap c => c < 256
  | .alu _ rd rs => rd < 32 && rs < 32
  | .addi rd i => rd < 32 && fitsS 9 i
  | .movi rd i => rd < 32 && fitsS 9 i
  | .shli rd sh => rd < 32 && sh < 64
  | .shri rd sh => rd < 32 && sh < 64
  | .sari rd sh => rd < 32 && sh < 64
  | .cmp _ pd rs rt => pd < 8 && rs < 32 && rt < 32
  | .limm sd h sx imm => sd < 32 && !(h && sx) && imm < 2 ^ 32
  | .movS sd ss => sd < 32 && ss < 32
  | .movSA ad ss => ad < 16 && ss < 32
  | .movAS sd as_ => sd < 32 && as_ < 16
  | .movAI ad i => ad < 16 && fitsS 22 i
  | .movAA ad ss => ad < 16 && ss < 32
  | .movTA tn as_ => tn < 64 && as_ < 16
  | .movTS tn fld ss => tn < 64 && fld < 10 && ss < 32
  | .movST sd tn fld => sd < 32 && tn < 64 && fld < 10
  | .movPS ss => ss < 32
  | .movSP sd => sd < 32
  | .movQS qn _ ss => qn < 16 && ss < 32
  | .movSQ sd qn _ => sd < 32 && qn < 16
  | .movL sd as_ off => sd < 32 && as_ < 16 && fitsS 17 off
  | .movW ss as_ off => ss < 32 && as_ < 16 && fitsS 17 off
  | .movSM sd _ => sd < 32
  | .xferD td ts => td < 64 && ts < 64
  | .xferB ad as_ sl => ad < 16 && as_ < 16 && sl < 32
  | .ctxGet sk ad => sk < 32 && ad < 16
  | .ctxPut sk as_ _ => sk < 32 && as_ < 16
  | .send ts ch => ts < 64 && ch < 64
  | .egress ts sm => ts < 64 && sm < 32
  | .tileMvm rc ts td pm => rc < 32 && ts < 64 && td < 64 && pm < 8
  | .tileLoad rc ts rm => rc < 32 && ts < 64 && rm < 32
  | .tileRead rc td pm => rc < 32 && td < 64 && pm < 8
  | .tileChk rc pd sd => rc < 32 && pd < 8 && sd < 32
  | .tileSight rc => rc < 32
  | .vmm ta tb td => ta < 64 && tb < 64 && td < 64
  | .vmmE ta tb td rc => ta < 64 && tb < 64 && td < 64 && rc < 16
  | .vadd ta tb td _ _ => ta < 64 && tb < 64 && td < 64
  | .vmul ta tb td _ => ta < 64 && tb < 64 && td < 64
  | .vact ts td tbl fn rs => ts < 64 && td < 64 && tbl < 8 && fn < 4 && rs < 32
  | .vsmax ts td => ts < 64 && td < 64
  | .vnormL ts td tg re => ts < 64 && td < 64 && tg < 64 && re < 16
  | .vnormR ts td tg re => ts < 64 && td < 64 && tg < 64 && re < 16
  | .vadapt tw tg tm _ rh => tw < 64 && tg < 64 && tm < 64 && rh < 8
  | .qscan ts td => ts < 64 && td < 64
  | .qconv ts td pm => ts < 64 && td < 64 && pm < 8
  | .dq ts td rc => ts < 64 && td < 64 && rc < 16

/-- A slot's guard names a predicate of the bank; a NOP uses no bit, guard bits included (R268). -/
def Machine.Slot.legal (s : Slot) : Bool :=
  s.g.gp < 8 && s.op.legal && (s.op ≠ .nop || s.g = { gp := 0, gn := false })

/-- Every operand of a command names a thing the SX8 has, or a value its field holds: the registers, units, sessions and
streams of the largest grade (R24, R30, R113, R314), and the fields of a slot instruction. -/
def Instr.wf (i : Instr) : Bool :=
  match i with
  | .packageReset _ _ => true
  | .hubWatchdogExpiry _ => true
  | .dieEnumeration _ _ _ => true
  | .linkQualification link _ => decide (link < 16)
  | .microcodeBroadcast _ => true
  | .hbmTraining _ _ => true
  | .lockWaitExpiry => true
  | .startupSightingScan _ => true
  | .ready _ => true
  | .regionReset r => decide (r < 48)
  | .regionResetForcedStop r => decide (r < 48)
  | .tileCtrlReset who pt => decide (who < 9) && decide (pt < 6912)
  | .forwardedClockLoss die => decide (die < 8)
  | .railFault => true
  | .refclkLoss => true
  | .thermalTrip diode => decide (diode < 18)
  | .hubHaltAfterTrip => true
  | .vppPcmDrop => true
  | .vppPcmRecover => true
  | .meridianLoRead who => decide (who < 9)
  | .frameOffsetHiWrite who value => decide (who < 9) && decide (value < 2 ^ 32)
  | .frameOffsetStep => true
  | .tbCtrlModeWrite who value => decide (who < 9) && decide (value < 2 ^ 32)
  | .refPrioWrite who value => decide (who < 9) && decide (value < 2 ^ 32)
  | .ptpSyncExchange quad _ _ => decide (quad < 4)
  | .ptpAnnounce quad _ => decide (quad < 4)
  | .announceReceiptTimeout quad => decide (quad < 4)
  | .syncExchangeTimeout quad => decide (quad < 4)
  | .ppsEdge _ _ => true
  | .ppsEdgeMissing => true
  | .holdoverExpiry => true
  | .replicaTimestamp die _ => decide (die < 8)
  | .applyStrobe pt _ => decide (pt < 6912)
  | .mvmOutputComplete pt _ _ badTrims => decide (pt < 6912) && badTrims.all fun s => decide (s < 528)
  | .checkVerdict pt _ => decide (pt < 6912)
  | .rowTrip pt rows => decide (pt < 6912) && rows.all fun o => decide (o.row < 516)
  | .toneCtrlStart who pt => decide (who < 9) && decide (pt < 6912)
  | .toneCtrlStop who pt => decide (who < 9) && decide (pt < 6912)
  | .toneStrobe pt _ => decide (pt < 6912)
  | .toneRunEnd pt => decide (pt < 6912)
  | .histSelClear who pt => decide (who < 9) && decide (pt < 6912)
  | .dressingStart pt => decide (pt < 6912)
  | .dressRow pt reads => decide (pt < 6912) && reads.all fun e => decide (e.1 < 528)
  | .dressingComplete pt => decide (pt < 6912)
  | .dressAllowWrite who r value => decide (who < 9) && decide (r < 48) && decide (value < 2 ^ 32)
  | .sightTimerTrigger pt => decide (pt < 6912)
  | .sightApplyTrigger pt => decide (pt < 6912)
  | .sightingInterval pt => decide (pt < 6912)
  | .sightingRead pt _ => decide (pt < 6912)
  | .sightCtrlWrite who pt value => decide (who < 9) && decide (pt < 6912) && decide (value < 2 ^ 32)
  | .sightPeriodWrite who pt value => decide (who < 9) && decide (pt < 6912) && decide (value < 2 ^ 32)
  | .sightDelayWrite who pt value => decide (who < 9) && decide (pt < 6912) && decide (value < 2 ^ 32)
  | .trimEntryLowWrite who die index value => decide (who < 9) && decide (die < 8) && decide (index < 456192) && decide (value < 2 ^ 32)
  | .trimEntryHighWrite who die index value => decide (who < 9) && decide (die < 8) && decide (index < 456192) && decide (value < 2 ^ 32)
  | .kappaWrite who pt value => decide (who < 9) && decide (pt < 6912) && decide (value < 2 ^ 32)
  | .redressStart lt => decide (lt < 6144)
  | .tileMapSwitch lt => decide (lt < 6144)
  | .activationStart r slot entry _ => decide (r < 48) && decide (slot < 16) && decide (entry < 16384)
  | .escBalRefill stream => decide (stream < 256)
  | .stallOverrun r => decide (r < 48)
  | .lateTrap r code _ _ _ => decide (r < 48) && decide (code < 256)
  | .trapTimeoutExpiry r => decide (r < 48)
  | .seqCtrlHalt who r => decide (who < 9) && decide (r < 48)
  | .seqCtrlResume who r => decide (who < 9) && decide (r < 48)
  | .seqCtrlAbort who r => decide (who < 9) && decide (r < 48)
  | .seqCtrlQuarantine who r => decide (who < 9) && decide (r < 48)
  | .seqCtrlRelease who r => decide (who < 9) && decide (r < 48)
  | .yieldGap r => decide (r < 48)
  | .testDue _ code _ => decide (code < 9)
  | .testStart r _ => decide (r < 48)
  | .testEnd r _ _ => decide (r < 48)
  | .yieldOfferExpiry r => decide (r < 48)
  | .testOverdue r _ => decide (r < 48)
  | .remoteWriteArrival r _ _ => decide (r < 48)
  | .transferComplete r _ x => decide (r < 48) && x.ecc.within [.region, .hbm] && (x.ecc.bad || x.bad.isEmpty)
  | .nop r g _ _ ecc => decide (r < 48) && decide (g.gp < 8) && SlotOp.legal .nop && ecc.within [.region]
  | .br r g _ target => decide (r < 48) && decide (g.gp < 8) && SlotOp.legal (.br target)
  | .brc r g _ rs cond off => decide (r < 48) && decide (g.gp < 8) && SlotOp.legal (.brc rs cond off)
  | .call r g _ target => decide (r < 48) && decide (g.gp < 8) && SlotOp.legal (.call target)
  | .ret r g _ => decide (r < 48) && decide (g.gp < 8) && SlotOp.legal .ret
  | .loopI r g _ count => decide (r < 48) && decide (g.gp < 8) && SlotOp.legal (.loopI count)
  | .loopR r g _ rs => decide (r < 48) && decide (g.gp < 8) && SlotOp.legal (.loopR rs)
  | .loopE r g _ => decide (r < 48) && decide (g.gp < 8) && SlotOp.legal .loopE
  | .waitm r g _ rs => decide (r < 48) && decide (g.gp < 8) && SlotOp.legal (.waitM rs)
  | .waitmRelease r => decide (r < 48)
  | .waitb r g _ => decide (r < 48) && decide (g.gp < 8) && SlotOp.legal .waitB
  | .waitbRelease r => decide (r < 48)
  | .yieldTest r g _ offer => decide (r < 48) && decide (g.gp < 8) && SlotOp.legal (.yieldTest offer)
  | .seal r g _ => decide (r < 48) && decide (g.gp < 8) && SlotOp.legal .seal
  | .halt r g _ => decide (r < 48) && decide (g.gp < 8) && SlotOp.legal .halt
  | .trap r g _ code => decide (r < 48) && decide (g.gp < 8) && SlotOp.legal (.trap code)
  | .aluAdd r g _ rd rs => decide (r < 48) && decide (g.gp < 8) && SlotOp.legal (.alu .add rd rs)
  | .aluSub r g _ rd rs => decide (r < 48) && decide (g.gp < 8) && SlotOp.legal (.alu .sub rd rs)
  | .aluAnd r g _ rd rs => decide (r < 48) && decide (g.gp < 8) && SlotOp.legal (.alu .and rd rs)
  | .aluOr r g _ rd rs => decide (r < 48) && decide (g.gp < 8) && SlotOp.legal (.alu .or rd rs)
  | .aluXor r g _ rd rs => decide (r < 48) && decide (g.gp < 8) && SlotOp.legal (.alu .xor rd rs)
  | .aluShl r g _ rd rs => decide (r < 48) && decide (g.gp < 8) && SlotOp.legal (.alu .shl rd rs)
  | .aluShr r g _ rd rs => decide (r < 48) && decide (g.gp < 8) && SlotOp.legal (.alu .shr rd rs)
  | .aluSar r g _ rd rs => decide (r < 48) && decide (g.gp < 8) && SlotOp.legal (.alu .sar rd rs)
  | .aluMul r g _ rd rs => decide (r < 48) && decide (g.gp < 8) && SlotOp.legal (.alu .mul rd rs)
  | .aluMin r g _ rd rs => decide (r < 48) && decide (g.gp < 8) && SlotOp.legal (.alu .min rd rs)
  | .aluMax r g _ rd rs => decide (r < 48) && decide (g.gp < 8) && SlotOp.legal (.alu .max rd rs)
  | .aluMinu r g _ rd rs => decide (r < 48) && decide (g.gp < 8) && SlotOp.legal (.alu .minu rd rs)
  | .aluMaxu r g _ rd rs => decide (r < 48) && decide (g.gp < 8) && SlotOp.legal (.alu .maxu rd rs)
  | .aluMeradd r g _ rd rs => decide (r < 48) && decide (g.gp < 8) && SlotOp.legal (.alu .meradd rd rs)
  | .aluFadd r g _ rd rs => decide (r < 48) && decide (g.gp < 8) && SlotOp.legal (.alu .fadd rd rs)
  | .aluFmul r g _ rd rs => decide (r < 48) && decide (g.gp < 8) && SlotOp.legal (.alu .fmul rd rs)
  | .addi r g _ rd imm => decide (r < 48) && decide (g.gp < 8) && SlotOp.legal (.addi rd imm)
  | .movi r g _ rd imm => decide (r < 48) && decide (g.gp < 8) && SlotOp.legal (.movi rd imm)
  | .shli r g _ rd sh => decide (r < 48) && decide (g.gp < 8) && SlotOp.legal (.shli rd sh)
  | .shri r g _ rd sh => decide (r < 48) && decide (g.gp < 8) && SlotOp.legal (.shri rd sh)
  | .sari r g _ rd sh => decide (r < 48) && decide (g.gp < 8) && SlotOp.legal (.sari rd sh)
  | .cmpEq r g _ pd rs rt => decide (r < 48) && decide (g.gp < 8) && SlotOp.legal (.cmp .eq pd rs rt)
  | .cmpNe r g _ pd rs rt => decide (r < 48) && decide (g.gp < 8) && SlotOp.legal (.cmp .ne pd rs rt)
  | .cmpLt r g _ pd rs rt => decide (r < 48) && decide (g.gp < 8) && SlotOp.legal (.cmp .lt pd rs rt)
  | .cmpLe r g _ pd rs rt => decide (r < 48) && decide (g.gp < 8) && SlotOp.legal (.cmp .le pd rs rt)
  | .cmpLtu r g _ pd rs rt => decide (r < 48) && decide (g.gp < 8) && SlotOp.legal (.cmp .ltu pd rs rt)
  | .cmpLeu r g _ pd rs rt => decide (r < 48) && decide (g.gp < 8) && SlotOp.legal (.cmp .leu pd rs rt)
  | .limm r _ sd h sx imm => decide (r < 48) && SlotOp.legal (.limm sd h sx imm)
  | .movS r g _ sd ss => decide (r < 48) && decide (g.gp < 8) && SlotOp.legal (.movS sd ss)
  | .movSa r g _ ad ss => decide (r < 48) && decide (g.gp < 8) && SlotOp.legal (.movSA ad ss)
  | .movAs r g _ sd as_ => decide (r < 48) && decide (g.gp < 8) && SlotOp.legal (.movAS sd as_)
  | .movAi r g _ ad imm => decide (r < 48) && decide (g.gp < 8) && SlotOp.legal (.movAI ad imm)
  | .movAa r g _ ad ss => decide (r < 48) && decide (g.gp < 8) && SlotOp.legal (.movAA ad ss)
  | .movTa r g _ tn as_ => decide (r < 48) && decide (g.gp < 8) && SlotOp.legal (.movTA tn as_)
  | .movTs r g _ tn fld ss => decide (r < 48) && decide (g.gp < 8) && SlotOp.legal (.movTS tn fld ss)
  | .movSt r g _ sd tn fld => decide (r < 48) && decide (g.gp < 8) && SlotOp.legal (.movST sd tn fld)
  | .movPs r g _ ss => decide (r < 48) && decide (g.gp < 8) && SlotOp.legal (.movPS ss)
  | .movSp r g _ sd => decide (r < 48) && decide (g.gp < 8) && SlotOp.legal (.movSP sd)
  | .movQs r g _ qn h ss => decide (r < 48) && decide (g.gp < 8) && SlotOp.legal (.movQS qn h ss)
  | .movSq r g _ sd qn h => decide (r < 48) && decide (g.gp < 8) && SlotOp.legal (.movSQ sd qn h)
  | .movL r g _ sd as_ off ecc => decide (r < 48) && decide (g.gp < 8) && SlotOp.legal (.movL sd as_ off) && ecc.within [.region]
  | .movW r g _ ss as_ off => decide (r < 48) && decide (g.gp < 8) && SlotOp.legal (.movW ss as_ off)
  | .movSm r g _ sd beat => decide (r < 48) && decide (g.gp < 8) && SlotOp.legal (.movSM sd beat)
  | .xferD r g _ td ts => decide (r < 48) && decide (g.gp < 8) && SlotOp.legal (.xferD td ts)
  | .xferB r g _ ad as_ sl => decide (r < 48) && decide (g.gp < 8) && SlotOp.legal (.xferB ad as_ sl)
  | .ctxGet r g _ sk ad => decide (r < 48) && decide (g.gp < 8) && SlotOp.legal (.ctxGet sk ad)
  | .ctxPut r g _ sk as_ del ecc => decide (r < 48) && decide (g.gp < 8) && SlotOp.legal (.ctxPut sk as_ del) && ecc.within [.region]
  | .send r g _ ts ch ecc => decide (r < 48) && decide (g.gp < 8) && SlotOp.legal (.send ts ch) && ecc.within [.region]
  | .egress r g _ ts sm ecc => decide (r < 48) && decide (g.gp < 8) && SlotOp.legal (.egress ts sm) && ecc.within [.region]
  | .tileMvm r g _ rc ts td pm ecc => decide (r < 48) && decide (g.gp < 8) && SlotOp.legal (.tileMvm rc ts td pm) && ecc.within [.region]
  | .tileLoad r g _ rc ts rm ecc => decide (r < 48) && decide (g.gp < 8) && SlotOp.legal (.tileLoad rc ts rm) && ecc.within [.region]
  | .tileRead r g _ rc td pm => decide (r < 48) && decide (g.gp < 8) && SlotOp.legal (.tileRead rc td pm)
  | .tileChk r g _ rc pd sd => decide (r < 48) && decide (g.gp < 8) && SlotOp.legal (.tileChk rc pd sd)
  | .tileSight r g _ rc => decide (r < 48) && decide (g.gp < 8) && SlotOp.legal (.tileSight rc)
  | .vmm r g _ ta tb td ecc => decide (r < 48) && decide (g.gp < 8) && SlotOp.legal (.vmm ta tb td) && ecc.within [.region, .fast]
  | .vmmE r g _ ta tb td rc ecc => decide (r < 48) && decide (g.gp < 8) && SlotOp.legal (.vmmE ta tb td rc) && ecc.within [.region, .hbm]
  | .vadd r g _ ta tb td bc sub ecc => decide (r < 48) && decide (g.gp < 8) && SlotOp.legal (.vadd ta tb td bc sub) && ecc.within [.region]
  | .vmul r g _ ta tb td bc ecc => decide (r < 48) && decide (g.gp < 8) && SlotOp.legal (.vmul ta tb td bc) && ecc.within [.region]
  | .vact r g _ ts td tbl fn rs ecc => decide (r < 48) && decide (g.gp < 8) && SlotOp.legal (.vact ts td tbl fn rs) && ecc.within [.region]
  | .vsmax r g _ ts td ecc => decide (r < 48) && decide (g.gp < 8) && SlotOp.legal (.vsmax ts td) && ecc.within [.region]
  | .vnormL r g _ ts td tg re ecc => decide (r < 48) && decide (g.gp < 8) && SlotOp.legal (.vnormL ts td tg re) && ecc.within [.region]
  | .vnormR r g _ ts td tg re ecc => decide (r < 48) && decide (g.gp < 8) && SlotOp.legal (.vnormR ts td tg re) && ecc.within [.region]
  | .vadapt r g _ tw tg tm adaptive rh ecc => decide (r < 48) && decide (g.gp < 8) && SlotOp.legal (.vadapt tw tg tm adaptive rh) && ecc.within [.region, .fast]
  | .qscan r g _ ts td ecc => decide (r < 48) && decide (g.gp < 8) && SlotOp.legal (.qscan ts td) && ecc.within [.region]
  | .qconv r g _ ts td pm ecc => decide (r < 48) && decide (g.gp < 8) && SlotOp.legal (.qconv ts td pm) && ecc.within [.region]
  | .dq r g _ ts td rc ecc => decide (r < 48) && decide (g.gp < 8) && SlotOp.legal (.dq ts td rc) && ecc.within [.region]
  | .statTagWrite who r slot value => decide (who < 9) && decide (r < 48) && decide (slot < 64) && decide (value < 2 ^ 32)
  | .statLoRead who r slot pair => decide (who < 9) && decide (r < 48) && decide (slot < 64) && decide (pair < 3)
  | .busyCyclesLoRead who r => decide (who < 9) && decide (r < 48)
  | .trapMerLoRead who r => decide (who < 9) && decide (r < 48)
  | .reportSeqLoRead who => decide (who < 9)
  | .egressGroupTimeout r stream => decide (r < 48) && decide (stream < 256)
  | .egressDataArrival r => decide (r < 48)
  | .resultVerdict stream _ => decide (stream < 256)
  | .egressInstant stream _ _ => decide (stream < 256)
  | .sealFrame stream _ => decide (stream < 256)
  | .claimEvaluation => true
  | .almanacBankExchange => true
  | .streamFree stream => decide (stream < 256)
  | .pkgLimitWrite who value => decide (who < 9) && decide (value < 2 ^ 32)
  | .regionDarkWrite who r word value => decide (who < 9) && decide (r < 48) && decide (word < 2) && decide (value < 2 ^ 32)
  | .darkSlotStart _ => true
  | .darkSlotEnd _ => true
  | .fabricSlotBoundary r => decide (r < 48)
  | .noticeResend session => decide (session < 8)
  | .linkFrameReceive link far _ _ => decide (link < 16) && decide (far < 2)
  | .retrainComplete link _ => decide (link < 16)
  | .linkCtrlRetrain who link far => decide (who < 9) && decide (link < 16) && decide (far < 2)
  | .linkCtrlUnfence who link far => decide (who < 9) && decide (link < 16) && decide (far < 2)
  | .bePacketTimeout _ _ => true
  | .routerCtrlReset who r => decide (who < 9) && decide (r < 48)
  | .routerSlotMove r _ => decide (r < 48)
  | .routerDrainEnd r _ => decide (r < 48)
  | .routerLinksTrained r => decide (r < 48)
  | .routerRejoin r => decide (r < 48)
  | .shardComplete slot area shard _ => decide (slot < 16) && decide (area < 2) && decide (shard < 2 ^ 10)
  | .shardTimeoutExpiry slot area shard => decide (slot < 16) && decide (area < 2) && decide (shard < 2 ^ 10)
  | .idleLimitExpiry slot area => decide (slot < 16) && decide (area < 2)
  | .shardReqFrame port _ _ _ shard _ => decide (port < 16) && decide (shard < 2 ^ 10)
  | .shardDataFrame port _ _ _ shard _ _ _ => decide (port < 16) && decide (shard < 2 ^ 10)
  | .epochTileDress slot area _ => decide (slot < 16) && decide (area < 2)
  | .switchInstant slot r => decide (slot < 16) && decide (r < 48)
  | .shardRehash slot area shard _ => decide (slot < 16) && decide (area < 2) && decide (shard < 2 ^ 10)
  | .tileAudit pt _ => decide (pt < 6912)
  | .fenceCtrlFence who die => decide (who < 9) && decide (die < 8)
  | .fenceCtrlUnfence who die _ _ _ _ => decide (who < 9) && decide (die < 8)
  | .dmWatchdogMiss die => decide (die < 8)
  | .regionReplacement stream _ _ => decide (stream < 256)
  | .remapLimitExpiry stream => decide (stream < 256)
  | .faultMergeWindowEnd pt => decide (pt < 6912)
  | .hello m => decide (m.port < 2) && decide (m.sessionId ≠ 0)
  | .finish port _ _ _ _ => decide (port < 2)
  | .dataDatagram port _ _ record seq _ _ _ _ => decide (port < 2) && decide (record < 2 ^ 48) && decide (seq < 2 ^ 32)
  | .heldRequestExecute session => decide (session < 8)
  | .handshakeTimeout _ => true
  | .bcpIdleExpiry session => decide (session < 8)
  | .conversationHoldExpiry kind _ => decide (kind < 3)
  | .ping session => decide (session < 8)
  | .close session => decide (session < 8)
  | .sessionInfo session => decide (session < 8)
  | .regRead session addr _ => decide (session < 9) && decide (addr < 2 ^ 32)
  | .regWrite session addr value env =>
    decide (session < 9) && decide (addr < 2 ^ 32) && decide (value < 2 ^ 32) && decide (env.races < 2 ^ 32)
  | .timeOfDay session _ => decide (session < 8)
  | .timeStep session => decide (session < 8)
  | .admitOpen session stream tag _ => decide (session < 8) && decide (stream < 256) && decide (tag < 2 ^ 64)
  | .admitBlock session stream tag _ _ _ => decide (session < 8) && decide (stream < 256) && decide (tag < 2 ^ 64)
  | .admitCommit session stream tag _ => decide (session < 8) && decide (stream < 256) && decide (tag < 2 ^ 64)
  | .admitStatus session stream => decide (session < 8) && decide (stream < 256)
  | .release session stream tag => decide (session < 8) && decide (stream < 256) && decide (tag < 2 ^ 64)
  | .modelOpen session _ _ _ _ _ => decide (session < 8)
  | .modelBlock session _ _ _ _ _ _ => decide (session < 8)
  | .modelManifest session _ _ => decide (session < 8)
  | .modelStatus session _ _ => decide (session < 8)
  | .modelResume session _ _ => decide (session < 8)
  | .modelDiscard session _ _ => decide (session < 8)
  | .switch session _ => decide (session < 8)
  | .adapterRestore session _ _ => decide (session < 8)
  | .redress session _ => decide (session < 8)
  | .fwOpen session _ _ => decide (session < 8)
  | .fwBlock session _ _ _ _ _ _ => decide (session < 8)
  | .fwStatus session _ _ => decide (session < 8)
  | .activate session _ _ _ => decide (session < 8)
  | .attest session _ _ => decide (session < 8)
  | .anchorSet session _ _ => decide (session < 8)
  | .keySet session _ => decide (session < 8)
  | .debugUnlock session _ => decide (session < 8)
  | .test session _ _ => decide (session < 8)
  | .restart session _ => decide (session < 8)
  | .noticeAck session _ => decide (session < 8)
  | .noticeFetch session _ _ => decide (session < 8)
  | .faultFetch session _ _ => decide (session < 8)
  | .flashWriteComplete _ => true
  | .activationRestart _ => true
  | .trngHealthFail => true
  | .trngRetest _ => true
  | .portTrainingComplete port _ _ _ => decide (port < 16)
  | .portRetryTimer => true
  | .portLinkLoss port => decide (port < 16)
  | .quadCfgWrite who value => decide (who < 9) && decide (value < 2 ^ 32)
  | .uplaneFrame port _ _ _ frameId subframe slot symbol _ _ _ => decide (port < 16) && decide (frameId < 256) && decide (subframe < 10) && decide (slot < 64) && decide (symbol < 14)
  | .tensorFrame port _ _ _ _ _ _ _ _ _ _ => decide (port < 16)
  | .fabricFrame port _ _ _ _ _ _ => decide (port < 16)
  | .quarHoldExpiry partner => decide (partner < 64)
  | .pCtrlRelease who partner => decide (who < 9) && decide (partner < 64)
  | .batchCutoff stream => decide (stream < 256)
  | .mkaFrame port _ _ _ _ _ => decide (port < 16)
  | .mkaLifeExpiry port => decide (port < 16)
  | .pabDatagram port _ _ _ => decide (port < 2)
  | .reportDatagramSend => true
  | .reportHeartbeat => true
  | .thermalSample sensor _ _ => decide (sensor < 40)
  | .pkgPowerUpdate _ => true
  | .setCommit who value _ => decide (who < 9) && decide (value < 2 ^ 32)
  | .drainLimitExpiry => true
  | .dieManagerRestart die => decide (die < 8)
  | .portAbLinkChange port _ => decide (port < 2)
  | .testAccessPortOperation _ => true
  | .migrationComplete => true
  | .testPeriodEnd _ => true
  | .mkaHelloTimer => true

end Sys2Proof
end

