-- ==== Sys2Proof/Machine/FinernC.lean ====
section
/-! DEFINITION. The C slot of Finern (R271 to R279): scalar arithmetic, control transfers, the checks each instruction
makes at issue and what it does once issued. -/
namespace Sys2Proof.Machine

/-- A trap cause with its TRAP_INFO (R258): the low 32 bits of the faulting address for ADDRESS, ALIGNMENT and
PERMISSION, otherwise the place of the operand in the instruction's entry (DEDUCED, assumption log 11). -/
abbrev Cause := Nat × Nat

/-- The causes of a list of checks, in the order of the instruction's entry (R257). -/
def causesOf (l : List (Option Cause)) : List Cause := l.filterMap id

/-- A cause when a condition fails. -/
def must (ok : Bool) (cause info : Nat) : Option Cause := if ok then none else some (cause, info)

/-- A finite FP32 pattern. -/
def finite32 (p : Nat) : Bool := match fp32.decode p with | .num _ => true | _ => false

/-- 64-bit wrap. -/
def w64 (v : Int) : Nat := ux 64 v

/-- Values of R276: the sum, when both are in range. -/
def merSum (m : Nat) (by_ : Int) : Option Nat :=
  if !merOk m then none
  else
    let t : Int := (ofMer m : Int) + by_
    if t < 0 ∨ (2 ^ 39 * tcPerFrame : Nat) ≤ t then none else some (merOf t.toNat)

/-- FP32 arithmetic of the ALU: operands under R203, one rounding (R275). -/
def fp32Op (f : Rat → Rat → Rat) (x y : Nat) : Nat := (fp32.round (f (f32 (x % 2 ^ 32)) (f32 (y % 2 ^ 32)))).1

/-- Operands of an ALU function that R203 replaces: NaNs and infinities of FADD and FMUL (R275). -/
def AluFn.nonfin (fn : AluFn) (x y : Nat) : Nat :=
  match fn with
  | .fadd | .fmul => b2n (!finite32 (x % 2 ^ 32)) + b2n (!finite32 (y % 2 ^ 32))
  | _ => 0

/-- The ALU functions (R275). MERADD is used only when its operands are in range. -/
def AluFn.eval (fn : AluFn) (x y : Nat) : Nat :=
  match fn with
  | .add => (x + y) % 2 ^ 64
  | .sub => w64 ((x : Int) - y)
  | .and => x &&& y
  | .or => x ||| y
  | .xor => x ^^^ y
  | .shl => if 64 ≤ y then 0 else x * 2 ^ y % 2 ^ 64
  | .shr => if 64 ≤ y then 0 else x / 2 ^ y
  | .sar => w64 (sx 64 x / (2 ^ (if y < 64 then y else 64) : Nat))
  | .mul => x * y % 2 ^ 64
  | .min => if sx 64 y < sx 64 x then y else x
  | .max => if sx 64 x < sx 64 y then y else x
  | .minu => if y < x then y else x
  | .maxu => if x < y then y else x
  | .meradd => (merSum x (sx 64 y)).getD x
  | .fadd => fp32Op (· + ·) x y
  | .fmul => fp32Op (· * ·) x y

/-- Latencies of R275. -/
def AluFn.latency : AluFn → Nat
  | .mul => 3 | .meradd => 2 | .fadd => 4 | .fmul => 4
  | _ => 1

/-- The comparisons of CMP (R271). -/
def CmpFn.eval (fn : CmpFn) (x y : Nat) : Bool :=
  match fn with
  | .eq => x = y
  | .ne => x ≠ y
  | .lt => sx 64 x < sx 64 y
  | .le => sx 64 x ≤ sx 64 y
  | .ltu => x < y
  | .leu => x ≤ y

/-- The conditions of BRC (R271). -/
def brcond (cond : Nat) (x : Int) : Bool :=
  if cond = 0 then x = 0 else if cond = 1 then x ≠ 0 else if cond = 2 then x < 0 else if cond = 3 then 0 ≤ x
  else if cond = 4 then 0 < x else x ≤ 0

/-- A register write of an issued instruction, visible a latency later (R241). -/
def Device.write (d : Device) (c : Ctx) (t : RegTarget) (latency v : Nat) : Device :=
  d.updRegion c.r fun g => { g with pend := g.pend ++ [{ cycle := c.cycle + latency, target := t, value := v }] }

/-- Non-finite operands are counted, and flagged (R203). -/
def Device.countNonfin (d : Device) (r n : Nat) : Device :=
  if n = 0 then d
  else d.updRegion r fun g => { g with dmu := { g.dmu with nonfinF := true, nonfinCount := satAdd g.dmu.nonfinCount n } }

/-- The checks of a C-slot instruction at issue, in the order of its entry (R271, R276, R245, R279). -/
def Device.checkC (d : Device) (c : Ctx) (op : SlotOp) : List Cause :=
  let full : Bool := decide (4 ≤ c.bank.loop.length)
  match op with
  | .call _ => causesOf [must (decide (c.bank.ret.length < 16)) trStack 0]
  | .ret =>
    match c.bank.ret with
    | [] => [(trStack, 0)]
    | pc :: _ => causesOf [must (c.ps.inRange pc) trInstrRange 0]
  | .loopI _ => causesOf [must (!full) trStack 0]
  | .loopR rs =>
    causesOf [must (decide (1 ≤ c.s rs) && decide (c.s rs < 2 ^ 32)) trIllegalOperand 0, must (!full) trStack 0]
  | .loopE => causesOf [must (!c.bank.loop.isEmpty) trStack 0]
  | .waitM rs =>
    causesOf [must (merOk (c.s rs)) trIllegalOperand 0,
             must (decide (ofMer (c.s rs) ≤ d.clk.now + 100 * tcPerFrame)) trWaitRange 0]
  | .alu .meradd rd rs => causesOf [must (merSum (c.s rd) (sx 64 (c.s rs))).isSome trIllegalOperand 0]
  | .trap code => [(trSoftware, code)]
  | _ => []

/-- What a C-slot instruction that does not transfer control does to the registers, and LIMM (R269, R271). -/
def Device.scalarC (d : Device) (c : Ctx) (op : SlotOp) : Device :=
  match op with
  | .alu fn rd rs =>
    (d.countNonfin c.r (fn.nonfin (c.s rd) (c.s rs))).write c (.s rd) fn.latency (fn.eval (c.s rd) (c.s rs))
  | .addi rd imm => d.write c (.s rd) 1 (w64 ((c.s rd : Int) + imm))
  | .movi rd imm => d.write c (.s rd) 1 (w64 imm)
  | .shli rd sh => d.write c (.s rd) 1 (c.s rd * 2 ^ sh % 2 ^ 64)
  | .shri rd sh => d.write c (.s rd) 1 (c.s rd / 2 ^ sh)
  | .sari rd sh => d.write c (.s rd) 1 (w64 (sx 64 (c.s rd) / (2 ^ sh : Nat)))
  | .cmp fn pd rs rt => d.write c (.p pd) 1 (b2n (fn.eval (c.s rs) (c.s rt)))
  | .limm sd h sx_ imm =>
    d.write c (.s sd) 1
      (if h then imm % 2 ^ 32 * 2 ^ 32 + c.s sd % 2 ^ 32 else if sx_ then w64 (sx 32 imm) else imm % 2 ^ 32)
  | _ => d

/-- Where control goes after a bundle: the next PC, the loop and return stacks, and the cycles to the next issue. -/
structure Flow where
  pc : Nat
  loop : List (Nat × Nat)
  ret : List Nat
  gap : Nat
  deriving DecidableEq, Repr

/-- The flow of a C-slot instruction whose guard is true (R271 to R274). -/
def Ctx.flow (c : Ctx) (op : SlotOp) : Flow :=
  let b := c.bank
  let on : Flow := { pc := (b.pc + 1) % 2 ^ 14, loop := b.loop, ret := b.ret, gap := 1 }
  match op with
  | .br t => { on with pc := c.ps.base + t, gap := 2 }
  | .brc rs cond off =>
    { on with pc := if brcond cond (sx 64 (c.s rs)) then ux 14 ((b.pc : Int) + off) else on.pc, gap := 2 }
  | .call t => { on with pc := c.ps.base + t, ret := on.pc :: b.ret, gap := 2 }
  | .ret => { on with pc := b.ret.headD 0, ret := b.ret.drop 1, gap := 2 }
  | .loopI n => { on with loop := (n, on.pc) :: b.loop }
  | .loopR rs => { on with loop := (c.s rs % 2 ^ 32, on.pc) :: b.loop }
  | .loopE =>
    match b.loop with
    | [] => on
    | (n, start) :: rest => if 1 < n then { on with pc := start, loop := (n - 1, start) :: rest } else { on with loop := rest }
  | _ => on

/-- The flow of a bundle whose C slot does nothing. -/
def Ctx.fallThrough (c : Ctx) : Flow :=
  { pc := (c.bank.pc + 1) % 2 ^ 14, loop := c.bank.loop, ret := c.bank.ret, gap := 1 }

/-- The flow of a C-slot instruction whose guard is false: every BRC leaves one cycle in which nothing issues (R272). -/
def Ctx.flowOff (c : Ctx) (op : SlotOp) : Flow :=
  match op with
  | .brc _ _ _ => { c.fallThrough with gap := 2 }
  | _ => c.fallThrough

end Sys2Proof.Machine
end

