-- ==== Sys2Proof/Machine/FinernM.lean ====
section
/-! DEFINITION. The M slot of Finern (R280 to R291): register moves, loads and stores of scratch, transfers, contexts,
sends and egress; what each checks at issue and does once issued. -/
namespace Sys2Proof.Machine

/-! ### Descriptor fields (R281) -/

/-- Lowest bit and width of a field code. -/
def fldPlace (fld : Nat) : Nat × Nat :=
  lget (0, 0) [(0, 48), (64, 16), (80, 16), (96, 16), (112, 16), (128, 32), (160, 32), (192, 32), (224, 24), (48, 12)] fld

/-- A value with `w` bits from bit `lo` replaced. -/
def putBits (v lo w x : Nat) : Nat := v % 2 ^ lo + x % 2 ^ w * 2 ^ lo + v / 2 ^ (lo + w) * 2 ^ (lo + w)

/-! ### Ends of transfers (R283, R284) -/

/-- The causes of several checks in an entry's order (R257). -/
def byOrder (order : List Nat) (l : List (Option Cause)) : List Cause :=
  order.flatMap fun k => (causesOf l).filter fun c => c.1 = k

/-- The check of a descriptor as a cause with its information. -/
def Device.descCause (d : Device) (c : Ctx) (x : Desc) (idx : Nat) (write : Bool) (spaces : Nat → Bool) (sref : Bool) :
    Option Cause :=
  (d.descCheck c x write spaces sref).map fun k =>
    (k, if k = trAddress ∨ k = trAlignment ∨ k = trPermission then x.addr % 2 ^ 32 else idx)

/-- The check of a range of bytes as a cause with its address. -/
def Device.spaceCause (d : Device) (c : Ctx) (addr len : Nat) (write : Bool) : Option Cause :=
  (d.spaceCheck c addr len write).map fun k => (k, addr % 2 ^ 32)

/-- Only region scratch. -/
def inScratch (sp : Nat) : Bool := sp = spScratch
/-- Any space that the checks of R232 know. -/
def anySpace (_ : Nat) : Bool := true

/-- The rights of a transfer's ends (R284): a program does not read fast-weight SRAM or table memory, and one end at
most lies outside the local spaces. -/
def endsOk (src dst : Nat) : Bool := src ≠ spFw && src ≠ spAct && (isLocal src || isLocal dst)

/-- Pieces of `unit` bytes that a run of bytes touches. -/
def pieces (unit a n : Nat) : Nat := if n = 0 then 0 else (a + n - 1) / unit - a / unit + 1

/-- The flow of a stream from a region to a destination (R318, R355). -/
def Device.flowOf (d : Device) (stream r kind dest : Nat) : Option FlowPlan :=
  (d.stream stream).flows.find? fun f => f.src = r && f.kind = kind && f.dest = dest

/-- A transfer has a flow to its destination, and the flow's slot holds its flits (R355). -/
def Device.flowFits (d : Device) (stream r kind dest flits : Nat) : Bool :=
  (d.flowOf stream r kind dest).any fun f => decide (flits ≤ f.flits)

def injectKey (stream kind dest : Nat) : Nat := 2 ^ 16 * stream + 2 ^ 12 * kind + dest

/-- The flow's queue holds room for some flits (R355). (DEDUCED, assumption log 12.) -/
def Device.hasCredit (d : Device) (stream r kind dest flits : Nat) : Bool :=
  match d.flowOf stream r kind dest with
  | none => true
  | some f => tget 0 (d.region r).inject (injectKey stream kind dest) + flits ≤ f.flits

/-- Flits enter the flow's queue. (DEDUCED, assumption log 12.) -/
def Device.injectFlits (d : Device) (stream r kind dest flits : Nat) : Device :=
  d.updRegion r fun g => { g with inject := tupd 0 g.inject (injectKey stream kind dest) fun n => n + flits }

/-! ### What a transfer moves -/

/-- One transfer as planned at issue: bytes by destination piece, HBM requests, flits and remote region. -/
structure Move where
  kind : XferKind
  writes : List (Nat × List Byte)
  recs : List (Nat × List Byte) := []
  requests : Nat
  flits : Nat
  bytes : Nat
  remote : Option Nat
  poison : List Nat := []

/-- Flits of a transfer to remote scratch, split at every 64-byte boundary of the destination (R283). -/
def flitsOf (runs : List (Nat × Nat × Nat)) : Nat := (runs.map fun u => pieces 64 (offsetOf u.2.1) u.2.2).sum

/-- Places, among the bytes that runs move, of those that lie in a corrupt shard (R405). -/
def Device.poisonIn (d : Device) (c : Ctx) (runs : List (Nat × Nat × Nat)) : List Nat :=
  (runs.foldl (fun (st : Nat × List Nat) u =>
    (st.1 + u.2.2, st.2 ++ ((List.range u.2.2).filter fun i => d.poisoned (d.hbmPhys c.stream c.r (offsetOf u.1 + i)) 1).map fun i =>
      st.1 + i)) (0, [])).2

/-- Plan the copy of runs of bytes: source address, destination address, length. -/
def Device.plan (d : Device) (c : Ctx) (runs : List (Nat × Nat × Nat)) : Move :=
  let src := match runs with | (a, _, _) :: _ => spaceOf a | [] => spScratch
  let dst := match runs with | (_, b, _) :: _ => spaceOf b | [] => spScratch
  let hbmAt (u : Nat × Nat × Nat) : Nat := if src = spHbm then offsetOf u.1 else offsetOf u.2.1
  { kind := if src = spHbm then .hbmRead else if dst = spHbm then .hbmWrite else if isLocal dst then .localCopy else .remote,
    writes := runs.map fun u => (u.2.1, d.readMem c u.1 u.2.2),
    requests := if src = spHbm ∨ dst = spHbm then (runs.map fun u => pieces 2048 (hbmAt u) u.2.2).sum else 0,
    flits := flitsOf runs,
    bytes := (runs.map fun u => u.2.2).sum,
    remote := d.remoteOf c.stream c.r dst,
    poison := if src = spHbm then d.poisonIn c runs else [] }

/-- The runs of an XFER.D, token by token (R284). -/
def runsD (td ts : Desc) : List (Nat × Nat × Nat) := (List.range ts.count).map fun t => (ts.tok t, td.tok t, ts.len * ts.es)

/-- The move of an XFER.D, records included (R284). -/
def Device.planD (d : Device) (c : Ctx) (td ts : Desc) : Move :=
  let m := d.plan c (runsD td ts)
  if ts.sref = 1 ∧ td.sref = 1 then
    { m with recs := (List.range ts.count).map fun t => (c.recAddr td t, leBytes 8 (d.record c ts t)) }
  else m

/-- The move of an XFER.B. -/
def Device.planB (d : Device) (c : Ctx) (ad as_ n : Nat) : Move := d.plan c [(as_, ad, n)]

/-- Cycles the transfer engine is occupied (R283). -/
def Move.occupancy (m : Move) : Nat :=
  match m.kind with
  | .localCopy => ceilDiv m.bytes 256
  | .remote => m.flits
  | _ => m.requests

/-- HBM requests that the region's transfers hold, in its queue or behind it (R242, R283). -/
def Region.requests (g : Region) : Nat := (g.xfers.map fun x => x.requests).sum

/-- Start a transfer: its bytes are as read now, and it completes later (R235, R283). -/
def Device.startXfer (d : Device) (c : Ctx) (m : Move) (key : Nat) (del : Bool) : Device :=
  let d := d.updRegion c.r fun g =>
    { g with engineFree := c.cycle + m.occupancy, nextXfer := g.nextXfer + 1,
             xfers := g.xfers ++ [{ id := g.nextXfer, kind := m.kind, writes := m.writes, stream := c.stream, key := key,
                                    del := del, doneAt := c.cycle + m.occupancy + 16, pc := c.bank.pc,
                                    requests := m.requests, poison := m.poison, recs := m.recs }] }
  let d := if m.poison = [] then d else d.countPoison
  match m.remote with
  | some r => d.injectFlits c.stream c.r 0 r m.flits
  | none => d

/-! ### Contexts (R286, R287) -/

/-- The 128 bytes of a context, none when the key holds none. -/
def Device.context (d : Device) (stream key : Nat) : Option (List Byte) :=
  (d.hbm.contexts.find? fun e => e.1 = stream && e.2.1 = key).map fun e => e.2.2

/-- Remove a context. -/
def Device.dropContext (d : Device) (stream key : Nat) : Device :=
  { d with hbm := { d.hbm with contexts := d.hbm.contexts.filter fun e => !(e.1 = stream && e.2.1 = key) } }

/-- Store a context; a new key beyond the quota is dropped, counted and reported (R286). -/
def Device.putContext (d : Device) (r stream key : Nat) (bs : List Byte) : Device :=
  let used := (d.hbm.contexts.filter fun e => e.1 = stream).length
  if (d.context stream key).isNone ∧ (d.stream stream).ctxQuota ≤ used then
    (d.mirror r stream fun q => { q with ctxDropCount := satInc q.ctxDropCount }).dropped r 286 stream
  else
    let d := d.dropContext stream key
    { d with hbm := { d.hbm with contexts := d.hbm.contexts ++ [(stream, key, bs)] } }

/-- The area of a context (R286): region scratch, 64-byte aligned, and a stream with a quota. -/
def Device.ctxCause (d : Device) (c : Ctx) (addr : Nat) : List Cause :=
  causesOf [must (decide (addr % 64 = 0)) trAlignment (addr % 2 ^ 32),
           must (decide (spaceOf addr = spScratch) && decide (offsetOf addr + 128 ≤ szScratch)) trAddress (addr % 2 ^ 32),
           must (decide (0 < (d.stream c.stream).ctxQuota)) trPermission (addr % 2 ^ 32)]

/-! ### Checks at issue -/

/-- Address of a MOV.L or MOV.W. -/
def Ctx.movAddr (c : Ctx) (as_ : Nat) (off : Int) : Nat := ux 48 ((c.a as_ : Int) + 8 * off)

/-- The channel of a SEND among the claim's CHANNEL records (R289). (DESIGN CHOICE, assumption log 89.) -/
def Device.channelOf (d : Device) (stream ch : Nat) : Option (Nat × Nat × Nat × Nat) :=
  (d.stream stream).channels.find? fun x => x.1 = ch

/-- The checks of an M-slot instruction at issue, in the order of its entry (R280 to R291). (DEDUCED, assumption log 53.) -/
def Device.checkM (d : Device) (c : Ctx) (op : SlotOp) : List Cause :=
  match op with
  | .movTS _ fld ss => causesOf [must (decide (c.s ss < 2 ^ (fldPlace fld).2)) trIllegalOperand 2]
  | .movL _ as_ off | .movW _ as_ off =>
    let a := c.movAddr as_ off
    causesOf [must (decide (spaceOf a = spScratch) && decide (offsetOf a + 8 ≤ szScratch)) trAddress (a % 2 ^ 32),
             must (decide (a % 8 = 0)) trAlignment (a % 2 ^ 32)]
  | .xferD td ts =>
    let x := c.desc ts
    let y := c.desc td
    let bytes := x.count * x.len * x.es
    let remote := d.remoteOf c.stream c.r (spaceOf y.addr)
    let recs := x.sref = 1 ∧ y.sref = 1
    byOrder [trDescriptor, trAlignment, trAddress, trPermission, trIllegalOperand, trQset]
      [d.descCause c x 1 false anySpace false, d.descCause c y 0 true anySpace false,
       must (endsOk (spaceOf x.addr) (spaceOf y.addr)) trPermission (y.addr % 2 ^ 32),
       must (decide (x.fmt = y.fmt) && decide (x.dim = y.dim)) trIllegalOperand 0,
       must (!remote.isSome || decide (bytes ≤ 4096)) trIllegalOperand 1,
       must (match remote with | some r => d.flowFits c.stream c.r 0 r (flitsOf (runsD y x)) | none => true) trIllegalOperand 0,
       must (!decide recs || (c.setOk x && c.setOk y && d.recordsOk c x (List.range x.count))) trQset 1]
  | .xferB ad as_ sl =>
    let a := c.a as_
    let b := c.a ad
    let n := c.s sl
    let al := if spaceOf a = spFw ∨ spaceOf b = spFw then 64 else 8
    let remote := d.remoteOf c.stream c.r (spaceOf b)
    byOrder [trIllegalOperand, trAlignment, trAddress, trPermission]
      [must (decide (1 ≤ n) && decide (n ≤ 2 ^ 24)) trIllegalOperand 2,
       must (!remote.isSome || decide (n ≤ 4096)) trIllegalOperand 2,
       must (match remote with | some r => d.flowFits c.stream c.r 0 r (flitsOf [(a, b, n)]) | none => true) trIllegalOperand 0,
       must (decide (a % al = 0)) trAlignment (a % 2 ^ 32), must (decide (b % al = 0)) trAlignment (b % 2 ^ 32),
       must (decide (n % al = 0)) trAlignment (n % 2 ^ 32),
       d.spaceCause c a n false, d.spaceCause c b n true,
       must (endsOk (spaceOf a) (spaceOf b)) trPermission (b % 2 ^ 32)]
  | .ctxGet _ ad => d.ctxCause c (c.a ad)
  | .ctxPut _ as_ _ => d.ctxCause c (c.a as_)
  | .send ts ch =>
    let x := c.desc ts
    causesOf [d.descCause c x 0 false inScratch false, must (d.channelOf c.stream ch).isSome trPermission 1,
             must (decide (x.count * x.len * x.es ≤ 8192)) trIllegalOperand 0,
             must (d.flowFits c.stream c.r 3 ch (ceilDiv (x.count * x.len * x.es) 64)) trIllegalOperand 1]
  | .egress ts sm =>
    let x := c.desc ts
    causesOf [d.descCause c x 0 false inScratch true, must (decide (x.count * x.len * x.es ≤ 8192)) trIllegalOperand 0,
             must (merOk (c.s sm)) trIllegalOperand 1, must (d.flowFits c.stream c.r 1 0 (ceilDiv (x.count * x.len * x.es) 64)) trIllegalOperand 0]
  | _ => []

/-! ### Effects -/

/-- The bytes of a tensor, token by token. -/
def Device.tensorBytes (d : Device) (c : Ctx) (x : Desc) : List Byte :=
  (List.range x.count).flatMap fun t => d.readMem c (x.tok t) (x.len * x.es)

/-- The open egress group of a stream in a region takes one more frame; the 64th closes it (R277). -/
def Device.joinGroup (d : Device) (r stream : Nat) : Nat × Device :=
  match (d.region r).groups.find? fun e => e.1 = stream with
  | some (_, n, frames) =>
    let d := d.updRegion r fun g => { g with groups := tset g.groups stream (n, frames + 1) }
    (n, if 64 ≤ frames + 1 then d.closeGroup r stream else d)
  | none =>
    let n := (d.stream stream).nextGroup
    let d := d.updStream stream fun x => { x with nextGroup := (n + 1) % 2 ^ 16 }
    let d := d.updRegion r fun g => { g with groups := tset g.groups stream (n, 1) }
    (n, { d with adm := { d.adm with groups := d.adm.groups ++
      [{ stream := stream, region := r, number := n, closed := false, leftAt := none }] } })

/-- The egress path is occupied for one cycle for each 64 bytes (R288). -/
def Device.occupyEgress (d : Device) (c : Ctx) (bytes : Nat) : Device :=
  d.updRegion c.r fun g => { g with egressFree := c.cycle + ceilDiv bytes 64 }

/-- The partner of a MAC is under quarantine (R289, R496). -/
def Device.partnerQuarantined (d : Device) (mac : Nat) : Bool :=
  d.dp.partners.any fun e => e.2.mac = mac && e.2.st = 2

/-- The port whose secure channel reaches a MAC, in service with an SAK installed (R497, R498). -/
def Device.securePort (d : Device) (mac : Nat) : Option Nat :=
  (List.range 16).find? fun p =>
    (decide ((d.port p).st = .up) || decide ((d.port p).st = .upDegraded)) && (d.port p).sakInstalled &&
      decide ((d.port p).mkaPeer = some mac)

/-- SEND (R288, R289, R498). -/
def Device.doSend (d : Device) (c : Ctx) (x : Desc) (ch : Nat) : Device :=
  let bs := d.tensorBytes c x
  let d := (d.occupyEgress c bs.length).injectFlits c.stream c.r 3 ch (ceilDiv bs.length 64)
  match d.channelOf c.stream ch with
  | none => d
  | some (_, mac, _, _) =>
    if d.partnerQuarantined mac || (d.securePort mac).isNone then
      (d.mirror c.r c.stream fun q => { q with sendDropCount := satInc q.sendDropCount }).dropped c.r 289 c.stream
    else d.emit (.fabric mac ch bs)

/-- The epoch that a stream's tiles serve in a region: that of the area its epoch select names (R387, R401). -/
def Device.epochOf (d : Device) (stream r : Nat) : Nat :=
  match d.mm.slots.find? fun e => e.2.model = (d.stream stream).model && e.2.model ≠ 0 with
  | some (_, m) => if tget 0 m.sel (64 * stream + r) = 1 then m.area1.epoch else m.area0.epoch
  | none => 0

/-- The batch lag of a stream in a region (R399). -/
def Stream.lagIn (x : Stream) (r : Nat) : Nat :=
  match x.starts.find? fun t => (x.programs[t.prog]?.map fun p => p.region) = some r with
  | some t => t.lag
  | none => 0

/-- Records travel with the tokens in these formats (R485). -/
def hasRecs (fmt : Nat) : Bool := decide (fmt ≠ fBF16) && decide (fmt ≠ fFP32)

/-- EGRESS (R277, R288, R290, R485): the packet goes on its way to the hub. -/
def Device.doEgress (d : Device) (c : Ctx) (x : Desc) (sm : Nat) : Device :=
  let bs := d.tensorBytes c x
  let recs := (List.range x.count).flatMap fun t => leBytes 8 (d.record c x t)
  let deg := (List.range x.count).any fun t => rDegraded (d.record c x t)
  let y := d.stream c.stream
  let gidx := match (d.region c.r).groups.find? fun e => e.1 = c.stream with
    | some (_, _, frames) => frames
    | none => 0
  let d := (d.occupyEgress c bs.length).injectFlits c.stream c.r 1 0 (ceilDiv bs.length 64)
  let (n, d) := d.joinGroup c.r c.stream
  let f : ResultFrame :=
    { stream := c.stream, seq := 0, flags := 2 * b2n deg, mer := sm, epoch := d.epochOf c.stream c.r, fmt := x.fmt,
      recs := hasRecs x.fmt, group := n, gidx := gidx, tokens := x.count, dim0 := x.d 0,
      batch := beatNo y.almanac d.clk.now - y.lagIn c.r, body := (if hasRecs x.fmt then recs else []) ++ bs }
  { d with fab := { d.fab with egress := d.fab.egress ++
    [{ region := c.r, instant := ofMer sm, pc := c.bank.pc, frame := f }] } }

/-- What an M-slot instruction does once issued. -/
def Device.doM (d : Device) (c : Ctx) (op : SlotOp) : Device :=
  match op with
  | .movS sd ss => d.write c (.s sd) 1 (c.s ss)
  | .movSA ad ss => d.write c (.a ad) 1 (c.s ss % 2 ^ 48)
  | .movAS sd as_ => d.write c (.s sd) 1 (c.a as_)
  | .movAI ad imm => d.write c (.a ad) 1 (ux 48 ((c.a ad : Int) + imm))
  | .movAA ad ss => d.write c (.a ad) 1 ((c.a ad + c.s ss) % 2 ^ 48)
  | .movTA tn as_ => d.write c (.t tn) 1 (putBits (c.t tn) 0 48 (c.a as_))
  | .movTS tn fld ss => d.write c (.t tn) 1 (putBits (c.t tn) (fldPlace fld).1 (fldPlace fld).2 (c.s ss))
  | .movST sd tn fld => d.write c (.s sd) 1 (c.t tn / 2 ^ (fldPlace fld).1 % 2 ^ (fldPlace fld).2)
  | .movPS ss => forEach [1, 2, 3, 4, 5, 6, 7] (fun i d => d.write c (.p i) 1 (b2n (bit (c.s ss) i))) d
  | .movSP sd => d.write c (.s sd) 1 (c.bank.p / 2 % 128 * 2 + 1)
  | .movQS qn h ss => d.write c (.q qn) 1 (putBits (c.q qn) (64 * b2n h) 64 (c.s ss))
  | .movSQ sd qn h => d.write c (.s sd) 1 (c.q qn / 2 ^ (64 * b2n h) % 2 ^ 64)
  | .movL sd as_ off => d.write c (.s sd) 6 (leValue (d.readMem c (c.movAddr as_ off) 8))
  | .movW ss as_ off => d.writeMem c.r c.stream (c.movAddr as_ off) (leBytes 8 (c.s ss))
  | .movSM sd beat =>
    let n := (d.stream c.stream).almanac
    d.write c (.s sd) 2 (if beat then merOf (beatStartNo n (beatNo n d.clk.now)) else merOf (d.clk.now / 4 * 4))
  | .xferD td ts => d.startXfer c (d.planD c (c.desc td) (c.desc ts)) 0 false
  | .xferB ad as_ sl => d.startXfer c (d.planB c (c.a ad) (c.a as_) (c.s sl)) 0 false
  | .ctxGet sk ad =>
    let got := d.context c.stream (c.s sk)
    let d := if got.isNone then d.mirror c.r c.stream fun q => { q with ctxMissCount := satInc q.ctxMissCount } else d
    d.startXfer c { kind := .ctxGet, writes := [(c.a ad, got.getD (List.replicate 128 0))], requests := 1, flits := 0,
                    bytes := 128, remote := none } (c.s sk) false
  | .ctxPut sk as_ del =>
    let bs := d.readMem c (c.a as_) 128
    let d := if del then d.dropContext c.stream (c.s sk) else d.putContext c.r c.stream (c.s sk) bs
    d.startXfer c { kind := .ctxPut, writes := [], requests := 1, flits := 0, bytes := 128, remote := none } (c.s sk) del
  | .send ts ch => d.doSend c (c.desc ts) ch
  | .egress ts sm => d.doEgress c (c.desc ts) (c.s sm)
  | _ => d

/-! ### Arrival and completion -/

/-- A write from another region or package arrives (R234): it lies wholly within an enabled receive window, or it is
dropped, counted and reported. A region in reset takes none (R285). -/
def Device.remoteWrite (d : Device) (r off : Nat) (bs : List Byte) : Device :=
  let g := d.region r
  if decide (g.regs.st ≠ .reset) && d.dieLive (r / 6) && g.receives off bs.length then d.updRegion r fun g => { g with scratch := memWrite g.scratch off bs }
  else (d.updSeq r fun q => { q with rxDropCount := satInc q.rxDropCount, rxDropF := true }).dropped r 234 0x1FF

/-- Bytes moved, from place `at_` among those of their transfer, with those at the places of a list unspecified (R284).
(DESIGN CHOICE, assumption log 18.) -/
def spoilAt (bad : List Nat) (at_ : Nat) (bs : List Byte) (d : Device) : List Byte × Device :=
  (List.range bs.length).foldl (fun (st : List Byte × Device) i =>
    if bad.contains (at_ + i) then
      let (v, d) := takeFree 8 st.2
      (st.1 ++ [BitVec.ofNat 8 v], d)
    else (st.1 ++ [lget 0 bs i], st.2)) ([], d)

/-- The pieces of a transfer are written, in order, the bytes at the places of `bad` unspecified (R234, R235, R284). -/
def Device.writePieces (d : Device) (r stream : Nat) (bad : List Nat) (l : List (Nat × List Byte)) : Device :=
  (l.foldl (fun (st : Nat × Device) w =>
    let (bs, d) := spoilAt bad st.1 w.2 st.2
    (st.1 + w.2.length, match d.remoteOf stream r (spaceOf w.1) with
      | some q => d.remoteWrite q (offsetOf w.1) bs
      | none => d.writeMem r stream w.1 bs)) (0, d)).2

/-- The engine is free once the last request of every transfer has found room in the region's queue (R283). -/
def Region.queueMoves (g : Region) (was now : Nat) : Region :=
  if 32 < was ∧ g.requests ≤ 32 then { g with engineFree := max g.engineFree now } else g

/-- A transfer writes its destination (R235, R283, R284). Where a source read met an uncorrectable error, or poisoned data
(R405), the bytes at those places are unspecified, no record is written and DATA_ECC is raised late (R256). The bytes are free
to later bundles from the cycle that the transfer's entry states. (DESIGN CHOICE, assumption log 18.) -/
def Device.finishXfer (d : Device) (r : Nat) (x : Xfer) (ecc : Bool) (bad : List Nat) : Device :=
  let fails := ecc || !x.poison.isEmpty
  let ends (w : Nat × List Byte) : Nat × Nat × Nat := (w.1, w.1 + w.2.length, x.doneAt)
  let d := d.updRegion r fun g =>
    Region.queueMoves { g with xfers := g.xfers.filter fun y => y.id ≠ x.id,
                               busy := if x.kind = .localCopy then g.busy ++ (x.writes ++ x.recs).map ends else g.busy }
      g.requests d.nowCycle
  let d := d.writePieces r x.stream (x.poison ++ if ecc then bad else []) x.writes
  if fails then
    d.lateTrap r { code := trDataEcc, slotClass := clM, late := true, swCode := 0, info := 0, faultPc := x.pc }
  else d.writePieces r x.stream [] x.recs

/-- An M-slot instruction whose source read met an uncorrectable error (R256): it writes no register and hands nothing over;
a context it stores holds unspecified bytes. (DESIGN CHOICE, assumption log 17.) -/
def Device.spoilM (d : Device) (c : Ctx) (op : SlotOp) : Device :=
  match op with
  | .ctxPut sk _ false =>
    let (bs, d) := freeBytes 128 d
    (d.putContext c.r c.stream (c.s sk) bs).startXfer c
      { kind := .ctxPut, writes := [], requests := 1, flits := 0, bytes := 128, remote := none } (c.s sk) false
  | .movL _ _ _ | .send _ _ | .egress _ _ => d
  | _ => d.doM c op

end Sys2Proof.Machine
end

