-- ==== Sys2Proof/Machine/Egress.lean ====
section
/-! DEFINITION. Results at the hub (R290, R291, R333 to R335, R341, R420 to R424, R484 to R487): arrival, verdict,
egress instant, SEAL and RECALL. -/
namespace Sys2Proof.Machine

/-! ### Frames on the line (R477, R484, R334) -/

/-- Rate of a port in Mb/s, by lanes and lane rate (R477). -/
def portRate (lanes rate : Nat) : Nat :=
  let one := if rate = 0 then 100000 else if rate = 1 then 50000 else 25000
  one * (if lanes = 0 then 1 else if lanes = 1 then 2 else 4)

/-- A port in service (R479, R503). -/
def Port.up (p : Port) : Bool := decide (p.st = .up) || decide (p.st = .upDegraded)

def Port.mbps (p : Port) : Nat := portRate p.lanes p.rate

/-- Line time, in Tc, of a number of frame bytes with their 20 bytes of gap and preamble (R334). -/
def lineTc (mbps bytes : Nat) : Nat := ceilDiv ((bytes + 20) * 8 * 1966080) (mbps * 1000)

/-- Frame bytes of a frame of the SX8 to a stream's result destination (R484, R504): an entry that is not VALID is taken as
raw without a tag. (DEDUCED, assumption log 68.) -/
def Device.frameBytes (d : Device) (stream payload : Nat) : Nat :=
  let w := lget 0 (tget ResultDest.reset d.dp.dests stream).w 0
  let cfg := if bit w 31 then w else 0
  let ip := if bits cfg 1 0 = 1 then 28 else if bits cfg 1 0 = 2 then 48 else 0
  max 64 (14 + 4 * b2n (bit cfg 2) + ip + payload + 4)

/-- Payload bytes of a RESULT frame (R484, R485): common header, body header, body. -/
def ResultFrame.payload (f : ResultFrame) : Nat := 40 + f.body.length

/-- Largest frame an egress slot takes (R486). -/
def EgressSlot.most (e : EgressSlot) : Nat := min 9216 e.largest

/-- Line time of a slot: all of its frames at their largest (R334). -/
def Device.slotLine (d : Device) (e : EgressSlot) : Nat := e.frames * lineTc (d.port e.port).mbps e.largest

/-- TIME of a RESULT frame (R485). -/
def TbState.frameCode : TbState → Nat
  | .locked => 0 | .holdover => 1 | .unreferenced => 2 | .localTime => 3 | .freerun => 2 | .acquiring => 2

/-- The egress slot of a stream that an instant names (R291): the slot whose offset the instant has in its beat. -/
def Stream.slotAt (x : Stream) (t : Nat) : Option Nat :=
  if x.entriesGone ∨ x.almanac = 0 then none
  else x.egress.findIdx? fun e => decide (beatStartNo x.almanac (beatNo x.almanac t) + e.offTc = t)

/-! ### The ledger (R341) -/

def Device.updLedger (d : Device) (f : List LedgerEntry → List LedgerEntry) : Device :=
  { d with adm := { d.adm with ledger := f d.adm.ledger } }

/-- Entries in use, of one stream and of all. -/
def Device.ledgerOf (d : Device) (s : Nat) : Nat := (d.adm.ledger.filter fun e => e.counted && e.frame.stream = s).length
def Device.ledgerUsed (d : Device) : Nat := (d.adm.ledger.filter fun e => e.counted).length

/-- An entry of a stream's result. -/
def LedgerEntry.isOf (e : LedgerEntry) (stream seq : Nat) : Bool := e.frame.stream = stream && e.frame.seq = seq

/-- A frame is due and, in checked egress, its verdict is known (R421). -/
def LedgerEntry.ready (e : LedgerEntry) (cut : Bool) : Bool := e.due && !e.sent && (cut || e.verdict.isSome)

/-- Send an absent frame of a slot (R335), with the sequence number given. (DEDUCED, assumption log 67.) -/
def Device.sendAbsent (d : Device) (port stream seq mer miss : Nat) : Device :=
  let d := { d with adm := { d.adm with absentCount := satInc d.adm.absentCount } }
  let f : ResultFrame :=
    { stream := stream, seq := seq, flags := 8 + miss + 32 * d.tb.st.frameCode, mer := mer, epoch := 0, fmt := 0,
      recs := false, group := 0, gidx := 0, tokens := 0, dim0 := 0, batch := 0, body := [] }
  d.emit (.result port f)

/-- A result leaves after its deadline (R334, R342): a breach of that result, unless a declared exception already covers the
stream. (DEDUCED, assumption log 66.) -/
def Device.lateResult (d : Device) (stream seq port : Nat) : Device :=
  let x := d.stream stream
  if x.st = .free ∨ (x.clearedBy.any fun c => exceptionCause c) then d
  else d.notice 0x10 kBreach port [(stream, x.st.code, seq)]

/-- The first result frame of a group leaves the package (R277). -/
def Device.groupLeaves (d : Device) (stream group : Nat) : Device :=
  let g := d.adm.groups.map fun (x : EgressGroup) =>
    if x.stream = stream ∧ x.number = group ∧ x.leftAt = none then { x with leftAt := some d.real } else x
  { d with adm := { d.adm with groups := g } }

/-- A due frame leaves its port, `wait` Tc after its turn has come (R290, R291, R334, R341, R421, R480, R486). In checked egress
the verdict becomes final with it; in cut-through the entry stays for the SEAL. (DEDUCED, assumption log 68.) -/
def Device.sendEntry (d : Device) (stream seq start wait : Nat) : Device :=
  match d.adm.ledger.find? fun e => e.isOf stream seq with
  | none => d
  | some e =>
    let x := d.stream stream
    let z := x.egress.getD e.slot { port := 0, offTc := 0, frames := 0, largest := 0, line := 0, rel := 0 }
    let drop := d.updLedger fun l => l.filter fun y => !y.isOf stream seq
    let miss := if bit e.frame.flags 4 then 16 else 0
    if !(d.port z.port).up then { drop with dp := { drop.dp with downDrops := satInc drop.dp.downDrops } }
    else if !e.counted then drop.sendAbsent z.port stream seq e.frame.mer miss
    else if z.most < d.frameBytes stream e.frame.payload then
      (({ drop with dp := { drop.dp with egressOversize := satInc drop.dp.egressOversize } }).portEvent z.port 10 0
        stream).sendAbsent z.port stream seq e.frame.mer miss
    else
      let failed := decide (e.verdict = some false) && !x.cutThrough
      let f := { e.frame with
        flags := (e.frame.flags % 4 ||| (if failed then 6 else 0)) + miss + 32 * d.tb.st.frameCode,
        group := if x.cutThrough then e.frame.group else 0,
        gidx := if x.cutThrough then e.frame.gidx else 0 }
      let f := { f with flags := f.flags / 2 * 2 + b2n x.cutThrough }
      let d := if x.cutThrough then
          d.updLedger fun l => l.map fun y => if y.isOf stream seq then { y with sent := true, frame := f } else y
        else drop
      let d := (d.groupLeaves stream e.frame.group).emit (.result z.port f)
      let own := lineTc (d.port z.port).mbps (d.frameBytes stream e.frame.payload)
      if e.late || decide (e.instant + d.slotLine z < start + wait + own) then d.lateResult stream seq z.port else d

/-- The due frames of a stream leave in sequence-number order, one behind another on the line (R290). (DEDUCED, assumption
log 66.) -/
def Device.sendReady (d : Device) (stream start : Nat) : Device :=
  let x := d.stream stream
  let l := (d.adm.ledger.filter fun e => e.frame.stream = stream && e.ready x.cutThrough).insertionSort
    fun a b => a.frame.seq ≤ b.frame.seq
  (l.foldl (fun (st : Device × Nat) e =>
    let z := x.egress.getD e.slot { port := 0, offTc := 0, frames := 0, largest := 0, line := 0, rel := 0 }
    let own := lineTc (st.1.port z.port).mbps (st.1.frameBytes stream e.frame.payload)
    (st.1.sendEntry stream e.frame.seq start st.2, st.2 + own)) (d, 0)).1

/-! ### Arrival (R290, R291, R341, R493) -/

/-- EGRESS data reaches the hub: the result takes the stream's next sequence number and a ledger entry. -/
def Device.egressArrive (d : Device) (p : EgressPacket) : Device :=
  let s := p.frame.stream
  let x := d.stream s
  match x.slotAt p.instant with
  | none =>
    d.lateTrap p.region { code := trIllegalOperand, slotClass := clM, late := true, swCode := 0, info := 1,
                          faultPc := p.pc }
  | some k =>
    let now := d.clk.now
    let full := decide (x.ledger ≤ d.ledgerOf s)
    let miss := decide (now < (tget Batch.reset d.dp.batches s).missUntil)
    let late := d.passed p.instant
    let d := d.updStream s fun x => { x with nextSeq := (x.nextSeq + 1) % 2 ^ 32 }
    let e : LedgerEntry :=
      { region := p.region, slot := k,
        frame := { p.frame with seq := x.nextSeq, flags := p.frame.flags + 16 * b2n miss },
        arrived := now, instant := p.instant, counted := !full, due := late, late := late, verdict := none, sent := false }
    let d := d.updLedger fun l => l ++ [e]
    let a := d.adm
    let d := { d with adm := { a with
      ledgerFullCount := satAdd a.ledgerFullCount (b2n full), ledgerHwm := max a.ledgerHwm d.ledgerUsed } }
    if late then
      let d := d.mirror p.region s fun q => { q with egressLateCount := satInc q.egressLateCount }
      let d := d.lateEvent (unitRegion p.region) (unitRegion p.region + 2 ^ 28) (now - p.instant) s
      d.sendReady s now
    else d

/-- EGRESS_DATA_ARRIVAL (R290, R291): the oldest EGRESS packet of a region reaches the hub. The hub accepts nothing from
a fenced die (R437). -/
def execEgressDataArrival (r : Nat) (s : State) : Host.Outcome State Fault Refusal :=
  .next (s.upd fun d =>
    match d.fab.egress.find? fun p => p.region = r with
    | none => d
    | some p =>
      let d := { d with fab := { d.fab with egress := d.fab.egress.erase p } }
      if d.dieLive (r / 6) then d.egressArrive p else d)

/-- The verdict of a result (R420, R421, R424): FAIL when any taint covers its arrival. -/
def Device.resultVerdict (d : Device) (s seq : Nat) : Device :=
  match d.adm.ledger.find? fun e => e.isOf s seq && e.verdict.isNone && decide (e.arrived + nsTc 120 ≤ d.clk.now) with
  | none => d
  | some e =>
    let pass := !(d.stream s).tainted e.arrived
    let d := d.updLedger fun l => l.map fun y => if y.isOf s seq then { y with verdict := some pass } else y
    let d := if pass then d else d.updFlt fun f => { f with failResultCount := satInc f.failResultCount }
    if (d.stream s).cutThrough then d else d.sendReady s (max e.instant d.clk.now)

/-- RESULT_VERDICT (R421): 120 ns after the result's data reached the hub. -/
def execResultVerdict (stream seq : Nat) (s : State) : Host.Outcome State Fault Refusal :=
  .next (s.upd fun d => d.resultVerdict stream seq)

/-- An egress instant (R290, R334, R335): the slot's results leave in sequence-number order; with none an absent frame
leaves, with the next sequence number. -/
def Device.egressInstant (d : Device) (s slot instant : Nat) : Device :=
  let x := d.stream s
  if (x.st = .active ∨ x.st = .releasing) ∧ x.slotAt instant = some slot then
    let here (e : LedgerEntry) : Bool := e.frame.stream = s && e.slot = slot && e.instant = instant && !e.sent
    if d.adm.ledger.any here then
      (d.updLedger fun l => l.map fun e => if here e then { e with due := true } else e).sendReady s instant
    else
      let z := x.egress.getD slot { port := 0, offTc := 0, frames := 0, largest := 0, line := 0, rel := 0 }
      let d := d.updStream s fun x => { x with nextSeq := (x.nextSeq + 1) % 2 ^ 32 }
      if (d.port z.port).up then
        d.sendAbsent z.port s x.nextSeq (merOf instant)
          (if instant < (tget Batch.reset d.dp.batches s).missUntil then 16 else 0)
      else { d with dp := { d.dp with downDrops := satInc d.dp.downDrops } }
  else d

/-- EGRESS_INSTANT (R53 to R55, R334, R335): at its instant, in its place among the hub's events of that cycle. (DEDUCED,
assumption log 67.) -/
def execEgressInstant (stream slot instant : Nat) (s : State) : Host.Outcome State Fault Refusal :=
  .next (s.upd fun d => d.event instant unitPackage unitPackage ordEgress stream fun d => d.egressInstant stream slot instant)

/-! ### SEAL and RECALL (R422, R487) -/

/-- FAIL_MAP of a group's frames. -/
def failMap (l : List LedgerEntry) : Nat :=
  maskOf ((l.filter fun e => e.verdict = some false).map fun e => e.frame.gidx)

/-- The group of a stream is complete: closed, nothing of it on its way, every frame gone with its verdict known. -/
def Device.groupDone (d : Device) (s group : Nat) : Bool :=
  (d.adm.groups.any fun g => g.stream = s && g.number = group && g.closed) &&
  !(d.fab.egress.any fun p => p.frame.stream = s && p.frame.group = group) &&
  (d.adm.ledger.all fun e => !(e.frame.stream = s && e.frame.group = group) || (e.sent && e.verdict.isSome))

/-- The RECALL frame of a group with a FAIL, then its SEAL frame; the verdicts are final (R341, R422, R424). -/
def Device.sealGroup (d : Device) (s group : Nat) : Device :=
  if (d.stream s).cutThrough && d.groupDone s group then
    let l := (d.adm.ledger.filter fun e => e.frame.stream = s && e.frame.group = group).insertionSort
      fun a b => a.frame.gidx ≤ b.frame.gidx
    let d := d.updLedger fun l => l.filter fun e => !(e.frame.stream = s && e.frame.group = group)
    let d := { d with adm := { d.adm with groups := d.adm.groups.filter fun g => !(g.stream = s && g.number = group) } }
    match l with
    | [] => d
    | e :: _ =>
      let z := (d.stream s).egress.getD e.slot { port := 0, offTc := 0, frames := 0, largest := 0, line := 0, rel := 0 }
      if !(d.port z.port).up then { d with dp := { d.dp with downDrops := satInc d.dp.downDrops } }
      else
        let m := failMap l
        let d := if m = 0 then d
          else (d.emit (.recall z.port s group e.frame.mer l.length m
              ((l.filter fun e => e.verdict = some false).map fun e => e.frame.seq))).updFlt fun f =>
            { f with recallCount := satInc f.recallCount }
        (d.emit (.sealFrame z.port s group e.frame.mer l.length m)).updFlt fun f => { f with sealCount := satInc f.sealCount }
  else d

/-- SEAL_FRAME (R422): the last frame of a closed group has left. -/
def execSealFrame (stream group : Nat) (s : State) : Host.Outcome State Fault Refusal :=
  .next (s.upd fun d => d.sealGroup stream group)

end Sys2Proof.Machine
end

