-- ==== Sys2Proof/Machine/Quant.lean ====
section
/-! DEFINITION. The quantiser (chapter 05): the first pass, conversion, dequantising, and the output side of a
cluster. -/
namespace Sys2Proof.Machine

/-- What a V-slot operation answers: the device with its destinations written, a cause detected late, and the OR of
MISFIT over the tokens it converted. -/
structure VRes where
  dev : Device
  late : Option Nat
  pm : Bool

/-- The finite values of a token, and how many elements are not finite. -/
def finiteOf (vals : List FpVal) : List Rat × Nat :=
  vals.foldl (fun acc v => match v with | .num x => (x :: acc.1, acc.2) | _ => (acc.1, acc.2 + 1)) ([], 0)

/-- `lo` and `hi` of a token (R168). -/
def rangeOf (vals : List FpVal) : Rat × Rat :=
  (finiteOf vals).1.foldl (fun acc x => (min acc.1 x, max acc.2 x)) (0, 0)

/-- A computed scale, rounded upward, or to a power of two (R163, R169). -/
def scaleOf (q : Nat) (x : Rat) : Nat := if qPow2 q then scalePow2 x else scaleUp x

/-- The record QSCAN writes for one token (R168 to R172); the Bool says it is a zero-range token. -/
def scanToken (q : Nat) (vals : List FpVal) (degraded : Bool) : Nat × Bool :=
  let nonfin := decide ((finiteOf vals).2 ≠ 0)
  if qStatic q then (mkRec (qScale q) (qZpBits q) false nonfin false false degraded 0, false)
  else
    let (lo, hi) := rangeOf vals
    if lo = hi then (mkRec 0x00800000 0 true nonfin false false degraded 0, true)
    else if qFmt q ≤ fS8 then
      let n : Rat := (qHi q - qLo q : Int)
      let s := scaleOf q ((hi - lo) / n)
      let zp := qLo q - rna (lo / f32 s)
      (mkRec s (ux 8 zp) false nonfin false false degraded 0, false)
    else
      let s := scaleOf q (max (-lo) hi / (floatFmt (qFmt q)).maxVal)
      (mkRec s 0 false nonfin false false degraded 0, false)

/-- One converted element: its code pattern, whether it saturated, whether it was non-finite, and the square error
and signal it adds (R174 to R176). -/
structure Conv where
  pat : Nat
  sat : Bool
  nonfin : Bool
  err : Rat
  sig : Rat

/-- Convert one element (R174, R175). -/
def convElem (q : Nat) (s : Rat) (zpBits : Nat) (v : FpVal) : Conv :=
  let fmt := qFmt q
  let f := floatFmt fmt
  let zp := zpOf fmt zpBits
  match v with
  | .num x =>
    if fmt ≤ fS8 then
      let c := rna (x / s) + zp
      let c' := clampI (qLo q) (qHi q) c
      let y := ((c' - zp : Int) : Rat) * s
      { pat := ux 8 c', sat := decide (c ≠ c'), nonfin := false, err := (x - y) * (x - y), sig := x * x }
    else
      let (p, _) := f.round (x / s)
      let y := (f.finite p).1 * s
      { pat := p, sat := decide (f.maxVal < |x / s|), nonfin := false, err := (x - y) * (x - y), sig := x * x }
  | .nan => { pat := if fmt ≤ fS8 then ux 8 zp else 0, sat := true, nonfin := true, err := 0, sig := 0 }
  | .inf neg =>
    { pat := if fmt ≤ fS8 then ux 8 (if neg then qLo q else qHi q)
             else (if neg then f.maxPat + 2 ^ (f.eb + f.mb) else f.maxPat),
      sat := true, nonfin := true, err := 0, sig := 0 }

/-- The misfit cause of a converted token (R187): 0 none, 1 SAT, 2 MSE, 3 both. -/
def misfitCause (q elems satn : Nat) (e p : Rat) : Nat :=
  b2n (decide (qSatThr q * elems < min satn 65535 * 256))
    + 2 * b2n (decide (qMseThr q ≠ 0) && decide ((qMseThr q : Rat) * p < e * ((2 ^ 20 : Nat) : Rat)))

/-- A converted token: patterns, saturations, non-finite elements, E, P and the misfit cause. -/
structure ConvToken where
  pats : List Nat
  satn : Nat
  nonfin : Nat
  e : Rat
  p : Rat
  cause : Nat

/-- Convert a token with a scale and a zero point; E and P add up in element order in binary64 (R176). -/
def convToken (q scale zpBits : Nat) (vals : List FpVal) : ConvToken :=
  let cs := vals.map (convElem q (f32 scale) zpBits)
  let satn := (cs.filter fun c => c.sat).length
  let e := (fp64.finite (cs.foldl (fun acc c => if c.nonfin then acc else add64 acc c.err) 0)).1
  let p := (fp64.finite (cs.foldl (fun acc c => if c.nonfin then acc else add64 acc c.sig) 0)).1
  { pats := cs.map fun c => c.pat, satn := satn, nonfin := (cs.filter fun c => c.nonfin).length, e := e, p := p,
    cause := misfitCause q vals.length satn e p }

/-- The values of token `t`. -/
def Device.tokenVals (d : Device) (c : Ctx) (x : Desc) (t : Nat) : List FpVal := (d.token c x t).map (elemVal x.fmt)

/-- QSCAN (R168 to R172, R313). -/
def Device.qscan (d : Device) (c : Ctx) (ts td : Desc) : VRes :=
  let q := c.q td.qset
  if !d.recordsOk c ts (List.range ts.count) then { dev := d, late := some trQset, pm := false }
  else
    let dev := forEach (List.range ts.count) (fun t acc =>
      let (v, zr) := scanToken q (d.tokenVals c ts t) (degradedOf (d.srcRecord c ts t))
      let acc := acc.setRecord c td t v
      if zr then acc.stat c.r (qStat q) StatSlot.zeroRange else acc) d
    { dev := dev, late := none, pm := false }

/-- The record QCONV leaves for a token (R172, R174); a degraded mark of its own record or of its source stays (R193). -/
def convRecord (q old : Nat) (degraded : Bool) (k : ConvToken) : Nat :=
  if qStatic q then mkRec (qScale q) (qZpBits q) false (k.nonfin ≠ 0) (k.cause ≠ 0) false degraded k.satn
  else mkRec (rScale old) (rZp old) (rZr old) (rNonfin old || k.nonfin ≠ 0) (k.cause ≠ 0) (rEscalated old)
    (rDegraded old || degraded) k.satn

/-- Count a converted token in its statistics slot (R184, R189). -/
def Device.countToken (d : Device) (r q t : Nat) (k : ConvToken) : Device :=
  d.stat r (qStat q) fun s =>
    let s := s.convert k.pats.length k.satn k.nonfin k.e k.p
    if k.cause = 0 then s else s.misfit t k.cause

/-- QCONV (R172, R174 to R176, R187, R313). -/
def Device.qconv (d : Device) (c : Ctx) (ts td : Desc) : VRes :=
  let q := c.q td.qset
  let toks := List.range ts.count
  let recs := toks.map fun t => d.record c td t
  if !d.recordsOk c ts toks || (!qStatic q && !(recs.all fun v => recOk q v)) then
    { dev := d, late := some trQset, pm := false }
  else
    let one (t : Nat) : ConvToken :=
      let v := lget 0 recs t
      if qStatic q then convToken q (qScale q) (qZpBits q) (d.tokenVals c ts t)
      else convToken q (rScale v) (rZp v) (d.tokenVals c ts t)
    let dev := forEach toks (fun t acc =>
      let k := one t
      let acc := acc.setToken c td t k.pats
      let acc := acc.setRecord c td t (convRecord q (lget 0 recs t) (degradedOf (d.srcRecord c ts t)) k)
      acc.countToken c.r q (td.token0 + t) k) d
    { dev := dev, late := none, pm := toks.any fun t => decide ((one t).cause ≠ 0) }

/-- One dequantised element (R177): the exact value before its one rounding, and whether the code was non-finite. -/
def dequantElem (fmt : Nat) (zp : Int) (s : Rat) (v : FpVal) : Rat × Bool :=
  match v with
  | .num x => (if fmt ≤ fS8 then (x - zp) * s else x * s, false)
  | .nan => (0, true)
  | .inf neg => ((if neg then -1 else 1) * 57344 * s, true)

/-- DQ (R177, R313). `lt` is the tile that names the rescale entries of a Y24 source. (DEDUCED, assumption log 55.) -/
def Device.dq (d : Device) (c : Ctx) (ts td : Desc) (lt : Nat) : VRes :=
  let toks := List.range ts.count
  if !d.recordsOk c ts toks then { dev := d, late := some trQset, pm := false }
  else
    let dev := forEach toks (fun t acc =>
      let rec_ := d.srcRecord c ts t
      let s := match rec_ with | some v => f32 (rScale v) | none => 1
      let zp := match rec_ with | some v => zpOf ts.fmt (rZp v) | none => 0
      let one (i : Nat) (v : FpVal) : Rat × Bool :=
        if ts.fmt = fY24 then
          let (x, _) := dequantElem fU8 0 1 v
          (x * s * f32 (d.rescale lt i), false)
        else dequantElem ts.fmt zp s v
      let outs := (d.tokenVals c ts t).zipIdx.map fun e =>
        let (x, nf) := one e.2 e.1
        let (p, sat) := roundTo td.fmt x
        (p, sat || nf, nf)
      let satn := (outs.filter fun o => o.2.1).length
      let nonfin := (outs.filter fun o => o.2.2).length
      let acc := acc.setToken c td t (outs.map fun o => o.1)
      let acc := acc.produce c td t
        (mkRec one32 0 false (nonfin ≠ 0) (misfitOf rec_) (escalatedOf rec_) (degradedOf rec_) satn)
      acc.stat c.r (qStat (c.q td.qset)) fun sl => sl.convert outs.length satn nonfin 0 0) d
    { dev := dev, late := none, pm := false }

/-! ### The output side of a cluster (R178, R179, R188, R300, R301) -/

/-- One output of the cluster quantiser: RAW passes the trimmed output, RESCALE multiplies by `m × s_x × s_w,c`. -/
def outElem (fmt m : Nat) (sx_ sw : Rat) (y : Int) : Nat × Bool :=
  if fmt = fY24 then (ux 32 y, false) else roundTo fmt ((y : Rat) * m * sx_ * sw)

/-- The record of an output token (R301). `condition` says that a condition of the stream's class has failed on the
tile (R192). -/
def outRecord (fmt m recIn satn : Nat) (misfit : Bool) : Nat :=
  let s := if fmt = fY24 then (fp32.round ((m : Rat) * f32 (rScale recIn))).1 else one32
  mkRec s 0 (rZr recIn) false misfit false (rDegraded recIn) satn

end Sys2Proof.Machine
end

