-- ==== Sys2Proof/Machine/Analogue.lean ====
section
/-! DEFINITION. The analogue part of the tile (R78 to R99, R117 to R119): cells, row levels, column charges, raw codes, the
row limiter, and the dressing of one weight. Conductances are in nS, row voltages in 1/5,100 V: one ladder step at a span of
0.10, 0.15 or 0.20 V is 2, 3 or 4 of them. (DESIGN CHOICE, assumption log 99.) -/
namespace Sys2Proof.Machine

/-! ### Cells (R78, R79) -/

/-- Every cell lies between 0.1 µS and 25 µS (R79). -/
def cellMin : Nat := 100
def cellMax : Nat := 25000
def heldCell (g : Nat) : Nat := max cellMin (min cellMax g)

/-- A cell after a RESET: at the floor, between 0.1 µS and 0.3 µS (R117). -/
def floorCell (g : Nat) : Nat := max cellMin (min 300 g)

/-- All four cells at the floor. -/
def Cells.floor : Cells := { majP := cellMin, majM := cellMin, minP := cellMin, minM := cellMin }

/-- The major difference, in nS. -/
def Cells.major (c : Cells) : Int := (c.majP : Int) - c.majM

/-- ΔG of R78 in 1/16 nS: the minor pair passes the 16:1 divider. -/
def Cells.delta (c : Cells) : Int := 16 * c.major + ((c.minP : Int) - c.minM)

/-- The target w × G_UNIT of a code in 1/16, in 1/16 nS: G_UNIT is 160 nS (R79). -/
def goalOf (code16 : Int) : Int := 160 * code16

/-- ΔG of one code, in 1/16 nS: the conductance of a product unit (R96). -/
abbrev unitDelta : Nat := 2560

/-! ### Row drive (R81, R84, R87 to R89) -/

/-- Unary segments on, and steps of the binary ladder, of a ladder code (R81, R82). -/
def ladderSegments (code : Nat) : Nat := bits code 7 5
def ladderBits (code : Nat) : Nat := bits code 4 0

/-- The steps of 1/255 of the span that a ladder code drives: 32 for each segment, and the ladder's (R81). -/
def ladderSteps (code : Nat) : Nat := 32 * ladderSegments code + ladderBits code

/-- Units of 1/5,100 V in one step at a span code: 0.10, 0.15 or 0.20 V over 255 steps (R81). -/
def spanStep (span : Nat) : Nat := 2 + span

/-- The voltage of a ladder code with a polarity (R81). -/
def ladderVolt (span : Nat) (negative : Bool) (code : Nat) : Int :=
  (if negative then -1 else 1) * (spanStep span * ladderSteps code : Nat)

/-- Polarity and ladder code of an input code (R84): U8 drives x, S8 twice its magnitude, with −128 clamped to 255. -/
def driveOf (signed : Bool) (x : Int) : Bool × Nat :=
  if signed then (decide (x < 0), min 255 (2 * x.natAbs)) else (false, x.toNat % 256)

/-- The voltage of an input code (R81, R84). -/
def inputVolt (span : Nat) (signed : Bool) (x : Int) : Int := ladderVolt span (driveOf signed x).1 (driveOf signed x).2

/-- The input as driven, in half S8 steps (R84, R103, R110). -/
def drivenHalves (signed : Bool) (x : Int) : Int := (if (driveOf signed x).1 then -1 else 1) * ((driveOf signed x).2 : Int)

/-- Twice the exact output ŷ of a column (R110), in output units: its target codes with the input as driven, and zp′. -/
def exactHalves (signed : Bool) (weights codes : List Int) (zp2 : Int) : Int :=
  ((weights.zip codes).map fun e => e.1 * drivenHalves signed e.2).sum - zp2 * weights.sum

/-- The park level: m × 0.392 mV whatever the span, 0.392 mV being a step at 0.10 V (R82, R89). -/
def parkVolt (park : Nat) : Int := (if bit park 3 then -1 else 1) * (2 * bits park 2 0 : Nat)

/-- Physical row of a logical row (R26). -/
def Tile.rowOf (t : Tile) (row : Nat) : Nat := tget row t.rowRepair row

/-- The logical row that the row map routes to a physical row (R87). -/
def Tile.rowAt (t : Tile) (phys : Nat) : Option Nat :=
  match t.rowRepair.find? fun e => e.2 = phys with
  | some e => some e.1
  | none => if phys < 512 ∧ t.rowOf phys = phys then some phys else none

/-- A row held at the park code: it tripped its limit, or it is mapped to no logical row (R87, R88, R92). -/
def Tile.rowParked (t : Tile) (phys : Nat) : Bool := t.parked.contains phys || (t.rowAt phys).isNone

/-- The voltage of a physical row while its tile drives logical rows with `level` (R87, R88). -/
def Tile.rowVolt (t : Tile) (park : Nat) (level : Nat → Int) (phys : Nat) : Int :=
  if t.parked.contains phys then parkVolt park
  else match t.rowAt phys with
    | some r => level r
    | none => parkVolt park

/-- The levels of an applied input: logical row r carries entry r of the active register (R85, R87). -/
def Tile.activeLevel (t : Tile) (span : Nat) (signed : Bool) (r : Nat) : Int := inputVolt span signed (lget 0 t.active r)

/-! ### Column currents and raw codes (R80, R96 to R98) -/

/-- The charge of every column slot (R80): Σ V_r × ΔG_rc over the physical rows, in 1/5,100 V × 1/16 nS. -/
def Tile.charges (t : Tile) (volt : Nat → Int) : Table Int :=
  t.cells.foldl (fun acc e =>
    let v := volt (e.1 / 528)
    if v = 0 then acc else tupd 0 acc (e.1 % 528) fun q => q + v * e.2.delta) []

/-- What a mapped row puts into the sum of R80: a physical row mapped to no logical row carries no input. -/
def Tile.summed (t : Tile) (park : Nat) (level : Nat → Int) (phys : Nat) : Int :=
  if (t.rowAt phys).isSome then t.rowVolt park level phys else 0

/-- A quotient rounded to nearest, ties away from zero. -/
def rnaDiv (n : Int) (d : Nat) : Int := n.sign * (((2 * n.natAbs + d) / (2 * d) : Nat) : Int)

/-- The raw code of a charge (R96 to R98): 512 at zero charge, 2^(8 + RANGE) product units a code whatever the span, the
ends 0 and 1,023. `err` is the analogue error of the conversion, in 1/256 code. (DESIGN CHOICE, assumption log 25.) -/
def rawCode (span range : Nat) (charge err : Int) : Nat :=
  let den := spanStep span * unitDelta * 2 ^ (8 + range)
  (clampI 0 1023 (512 + rnaDiv (256 * charge + err * den) (256 * den))).toNat

/-- The raw codes of the 528 column slots. -/
def rawCodes (span range : Nat) (charge : Table Int) (errs : List Int) : List Nat :=
  (List.range 528).map fun s => rawCode span range (tget 0 charge s) (lget 0 errs s)

/-! ### The row current limit (R91) -/

/-- A row whose current the limiter held: the current it called for, and the ticks in a row at the clamp. -/
def Tile.trips (t : Tile) (o : RowOver) : Bool :=
  decide (o.row < 516) && decide (1000 * (6 + t.ilim) ≤ o.microamps) && decide (t.tripTicks ≤ o.ticks)

/-! ### Dressing one weight (R117, R119) -/

/-- A pulse of the dressing: a SET of a rising amplitude, or a RESET. -/
inductive Pulse where
  | set (cell n : Nat)
  | reset (cell : Nat)
  deriving DecidableEq, Repr

/-- Cells of a weight by number: G⁺maj, G⁻maj, G⁺min, G⁻min. -/
def Cells.set (c : Cells) (cell g : Nat) : Cells :=
  if cell = 0 then { c with majP := g }
  else if cell = 1 then { c with majM := g }
  else if cell = 2 then { c with minP := g }
  else { c with minM := g }

/-- The dressing of one weight under way: its cells as read, the conductances that the pulses to come leave (projected to the
target time, R119), and the pulses given. -/
structure DressRun where
  cells : Cells
  reads : List Nat
  pulses : List Pulse
  deriving DecidableEq, Repr

/-- One pulse: the cell pulsed takes the next conductance read, held within its limits; where none is given, the one asked
for. -/
def DressRun.pulse (s : DressRun) (p : Pulse) (asked : Nat) : DressRun :=
  let g := s.reads.head?.getD asked
  let cells := match p with
    | .set cell _ => s.cells.set cell (heldCell g)
    | .reset cell => s.cells.set cell (floorCell g)
  { cells := cells, reads := s.reads.drop 1, pulses := s.pulses ++ [p] }

/-- The major pair: at most 24 iterations until it is within 0.6 µS of the goal (1/16 nS); an overshoot starts the cell
again. -/
def dressMajor (goal : Int) : Nat → Nat → DressRun → DressRun
  | 0, _, s => s
  | fuel + 1, n, s =>
    let err := goal - 16 * s.cells.major
    let cell := if 0 < goal then 0 else 1
    if goal = 0 ∨ err.natAbs ≤ 9600 then s
    else if 0 < err * goal.sign then
      dressMajor goal fuel (n + 1) (s.pulse (.set cell n) (cellMin + goal.natAbs / 16))
    else dressMajor goal fuel (n + 1) (s.pulse (.reset cell) cellMin)

/-- The minor pair: at most 8 iterations until ΔG is within 0.02 µS of the goal; `up` is the sign of the residual it takes
up. -/
def dressMinor (goal : Int) (up : Bool) : Nat → Nat → DressRun → DressRun
  | 0, _, s => s
  | fuel + 1, n, s =>
    let err := goal - s.cells.delta
    let cell := if up then 2 else 3
    if err.natAbs ≤ 320 then s
    else if decide (0 < err) == up then
      dressMinor goal up fuel (n + 1) (s.pulse (.set cell n) (cellMin + (goal - 16 * s.cells.major).natAbs))
    else dressMinor goal up fuel (n + 1) (s.pulse (.reset cell) cellMin)

/-- dress_weight of R119 for a target code in 1/16: the cells it leaves, the pulses it gave, and whether it answers DONE. -/
def dressWeight (code16 : Int) (reads : List Nat) : DressRun × Bool :=
  let goal := goalOf code16
  let s := dressMajor goal 24 0 { cells := .floor, reads := reads, pulses := [.reset 0, .reset 1, .reset 2, .reset 3] }
  let r := goal - 16 * s.cells.major
  if 24000 < r.natAbs then (s, false)
  else
    let s := dressMinor goal (decide (0 < r)) 8 0 s
    (s, decide ((goal - s.cells.delta).natAbs ≤ 320))

end Sys2Proof.Machine
end

