-- ==== Sys2Proof/Machine/Tone.lean ====
section
/-! DEFINITION. The calibration tone generator (R107 to R109) and access to the tile window (R22, R113). -/
namespace Sys2Proof.Machine

/-- Entries 0 to 31 of the first quarter of the ROM. -/
def sineRom0 : List Nat :=
  [0, 201, 402, 603, 804, 1005, 1206, 1407, 1608, 1809, 2009, 2210,
   2410, 2611, 2811, 3012, 3212, 3412, 3612, 3811, 4011, 4210, 4410, 4609,
   4808, 5007, 5205, 5404, 5602, 5800, 5998, 6195]

/-- Entries 32 to 63 of the first quarter of the ROM. -/
def sineRom1 : List Nat :=
  [6393, 6590, 6786, 6983, 7179, 7375, 7571, 7767, 7962, 8157, 8351, 8545,
   8739, 8933, 9126, 9319, 9512, 9704, 9896, 10087, 10278, 10469, 10659, 10849,
   11039, 11228, 11417, 11605, 11793, 11980, 12167, 12353]

/-- Entries 64 to 95 of the first quarter of the ROM. -/
def sineRom2 : List Nat :=
  [12539, 12725, 12910, 13094, 13279, 13462, 13645, 13828, 14010, 14191, 14372, 14553,
   14732, 14912, 15090, 15269, 15446, 15623, 15800, 15976, 16151, 16325, 16499, 16673,
   16846, 17018, 17189, 17360, 17530, 17700, 17869, 18037]

/-- Entries 96 to 127 of the first quarter of the ROM. -/
def sineRom3 : List Nat :=
  [18204, 18371, 18537, 18703, 18868, 19032, 19195, 19357, 19519, 19680, 19841, 20000,
   20159, 20317, 20475, 20631, 20787, 20942, 21096, 21250, 21403, 21554, 21705, 21856,
   22005, 22154, 22301, 22448, 22594, 22739, 22884, 23027]

/-- Entries 128 to 159 of the first quarter of the ROM. -/
def sineRom4 : List Nat :=
  [23170, 23311, 23452, 23592, 23731, 23870, 24007, 24143, 24279, 24413, 24547, 24680,
   24811, 24942, 25072, 25201, 25329, 25456, 25582, 25708, 25832, 25955, 26077, 26198,
   26319, 26438, 26556, 26674, 26790, 26905, 27019, 27133]

/-- Entries 160 to 191 of the first quarter of the ROM. -/
def sineRom5 : List Nat :=
  [27245, 27356, 27466, 27575, 27683, 27790, 27896, 28001, 28105, 28208, 28310, 28411,
   28510, 28609, 28706, 28803, 28898, 28992, 29085, 29177, 29268, 29358, 29447, 29534,
   29621, 29706, 29791, 29874, 29956, 30037, 30117, 30195]

/-- Entries 192 to 223 of the first quarter of the ROM. -/
def sineRom6 : List Nat :=
  [30273, 30349, 30424, 30498, 30571, 30643, 30714, 30783, 30852, 30919, 30985, 31050,
   31113, 31176, 31237, 31297, 31356, 31414, 31470, 31526, 31580, 31633, 31685, 31736,
   31785, 31833, 31880, 31926, 31971, 32014, 32057, 32098]

/-- Entries 224 to 255 of the first quarter of the ROM. -/
def sineRom7 : List Nat :=
  [32137, 32176, 32213, 32250, 32285, 32318, 32351, 32382, 32412, 32441, 32469, 32495,
   32521, 32545, 32567, 32589, 32609, 32628, 32646, 32663, 32678, 32692, 32705, 32717,
   32728, 32737, 32745, 32752, 32757, 32761, 32765, 32766]

/-- Entries 256 to 256 of the first quarter of the ROM. -/
def sineRom8 : List Nat :=
  [32767]

/-- The first quarter of the sine ROM: entries 0 to 256. -/
def sineQuarter : List Nat :=
  sineRom0 ++ sineRom1 ++ sineRom2 ++ sineRom3 ++ sineRom4 ++ sineRom5 ++ sineRom6 ++ sineRom7 ++ sineRom8

/-- Entry `i` of the 1,024-entry sine ROM (R107): round(32,767 × sin(2π i / 1,024)). -/
def sineRom (i : Nat) : Int :=
  let j := i % 1024
  if j ≤ 256 then (lget 0 sineQuarter j : Nat)
  else if j ≤ 512 then (lget 0 sineQuarter (512 - j) : Nat)
  else if j ≤ 768 then -((lget 0 sineQuarter (j - 512) : Nat) : Int)
  else -((lget 0 sineQuarter (1024 - j) : Nat) : Int)

/-- The ladder value of selected row `n` before its clamp, at a phase (R107). -/
def Tone.level (t : Tone) (phase n : Nat) : Int :=
  t.offs + rna (((t.amp : Int) * sineRom (bits ((phase + n * t.stagger) % 2 ^ 32) 31 22) : Int) / 32767 : Rat)

/-- The ladder value that drives the row (R107). -/
def Tone.drive (t : Tone) (phase n : Nat) : Int := clampI (-255) 255 (t.level phase n)

/-- Streams bound to a logical tile. -/
def Device.boundTo (d : Device) (lt : Nat) : List Nat :=
  d.liveStreams.filter fun s => (d.stream s).tiles.any fun t => t.1 = lt

/-- What is left now of a slot of `len` µs that begins at TC 0 of every frame whose FRAME mod `div` is `phase`, in 1/100 Tc
(R325). -/
def Device.slotLeft (d : Device) (len div phase : Nat) : Nat :=
  let f := d.clk.frame
  if div ≤ phase ∨ f < phase then 0
  else len * 196608 - (d.clk.now - (f - (f - phase) % div) * tcPerFrame) * 100

/-- A tile bound to no stream is granted to the die manager now, as UNBOUND_DARK sets (R325). -/
def Device.unboundGrant (d : Device) : Bool :=
  decide (d.adm.unboundLen = 0) || decide (0 < d.slotLeft d.adm.unboundLen d.adm.unboundPeriod 0)

/-- What is left now of a region's dark slot, in 1/100 Tc (R325). -/
def Device.regionDarkLeft (d : Device) (r : Nat) : Nat :=
  let (len, div, phase) := tget (0, 0, 0) d.adm.dark r
  d.slotLeft len div phase

/-- A physical tile serves no logical tile that a stream binds. -/
def Device.tileUnbound (d : Device) (p : Nat) : Bool :=
  match d.logicalOf p with | some l => decide (d.boundTo l = []) | none => true

/-- The tile or its region is in a dark slot granted to the die manager, or its region is yielded to a test (R22,
R251, R325). -/
def Device.dark (d : Device) (p : Nat) : Bool :=
  d.adm.darkNow.contains (unitRegion (ptRegion p)) || d.adm.darkNow.contains (unitPt p)
    || (match d.logicalOf p with | some l => d.adm.darkNow.contains (unitLt l) | none => false)
    || (d.region (ptRegion p)).running ≠ none || (d.unboundGrant && d.tileUnbound p)

/-- The die manager may write the tile and trim windows of a physical tile (R22, R113). -/
def Device.tileOpen (d : Device) (p : Nat) : Bool :=
  (d.region (ptRegion p)).regs.st = .quarantined || (d.region (ptRegion p)).regs.st = .halted || d.dark p

/-- The die manager's access to a tile lasts at least `us` µs more (R22, R125): quarantine, halt, a granted dark slot. -/
def Device.accessLasts (d : Device) (p us : Nat) : Bool :=
  let r := ptRegion p
  (d.region r).regs.st = .quarantined || (d.region r).regs.st = .halted ||
    (d.adm.darkNow.contains (unitRegion r) && decide (us * 196608 ≤ d.regionDarkLeft r)) ||
    (d.tileUnbound p && (decide (d.adm.unboundLen = 0) ||
      decide (us * 196608 ≤ d.slotLeft d.adm.unboundLen d.adm.unboundPeriod 0)))

/-- A write in the tile window: the die's state, the form checks of the write, then the tile's state (R113, R579). -/
def Device.tileWrite (d : Device) (who p : Nat) (need_ : Role) (form : Device → Nat) (op : Device → Nat × Device) : Device :=
  d.dieWrite who (ptDie p) need_ fun d =>
    if form d ≠ stOK then (form d, d)
    else if ¬ d.tileOpen p then (stWrongState, d)
    else op d

/-- A tile tick is 1.5625 ns (R101): ticks in whole Tc, rounded up. -/
def tickTc (ticks : Nat) : Nat := ceilDiv (ticks * 3072) 1000

/-- 64 ticks have passed since the tile's last apply strobe (R102). -/
def Device.strobeFree (d : Device) (p : Nat) : Bool :=
  match (d.tile p).strobeAt with
  | some t => decide (t + tickTc 64 ≤ d.clk.now)
  | none => true

/-- STATE of TILE_STATUS now: from tick 24 after its strobe a tile is at rest (R88, R114). -/
def Device.tileState (d : Device) (p : Nat) : TileSt :=
  match (d.tile p).st, (d.tile p).strobeAt with
  | .applying, some t => if t + tickTc 24 ≤ d.clk.now then .idle else .applying
  | st, _ => st

/-- A write of a staged register reaches the tile (R115): offset of the block and value. (DEDUCED, assumption log 62.) -/
def Tile.takeStaged (t : Tile) (off v : Nat) : Tile :=
  if off = 0x008 then { t with ilim := bits v 3 0, tripTicks := bits v 6 4 }
  else if off = 0x100 then { t with tone := { t.tone with span := bits v 3 2, range := bits v 6 4 } }
  else if off = 0x104 then { t with tone := { t.tone with ftw := v } }
  else if off = 0x108 then { t with tone := { t.tone with phase0 := v } }
  else if off = 0x10C then { t with tone := { t.tone with stagger := v } }
  else if off = 0x110 then { t with tone := { t.tone with amp := bits v 7 0, offs := sx 9 (bits v 24 16) } }
  else if off = 0x114 then { t with tone := { t.tone with first := bits v 9 0, count := bits v 25 16 } }
  else if off = 0x118 then { t with tone := { t.tone with n := bits v 23 0 } }
  else if off = 0x11C then { t with tone := { t.tone with histSlot := bits v 9 0, histAdc := bits v 16 16 } }
  else if 0x200 ≤ off ∧ off ≤ 0x40C then
    let e : AdcTrim := { offs := sx 7 (bits v 6 0), gain := sx 8 (bits v 15 8), skew := sx 6 (bits v 21 16) }
    { t with adcTrim := tset t.adcTrim ((off - 0x200) / 4) e }
  else t

/-- Writes waiting for the next apply strobe take effect (R115). -/
def Tile.settleStaged (t : Tile) : Tile :=
  { (t.staged.foldl (fun t w => t.takeStaged w.1 w.2) t) with staged := [] }

/-- A run starts (R107, R108). -/
def Tile.startTone (t : Tile) : Tile :=
  let t := t.settleStaged
  { t with st := .tone, tone := { t.tone with running := true, phase := t.tone.phase0, left := t.tone.n } }

/-- The physical row is selected for the tone (R107, R114). -/
def Tone.selected (t : Tone) (phys : Nat) : Bool := decide (t.first ≤ phys) && decide (phys < t.first + t.count)

/-- The voltages of a tone strobe (R87, R92, R108): the latched value on a selected row, the park code on a tripped one, rest on
the others. -/
def Tile.toneVolt (t : Tile) (park phys : Nat) : Int :=
  if (t.rowAt phys).isNone then 0
  else if t.parked.contains phys then parkVolt park
  else if t.tone.selected phys then
    let v := lget 0 t.tone.levels (phys - t.tone.first)
    ladderVolt t.tone.span (decide (v < 0)) v.natAbs
  else 0

/-- The ADC of a slot's pair that converts it on a tone strobe: the one HIST_SEL names for its slot, the pair's turn for the
others (R97, R108). -/
def Tile.toneAdc (t : Tile) (slot : Nat) : Nat :=
  if slot = t.tone.histSlot then t.tone.histAdc else (slot + t.mvmNo) % 2

/-- One strobe of a run (R108): the selected rows' levels are latched with their clamps counted, every slot is converted, and
the raw code of the slot that HIST_SEL names goes to its bin. The error of slot s on ADC a of its pair is entry 2s + a. A tone
strobe counts as an MVM in the numbering of R95 and leaves TILE_CFG as it is. (DESIGN CHOICE, assumption log 25, DESIGN CHOICE,
assumption log 99.) -/
def Tile.toneStrobe (t : Tile) (park now : Nat) (errs : List Int) : Tile :=
  if t.tone.running ∧ 0 < t.tone.left then
    let t := t.settleStaged
    let rows := List.range t.tone.count
    let t := { t with tone := { t.tone with levels := rows.map fun n => t.tone.drive t.tone.phase n } }
    let beyond := (rows.filter fun n => decide (255 < (t.tone.level t.tone.phase n).natAbs)).length
    let charge := t.charges (t.toneVolt park)
    let codes := (List.range 528).map fun s =>
      rawCode t.tone.span t.tone.range (tget 0 charge s) (lget 0 errs (2 * s + t.toneAdc s))
    let clips := (codes.filter fun c => c = 0 || c = 1023).length
    let bin := lget 512 codes t.tone.histSlot
    { t with toneClipCount := satAdd t.toneClipCount beyond, toneClipF := t.toneClipF || beyond ≠ 0, mvmNo := t.mvmNo + 1,
             strobeAt := some now, adcClipCount := satAdd t.adcClipCount clips, adcClipF := t.adcClipF || clips ≠ 0,
             tone := { t.tone with phase := (t.tone.phase + 64 * t.tone.ftw) % 2 ^ 32, left := t.tone.left - 1,
                                   hist := tset t.tone.hist bin (min (tget 0 t.tone.hist bin + 1) 65535) } }
  else t

/-- TONE_CTRL_START (R108): refused with BUSY while a run is in progress. -/
def execToneCtrlStart (who pt : Nat) (s : State) : Host.Outcome State Fault Refusal :=
  .next (s.upd fun d => d.tileWrite who pt .maintainer (fun _ => stOK) fun d =>
    if (d.tile pt).tone.running then (stBusy, d) else (stOK, d.updTile pt Tile.startTone))

/-- TONE_CTRL_STOP (R109). -/
def execToneCtrlStop (who pt : Nat) (s : State) : Host.Outcome State Fault Refusal :=
  .next (s.upd fun d => d.tileWrite who pt .maintainer (fun _ => stOK) fun d => (stOK, d.updTile pt Tile.endTone))

/-- TONE_STROBE (R102, R108): at the 100 ns interval. (DESIGN CHOICE, assumption log 25.) -/
def execToneStrobe (pt : Nat) (errs : List Int) (s : State) : Host.Outcome State Fault Refusal :=
  .next (s.upd fun d =>
    if d.strobeFree pt then d.updTile pt fun t => t.toneStrobe (d.die (ptDie pt)).park d.clk.now errs else d)

/-- TONE_RUN_END (R109): after TONE_N strobes, or at the end of the dark slot. -/
def execToneRunEnd (pt : Nat) (s : State) : Host.Outcome State Fault Refusal :=
  .next (s.upd fun d => d.updTile pt Tile.endTone)

/-- HIST_SEL_CLEAR (R109, R114): every bin is zeroed. -/
def execHistSelClear (who pt : Nat) (s : State) : Host.Outcome State Fault Refusal :=
  .next (s.upd fun d => d.tileWrite who pt .maintainer (fun _ => stOK) fun d =>
    (stOK, d.updTile pt fun t => { t with tone := { t.tone with hist := [] } }))

end Sys2Proof.Machine
end

