-- ==== Sys2Proof/Machine/Tile.lean ====
section
/-! DEFINITION. The analogue tile (chapter 03): the apply strobe, conversion and trim, the conditions of the accuracy
classes, row trips, the reset of a tile. -/
namespace Sys2Proof.Machine

/-! ### Conversion and trim (R97 to R105) -/

/-- Column slots of a physical tile. -/
abbrev slotCount : Nat := 528

/-- Physical slot of a logical column: weight columns 0-511, CK0 and CK1 at 512 and 513, FS0-FS7 from 514 (R26). -/
def Tile.slotOf (t : Tile) (col : Nat) : Nat := tget col t.colRepair col

/-- Index of the ADC that converts a slot of an MVM (R97): pair j, ADC by the parity of the position sampled. -/
def adcIndex (slot no : Nat) : Nat := 2 * (slot / 8) + (slot + no) % 2

/-- The mismatch-trimmed code in quarter steps (R99). -/
def adcQuarter (a : AdcTrim) (code : Nat) : Int :=
  rna (((16 * ((code : Int) - 512) - a.offs) * (4096 + a.gain) : Int) / 16384 : Rat)

/-- The tile drift factor as a numerator over 2^39 (R129). -/
def Sight.kappaT (s : Sight) (temp : Int) : Int := (s.kappa : Int) * (2 ^ 24 + s.ktemp * (temp - s.tk))

/-- `u_c` of R411 as a numerator over 2^56. -/
def trimU (range : Nat) (kappaT : Int) (e : TrimEntry) (quarter : Int) : Int :=
  (2 ^ range : Nat) * (65536 + e.gain) * kappaT * (64 * quarter - e.offset)

/-- 2^56, the denominator of `u_c`. -/
abbrev uDen : Nat := 72057594037927936

/-- The trimmed output before its saturation (R103, R105). -/
def trimY (u zp2 colsum : Int) : Int := rna ((u : Rat) / uDen - (zp2 * colsum : Int) / 2)

/-- The 24-bit limits (R105). -/
def y24 (y : Int) : Int := clampI (-8388608) 8388607 y

/-- A raw code that clips (R98). -/
def clipCode (code : Nat) : Bool := code = 0 || code = 1023

/-- What the trim stage gives for one conversion of every slot in use (R102 to R105). -/
structure Converted where
  u : Table Int
  ys : Table Int
  /-- Slots whose raw code clipped, and slots whose output saturated. -/
  clips : List Nat
  sats : List Nat
  /-- How many of the 528 slots converted to a raw code at an end (R98). -/
  ends : Nat

/-- Convert the raw codes of every slot in use with a set of trims. -/
def convert (no range : Nat) (kappaT zp2 : Int) (trims : Table TrimEntry) (adc : Table AdcTrim) (codes : List Nat) :
    Converted :=
  let used := trims.filter fun e => e.2.role ≠ 0
  let us := used.map fun e =>
    (e.1, trimU range kappaT e.2 (adcQuarter (tget .reset adc (adcIndex e.1 no)) (lget 512 codes e.1 % 1024)))
  let raw := used.map fun e => (e.1, trimY (tget 0 us e.1) zp2 e.2.colsum)
  { u := us, ys := raw.map fun e => (e.1, y24 e.2),
    clips := (used.filter fun e => clipCode (lget 512 codes e.1 % 1024)).map fun e => e.1,
    ends := (codes.filter clipCode).length,
    sats := (raw.filter fun e => y24 e.2 ≠ e.2).map fun e => e.1 }

/-- Count the clips and saturations of a conversion (R98, R105). -/
def Tile.countConverted (t : Tile) (k : Converted) : Tile :=
  { t with adcClipCount := satAdd t.adcClipCount k.ends, adcClipF := t.adcClipF || k.ends ≠ 0,
           trimSatCount := satAdd t.trimSatCount k.sats.length, trimSatF := t.trimSatF || !k.sats.isEmpty }

/-! ### Conditions of the accuracy classes (R111, R112) -/

/-- A trim of an entry is at its range limit, or in its near zone (R150). (DEDUCED, assumption log 62.) -/
def trimEdge (v : Int) : Bool := v = -8192 || v = 8191
def gainNear (v : Int) : Bool := 6554 ≤ v.natAbs
def offsetNear (v : Int) : Bool := 6144 ≤ v.natAbs
def TrimEntry.edge (e : TrimEntry) : Bool := trimEdge e.gain || trimEdge e.offset
def TrimEntry.near (e : TrimEntry) : Bool := gainNear e.gain || offsetNear e.offset

/-- A trim of the entry enters the edge, or its near zone, with a change from `old` (R145, R152). -/
def TrimEntry.entersEdge (e old : TrimEntry) : Bool :=
  (trimEdge e.gain && !trimEdge old.gain) || (trimEdge e.offset && !trimEdge old.offset)
def TrimEntry.entersNear (e old : TrimEntry) : Bool :=
  (gainNear e.gain && !gainNear old.gain) || (offsetNear e.offset && !offsetNear old.offset)
def Sight.kappaEdge (s : Sight) : Bool := s.kappa = 24576 || s.kappa = 40960
def Sight.kappaNear (s : Sight) : Bool := s.kappa ≤ 26214 || 39322 ≤ s.kappa

/-- Every trim of a tile's entries in use lies off its edge (R111). -/
def Tile.trimsOk (t : Tile) : Bool := !t.sight.kappaEdge && t.trims.all fun e => e.2.role = 0 || !e.2.edge

/-- Seconds of real time since a tile was dressed reach a count; a tile found dressed at start counts as longer ago. -/
def Device.dressedFor (d : Device) (p seconds : Nat) : Bool :=
  match (d.tile p).dress.dressedAt with
  | none => true
  | some t => decide (t + msTc (1000 * seconds) ≤ d.real)

/-- Every condition of a class holds on a physical tile (R111): class 0 A8, 1 A7, 2 A6; R99 and R100 are met unless the tile's
last linearity test failed. (DESIGN CHOICE, assumption log 94.)
-/
def Device.classOk (d : Device) (cls p span : Nat) : Bool :=
  let t := d.tile p
  let temp := d.dieTemp (ptDie p)
  let lo : Int := if cls = 0 then 320 else 0
  let hi : Int := if cls = 0 then 1360 else if cls = 1 then 1520 else 1680
  let change : Nat := if cls = 0 then 48 else if cls = 1 then 128 else 240
  let period : Nat := if cls = 0 then 1000000 else if cls = 1 then 10000000 else 60000000
  let age : Nat := if cls = 0 then 10 else if cls = 1 then 1 else 0
  (cls ≠ 0 || 1 ≤ span) && lo ≤ temp && temp ≤ hi && (temp - t.sight.loopTemp).natAbs ≤ change
    && t.sight.loopPeriod ≤ period && d.dressedFor p age && 1 ≤ t.sight.loops && t.trimsOk && !t.adcBad

/-! ### The apply strobe (R84 to R86, R95, R115, R297) -/

/-- The output tokens of MVMs that a cancelled burst leaves are unspecified (R302): free bytes; an MVM of TILE.LOAD and a twin's
have none. (DESIGN CHOICE, assumption log 17.) -/
def Device.spoilTokens (d : Device) (b : Burst) : Device :=
  if b.hold || b.twin then d
  else b.tokens.foldl (fun d k =>
    forEach (List.range (b.outs * elemBytes b.fmt)) (fun i d =>
      let (v, d) := takeFree 8 d
      d.updRegion b.region fun g => { g with scratch := memWrite g.scratch (offsetOf k.dst + i) [BitVec.ofNat 8 v] }) d) d

/-- The sequencer fills the shadow register with the next token of the tile's first burst (R85). -/
def Tile.fillShadow (t : Tile) : Tile :=
  match t.bursts.head?.bind fun b => b.tokens.head? with
  | some k => { t with shadow := (k.codes ++ List.replicate 512 0).take 512 }
  | none => t

/-- The burst at the head of a tile is cancelled with a late trap in the region that issued it (R256, R302). -/
def Device.cancelBurst (d : Device) (p : Nat) (b : Burst) (code : Nat) : Device :=
  let d := (d.updTile p fun t => { t with bursts := t.bursts.drop 1, pmAcc := false }.fillShadow).spoilTokens b
  d.lateTrap b.region
    { code := code, slotClass := clT, late := true, swCode := 0, info := unitLt b.logical, faultPc := b.pc }

/-- One MVM counts towards EVERY: the EVERY-th sets its apply trigger SIGHT_DELAY ticks after its tick 24 (R136). -/
def Sight.countMvm (s : Sight) (now : Nat) : Sight :=
  if s.every ≤ s.sinceTrig + 1 then
    { s with sinceTrig := 0, trigAt := if s.trig = 2 then s.trigAt ++ [now + tickTc (24 + s.delay % 65536)] else s.trigAt }
  else { s with sinceTrig := s.sinceTrig + 1 }

/-- One MVM of a burst is applied (R80, R85, R87): the shadow register is copied to the active register, every setting of the MVM
is taken, the columns gather their charges, and the shadow register takes the next token. A PARKED tile is configured by its
first applied strobe. (DESIGN CHOICE, assumption log 99.) -/
def Device.applyToken (d : Device) (p : Nat) (b : Burst) (k : BurstToken) : Device :=
  let temp := d.dieTemp (ptDie p)
  let park := (d.die (ptDie p)).park
  d.updTile p fun t =>
    let t := t.settleStaged
    let t := { t with active := t.shadow }
    let rest := b.tokens.drop 1
    let clamps := if b.signed then (k.codes.filter fun x => x = -128).length else 0
    let m : Mvm :=
      { no := t.mvmNo, stream := b.stream, region := b.region, logical := b.logical, cls := b.cls, range := b.range,
        zp2 := if b.signed then 2 * zpOf fS8 (rZp k.record) else zpOf fU8 (rZp k.record), outs := b.outs,
        dst := k.dst, recd := k.recd, hold := b.hold, fmt := b.fmt, qset := b.qset, recIn := k.record, bad := k.bad,
        pm := b.pm, pmAt := b.pmAt, doneAt := b.pmAt - 125 * rest.length, last := rest.isEmpty, slot := b.slot, pc := b.pc, pair := b.pair, twin := b.twin,
        at_ := d.clk.now,
        forced := t.tripFail || t.check.health = .withdrawn || t.trims.any (fun e => e.2.role ≠ 0 && e.2.bad),
        kappaT := t.sight.kappaT temp, trims := t.trims, adc := t.adcTrim, scales := d.scalesOf b.logical, span := b.span, signed := b.signed,
        charge := t.charges (t.summed park (t.activeLevel b.span b.signed)),
        u := [], clips := [], ys := [], complete := false, judged := none }
    Tile.fillShadow
      { t with span := b.span, inmode := b2n b.signed, range := b.range, parity := t.mvmNo % 2, st := .applying,
               strobeAt := some d.clk.now, mvmNo := t.mvmNo + 1, flight := t.flight ++ [m],
               bursts := if rest.isEmpty then t.bursts.drop 1 else { b with tokens := rest, at_ := none } :: t.bursts.drop 1,
               clamp128Count := satAdd t.clamp128Count clamps, clamp128F := t.clamp128F || clamps ≠ 0,
               sight := t.sight.countMvm d.clk.now }

/-- The tile lies in a sighting interval: 64 ticks from its start (R133, R306). -/
def Device.inInterval (d : Device) (p : Nat) : Bool :=
  (d.tile p).sight.intervals.any fun t => d.came t && decide (d.clk.now < t + tickTc 64)

/-- The next strobe of a tile may take place: 64 ticks after the last one, not before the first of its burst is due, and, unless
it is timed, in no sighting interval (R102, R133, R297, R303). -/
def Device.strobeDue (d : Device) (p : Nat) (b : Burst) : Bool :=
  d.strobeFree p && (b.at_.isSome || (d.came b.due && !d.inInterval p))

/-- The sighting intervals that have not ended. -/
def Sight.openIntervals (s : Sight) (now : Nat) : List Nat := s.intervals.filter fun t => decide (now < t + tickTc 64)

/-- A timed strobe in a sighting interval leaves it no idle tick (R303). -/
def Sight.endInterval (s : Sight) (now : Nat) : Sight :=
  { s with intervals := s.intervals.filter fun t => decide (now < t) || decide (t + tickTc 64 ≤ now) }

/-- What the apply strobe does (R85, R86, R302). -/
def Device.strobe (d : Device) (p : Nat) (b : Burst) (k : BurstToken) (shadowReady : Bool) : Device :=
  let d := d.updTile p fun t => { t with sight := t.sight.endInterval d.clk.now }
  if !shadowReady then
    (d.updTile p fun t => { t with shadowLateCount := satInc t.shadowLateCount, shadowLateF := true }).cancelBurst p b
      trTileState
  else if (d.tile p).check.health = .faulty then d.cancelBurst p b trTileState
  else if k.bad then d.cancelBurst p b trQset
  else d.applyToken p b k

/-- The apply strobe of a tile (R54, R85, R86, R102, R302): a timed strobe that its 64 ticks have delayed is late (R55). -/
def Device.applyStrobe (d : Device) (p : Nat) (shadowReady : Bool) : Device :=
  match (d.tile p).bursts with
  | [] => d
  | b :: _ =>
    match b.tokens with
    | [] => d.updTile p fun t => { t with bursts := t.bursts.drop 1 }.fillShadow
    | k :: _ =>
      if d.strobeDue p b then
        d.event (b.at_.getD d.clk.now) (d.tileUnitL p) (unitPt p) ordStrobe b.stream fun d => d.strobe p b k shadowReady
      else d

/-! ### Outputs (R102, R178, R179, R188, R300, R301) -/

/-- Write one output token, its record and its statistics; answers the device and MISFIT. `marks` are the columns
that count as saturated (R179), `ys` the trimmed outputs by column, `scales` the rescale entries of the strobe (R182). -/
def Device.outputToken (d : Device) (r fmt q dst recd outs recIn : Nat) (scales : Table Nat) (signed : Bool) (ys : List Int)
    (marks : List Nat) (condition : Bool) : Device × Bool :=
  let m := if signed then 1 else 2
  let sx_ := f32 (rScale recIn)
  let cols := List.range outs
  let els := cols.map fun c => if rZr recIn then (0, false) else outElem fmt m sx_ (f32 (tget 0x00800000 scales c)) (lget 0 ys c)
  let satn := (marks.filter fun c => decide (c < outs)).length
  let full := (cols.filter fun c => (lget (0, false) els c).2 || marks.contains c).length
  let bySat := decide (qSatThr q * outs < satn * 256)
  let misfit := rMisfit recIn || bySat || condition
  let bytes := els.flatMap fun e => leBytes (elemBytes fmt) e.1
  let rec_ := leBytes 8 (outRecord fmt m recIn satn misfit)
  let d := d.updRegion r fun g => { g with scratch := memWrite (memWrite g.scratch (offsetOf dst) bytes) recd rec_ }
  let d := d.stat r (qStat q) fun s =>
    let s := s.convert outs full 0 0 0
    if misfit then s.misfit ((recd - qRecBase q) / 8) (b2n bySat) else s
  (d, misfit)

/-- The columns of an MVM that count as saturated: clipped or saturated, and not check-failed by themselves (R179). -/
def Tile.marks (t : Tile) (forcedAll : Bool) (trims : Table TrimEntry) (k : Converted) : List Nat :=
  if forcedAll then []
  else (List.range 512).filter fun c =>
    let s := t.slotOf c
    (k.clips.contains s || k.sats.contains s) && !(tget .reset trims s).bad

/-- Bytes that an MVM has to write: its output token and that token's record (R294). -/
def Mvm.writes (m : Mvm) : List (Nat × Nat) :=
  if m.hold || m.twin then [] else [(m.dst, m.dst + m.outs * elemBytes m.fmt), (m.recd, m.recd + 8)]

/-- A register result that a unit hands over after issue: visible on its cycle to the program that runs in its slot (R241). -/
def Device.lateWrite (d : Device) (r slot cycle : Nat) (t : RegTarget) (v : Nat) : Device :=
  d.updRegion r fun g =>
    if g.regs.slot = slot ∧ (g.regs.st = .running ∨ g.regs.st = .yielded) then
      { g with pend := g.pend ++ [{ cycle := max cycle d.nowCycle, target := t, value := v }] }
    else { g with arch := tupd .reset g.arch slot fun b => b.apply t v }

/-- An MVM by number, among those in flight that have no outputs yet. -/
def Tile.waiting (t : Tile) (no : Nat) : Option Mvm := t.flight.find? fun m => m.no = no && !m.complete

/-- Replace an MVM in flight. -/
def Tile.setMvm (t : Tile) (m : Mvm) : Tile := { t with flight := t.flight.map fun x => if x.no = m.no then m else x }

/-- Trim entries of an MVM found uncorrectable as its outputs are trimmed mark their columns check-failed (R148): the verdict
is FAIL where a column in use is among them. -/
def Mvm.withBadTrims (m : Mvm) (slots : List Nat) : Mvm :=
  { m with trims := slots.foldl (fun l s => tupd TrimEntry.reset l s fun e => { e with bad := true }) m.trims,
           forced := m.forced || slots.any fun s => decide ((tget .reset m.trims s).role ≠ 0) }

/-- Each entry newly found uncorrectable is reported and makes its tile suspect; a second such error within an hour makes the
tile faulty (R148, R428, R429). -/
def Device.trimErrors (d : Device) (p : Nat) (slots : List Nat) : Device :=
  let new := slots.eraseDups.filter fun s => !(tget .reset (d.tile p).trims s).bad
  forEach new (fun s d =>
    let again := match (d.tile p).check.eccAt with
      | some t => decide (d.real < t + msTc 3600000)
      | none => false
    let d := d.updTile p fun t =>
      { t with trims := tupd TrimEntry.reset t.trims s fun e => { e with bad := true },
               check := { t.check with eccAt := some d.real } }
    if again then d.faultyTile p 0x06 s else d.suspectTile p 0x06 s) d

/-- The trimmed outputs of an MVM reach the cluster (R97 to R105): the raw codes of its charges with the conversions' analogue
errors, in 1/256 code by slot. (DESIGN CHOICE, assumption log 25.) -/
def Device.mvmOutputOf (d : Device) (p : Nat) (m : Mvm) (errs : List Int) : Device :=
  let t := d.tile p
  let k := convert m.no m.range m.kappaT m.zp2 m.trims m.adc (rawCodes m.span m.range m.charge errs)
  let m' := { m with u := k.u, ys := k.ys, clips := k.clips, complete := true }
  let ys := (List.range 512).map fun c => tget 0 k.ys (t.slotOf c)
  let marks := t.marks t.tripFail m.trims k
  let d := d.updTile p fun t => (t.setMvm m').countConverted k
  let d := d.updRegion m.region fun g => { g with busy := g.busy ++ m.writes.map fun w => (w.1, w.2, m.doneAt) }
  if m.twin then d
  else if m.hold then
    let h : Hold := { y := ys, clips := marks, ready := true, pass := !m.forced, record := m.recIn, scales := m.scales, signed := m.signed,
                      cond := !d.classOk m.cls p m.span, stream := m.stream }
    d.updCluster (ltCluster m.logical) fun c => { c with holds := tset c.holds (ltTile m.logical) h }
  else
    let (d, misfit) := d.outputToken m.region m.fmt m.qset m.dst m.recd m.outs m.recIn m.scales m.signed ys marks
      (!d.classOk m.cls p m.span)
    let pm := t.pmAcc || misfit
    if m.last then
      (d.updTile p fun t => { t with pmAcc := false }).lateWrite m.region m.slot m.pmAt (.p m.pm) (b2n pm)
    else d.updTile p fun t => { t with pmAcc := pm }

/-- The outputs of an MVM in flight, with the trim entries found uncorrectable on the way (R102, R148). -/
def Device.mvmOutput (d : Device) (p no : Nat) (errs : List Int) (badTrims : List Nat) : Device :=
  match (d.tile p).waiting no with
  | none => d
  | some m => (d.mvmOutputOf p (m.withBadTrims badTrims) errs).trimErrors p badTrims

/-! ### Row trips (R92 to R94) -/

/-- A physical tile serves a logical tile that a model holds (R94). -/
def Device.heldByModel (d : Device) (p : Nat) : Bool :=
  (d.logicalOf p).isSome && (d.tile p).dress.dressed && (d.tile p).logModel ≠ 0

/-- An unused spare physical row, and an unused spare column slot (R94, R120): one that no repair has taken and no trip has
parked. -/
def Tile.rowSpare (t : Tile) (x : Nat) : Bool := !t.spentRows.contains x && !(t.rowRepair.any fun e => e.2 = x) && !t.parked.contains x
def Tile.slotSpare (t : Tile) (x : Nat) : Bool := !t.spentSlots.contains x && !t.colRepair.any fun e => e.2 = x

/-- Unused spare physical rows. -/
def Tile.freeRows (t : Tile) : Nat := ((List.range 4).filter fun i => t.rowSpare (512 + i)).length

/-- Rows of a physical tile trip on one tick (R91 to R94): those that the limiter has held at its clamp for TRIP_TICKS. Each is
reported. -/
def Device.rowTrip (d : Device) (p : Nat) (held : List RowOver) : Device :=
  let rows := (held.filter fun o => (d.tile p).trips o).map fun o => o.row
  let fresh := (rows.filter fun x => !(d.tile p).parked.contains x).eraseDups
  if fresh = [] then d
  else
    let low := fresh.foldl min 515
    let d := d.updTile p fun t =>
      { t with parked := t.parked ++ fresh, rowTripF := true, rowTripCount := satAdd t.rowTripCount fresh.length,
               firstTrip := match t.firstTrip with | some x => some x | none => some low, tripFail := true,
               flight := t.flight.map fun m => if m.complete then m else { m with forced := true } }
    let d := forEach fresh (fun x d => d.faultTile p 0x05 0 x) d
    match d.logicalOf p with
    | some lt =>
      if d.heldByModel p ∨ (d.tile p).freeRows < (d.tile p).parked.length then d.queueRedress lt .substitution 0x05 else d
    | none => d

/-- TILE_CTRL.RESET (R37, R116): rows parked, MVMs in flight discarded, numbering and sighting table restarted; a dressing under
way leaves the tile undressed (R125), a tone run ends (R109). A hold of TILE.LOAD stands in the cluster's output stage and
stays. (DESIGN CHOICE, assumption log 99.) -/
def Device.resetTile (d : Device) (p : Nat) : Device :=
  d.updTile p fun t =>
    let t := t.endTone
    let t := if t.dress.st = .idle ∨ t.dress.st = .queued then t else t.undress
    { t with bursts := [], flight := [], shadow := [], active := [], st := .parked, strobeAt := none, mvmNo := 0, pmAcc := false,
             check := t.check.restart,
             sight := { t.sight with pos := 0, readsLeft := 0, sums := [], loopStart := none, sinceTrig := 0, trigAt := [],
                                     intervals := [], fires := [] } }

/-- A reset asked of one tile (R42, R116): inside a reset of its region or die it is discarded and counted. -/
def Device.tileReset (d : Device) (p : Nat) : Device :=
  if d.widerReset (ptDie p) ∨ (d.region (ptRegion p)).resetAsked then d.discardReset else d.resetTile p

/-- ROW_TRIP (R91 to R94). (DESIGN CHOICE, assumption log 25.) -/
def execRowTrip (pt : Nat) (rows : List RowOver) (s : State) : Host.Outcome State Fault Refusal :=
  .next (s.upd fun d => d.rowTrip pt rows)

/-- TILE_CTRL_RESET (R116). -/
def execTileCtrlReset (who pt : Nat) (s : State) : Host.Outcome State Fault Refusal :=
  .next (s.upd fun d => d.tileWrite who pt .maintainer (fun _ => stOK) fun d => (stOK, d.tileReset pt))

end Sys2Proof.Machine
end

