-- ==== Sys2Proof/Machine/Sight.lean ====
section
/-! DEFINITION. Sighting (R131 to R151): triggers, reads, the window comparators and the updates of the trims. -/
namespace Sys2Proof.Machine

/-- Fields of a table entry (R135). -/
def seSlot (v : Nat) : Nat := bits v 9 0
def seLevel (v : Nat) : Bool := bit v 10
def seReads (v : Nat) : Nat := bits v 15 12 + 1
def seSettle (v : Nat) : Nat := bits v 23 16
def seWin (v : Nat) : Nat := bits v 31 24

/-- The entry at the current position. -/
def Sight.entry (s : Sight) : Nat := tget 0 s.table s.pos

/-- Waiting writes take effect (R139); a table shorter than the position restarts at entry 0, but one of length 0 stops
sighting with the position kept (R134). -/
def Sight.takePending (s : Sight) : Sight :=
  let s := { s with table := s.pendTable.foldl (fun (t : Table Nat) (e : Nat × Nat) => tset t e.1 e.2) s.table, pendTable := [] }
  let s := match s.pendCtrl with
    | none => s
    | some (trig, len, free, code, every) =>
      { s with trig := trig, len := len, free := free, code := code, every := every, pendCtrl := none,
               loopStart := if trig = 0 ∨ len = 0 then none else s.loopStart }
  if s.len ≠ 0 ∧ s.len ≤ s.pos then { s with pos := 0, loopStart := none } else s

/-- The tile's sighting may run: it is not dressing, in tone mode or withdrawn (R140, R432). -/
def Tile.sightRuns (t : Tile) : Bool :=
  (t.dress.st = .idle || t.dress.st = .queued) && t.st ≠ .tone && t.check.health ≠ .withdrawn && t.check.health ≠ .faulty

/-- A trigger fires (R136, R139, R140): the entry at the position is due, unless reads of the last one remain. -/
def Tile.trigger (t : Tile) (now : Nat) : Tile :=
  if !t.sightRuns then t
  else if 0 < t.sight.readsLeft then { t with sight := { t.sight with overrunF := true } }
  else
    let s := t.sight.takePending
    if s.trig = 0 ∨ s.len = 0 then { t with sight := s }
    else
      { t with sight := { s with readsLeft := seReads s.entry, dueAt := now, sums := [],
                                 loopStart := if s.pos = 0 then some now else s.loopStart } }

/-- The slots an entry names, with their trim entries (R135). -/
def Tile.named (t : Tile) (slot : Nat) : Table TrimEntry :=
  t.trims.filter fun e =>
    if slot < slotCount then e.1 = slot
    else if slot = 1020 then e.2.role = 3
    else if slot = 1021 then e.2.role = 1
    else if slot = 1022 then e.2.role = 2
    else e.2.role ≠ 0

/-- The expected output of a slot (R132). -/
def expected (level : Bool) (code : Nat) (e : TrimEntry) : Int := if level then code * e.colsum else 0

/-- One compared slot: its number, entry, mean and deviation. -/
structure Compared where
  slot : Nat
  entry : TrimEntry
  mean : Rat
  exp : Int

/-- A compared slot is out of band (R141). -/
def Compared.out (c : Compared) (win : Nat) : Bool :=
  win ≠ 0 && decide (((win * 256 : Nat) : Rat) < |c.mean - c.exp|)

/-- KAPPA among the trims of a tile (R147). -/
abbrev kappaSlot : Nat := 528

/-- The trims' writes and updates of an earlier cycle are past (R147). -/
def Sight.atCycle (s : Sight) (cycle : Nat) : Sight :=
  if s.trimCycle = cycle then s else { s with trimCycle := cycle, wrote := [], updated := [] }

/-- A write of a trim on a cycle prevails over a hardware update of it on the same cycle, which is discarded and counted
(R147). -/
def Sight.written (s : Sight) (cycle slot : Nat) : Sight :=
  let s := s.atCycle cycle
  { s with wrote := slot :: s.wrote, faultCount := satAdd s.faultCount (b2n (s.updated.contains slot)),
           updated := s.updated.filter fun x => x ≠ slot }

/-- A trim entry changes; NEAR and EDGE are set when a trim enters its zone (R145). -/
def Tile.setTrim (t : Tile) (slot : Nat) (f : TrimEntry → TrimEntry) : Tile :=
  let e := tget .reset t.trims slot
  let e' := f e
  { t with trims := tset t.trims slot e',
           sight := { t.sight with nearF := t.sight.nearF || e'.entersNear e, edgeF := t.sight.edgeF || e'.entersEdge e } }

/-- KAPPA is written, T_K with it (R145, R151). -/
def Tile.setKappa (t : Tile) (k : Nat) (temp : Int) : Tile :=
  let s := { t.sight with kappa := k, tk := temp }
  { t with sight := { s with nearF := s.nearF || (s.kappaNear && !t.sight.kappaNear),
                             edgeF := s.edgeF || (s.kappaEdge && !t.sight.kappaEdge) } }

/-- What became of an update: made, not applied (R144), or discarded for a write of the same cycle (R147). -/
inductive UpdateEnd where
  | made | refused | discarded
  deriving DecidableEq, Repr

/-- A hardware update of a trim on a cycle (R142, R144, R147): none where R144 does not apply it. -/
def Tile.update (t : Tile) (cycle slot : Nat) (change : Option (Tile → Tile)) : Tile × UpdateEnd :=
  let t := { t with sight := t.sight.atCycle cycle }
  match change with
  | none => (t, .refused)
  | some f =>
    if t.sight.wrote.contains slot then (t, .discarded)
    else
      let t := f t
      ({ t with sight := { t.sight with updated := slot :: t.sight.updated } }, .made)

/-- The OFFSET update of a zero read (R142, R144, R145). The step limit holds for the change computed, before it is rounded and
limited to the field's range. (DESIGN CHOICE, assumption log 99.) -/
def Tile.offsetUpdate (t : Tile) (cycle : Nat) (temp : Int) (c : Compared) : Tile × UpdateEnd :=
  let den : Rat := ((8192 * (65536 + c.entry.gain) * t.sight.kappaT temp : Int) : Rat) / (65536 * ((2 ^ 39 : Nat) : Rat))
  let delta := c.mean / den
  t.update cycle c.slot
    (if den ≤ 0 ∨ (!t.sight.free ∧ 2 < |delta|) then none
     else some fun t => t.setTrim c.slot fun e =>
       { e with offset := clampI (-8192) 8191 (rna ((e.offset : Rat) + 256 * delta)) })

/-- The GAIN update of a level read (R142, R144, R145). A tie is rounded away from zero on 1 + γ_c, which is positive, and not
on the signed field. (DESIGN CHOICE, assumption log 99.) -/
def Tile.gainUpdate (t : Tile) (cycle : Nat) (c : Compared) : Tile × UpdateEnd :=
  let ratio := (c.exp : Rat) / c.mean
  t.update cycle c.slot
    (if c.mean = 0 ∨ ratio ≤ 0 ∨ (!t.sight.free ∧ 2 / 100 < |ratio - 1|) then none
     else some fun t => t.setTrim c.slot fun e =>
       { e with gain := clampI (-8192) 8191 (rna (((65536 + e.gain : Int) : Rat) * ratio) - 65536) })

/-- The KAPPA update of a level read over its fixed stars (R142, R144, R145). -/
def Tile.kappaUpdate (t : Tile) (cycle : Nat) (temp : Int) (stars : List Compared) : Tile × UpdateEnd :=
  let num : Int := (stars.map fun c => (c.exp.natAbs : Int)).sum
  let den : Rat := (stars.map fun c => if c.exp < 0 then -c.mean else c.mean).sum
  let ratio := (num : Rat) / den
  t.update cycle kappaSlot
    (if den ≤ 0 ∨ (!t.sight.free ∧ 2 / 100 < |ratio - 1|) then none
     else some fun t => t.setKappa (clampI 24576 40960 (rna ((t.sight.kappa : Rat) * ratio))).toNat temp)

/-- The updates of an entry with slots out of band (R142, R143): the tile and what became of each. -/
def Tile.updates (t : Tile) (cycle : Nat) (temp : Int) (level : Bool) (all outs : List Compared) : Tile × List UpdateEnd :=
  let run (l : List Compared) (f : Tile → Compared → Tile × UpdateEnd) : Tile × List UpdateEnd :=
    l.foldl (fun acc c => let (t', x) := f acc.1 c; (t', acc.2 ++ [x])) (t, [])
  if !level then run outs fun t c => t.offsetUpdate cycle temp c
  else
    let stars := all.filter fun c => c.entry.role = 3 && decide (262144 ≤ c.exp.natAbs)
    if (outs.any fun c => c.entry.role = 3) && !stars.isEmpty then
      let (t', x) := t.kappaUpdate cycle temp stars
      (t', [x])
    else
      run (outs.filter fun c => (c.entry.role = 1 || c.entry.role = 2) && decide (262144 ≤ c.exp.natAbs))
        fun t c => t.gainUpdate cycle c

/-- The position advances, and after the last entry the loop counts (R134, R138, R144). -/
def Sight.advance (s : Sight) (temp : Int) (now : Nat) : Sight :=
  let last : Bool := decide (s.len ≤ s.pos + 1)
  let s := { s with pos := if last then 0 else s.pos + 1, sums := [] }
  match last, s.loopStart with
  | true, some from_ => { s with loops := satInc s.loops, loopPeriod := (now - from_) * 100 / 196608, loopTemp := temp,
                                 free := false, loopStart := none }
  | _, _ => s

/-- The last read of an entry is compared (R138, R141 to R145, R147); answers the tile and what became of the updates. -/
def Tile.compareEntry (t : Tile) (cycle : Nat) (temp : Int) (now : Nat) : Tile × List UpdateEnd :=
  let v := t.sight.entry
  let n : Rat := seReads v
  let all : List Compared := (t.named (seSlot v)).map fun e =>
    { slot := e.1, entry := e.2, mean := (tget 0 t.sight.sums e.1 : Int) / n,
      exp := expected (seLevel v) t.sight.code e.2 }
  let outs := all.filter fun c => c.out (seWin v)
  let (t, ends) := if outs.isEmpty then (t, []) else t.updates cycle temp (seLevel v) all outs
  let refused := (ends.filter fun x => x = .refused).length
  let lost := (ends.filter fun x => x = .discarded).length
  let t : Tile := match outs with
    | [] => t
    | c :: _ =>
      let dev := clampI (-512) 511 (rna ((c.mean - c.exp) / 256))
      { t with sight := { t.sight with eventF := true, eventCount := satInc t.sight.eventCount, leSlot := c.slot,
                                       leMode := b2n (seLevel v), leApplied := decide (refused + lost = 0),
                                       leCount := outs.length, leDev := dev, faultF := t.sight.faultF || refused ≠ 0,
                                       faultCount := satAdd t.sight.faultCount (refused + lost) } }
  ({ t with sight := t.sight.advance temp now }, ends)

/-- A trim of the tile lies at the edge, or in its near zone (R150, R152). -/
def Tile.atEdge (t : Tile) : Bool := t.sight.kappaEdge || t.trims.any fun e => e.2.edge
def Tile.atNear (t : Tile) : Bool := t.sight.kappaNear || t.trims.any fun e => e.2.near

/-- KAPPA or a trim of any entry has entered the edge, or its near zone, since `old` (R152). -/
def Tile.entersEdge (t old : Tile) : Bool :=
  (t.sight.kappaEdge && !old.sight.kappaEdge) || t.trims.any fun e => e.2.entersEdge (tget .reset old.trims e.1)
def Tile.entersNear (t old : Tile) : Bool :=
  (t.sight.kappaNear && !old.sight.kappaNear) || t.trims.any fun e => e.2.entersNear (tget .reset old.trims e.1)

/-- The die manager queues a re-dress when a trim has entered its edge or its near zone (R152). -/
def Device.requestRedress (d : Device) (p : Nat) (before : Tile) : Device :=
  let t := d.tile p
  match d.logicalOf p with
  | none => d
  | some lt =>
    if t.entersEdge before then d.queueRedress lt .edge 0x04
    else if t.entersNear before then d.queueRedress lt .near 0x04
    else d

/-- The levels of a sighting read (R84, R131): every mapped row carries the same S8 code, CODE or 0. -/
def Tile.sightVolt (t : Tile) (park : Nat) (level : Bool) (phys : Nat) : Int :=
  t.summed park (fun _ => inputVolt t.span true (if level then t.sight.code else 0)) phys

/-- The trimmed outputs of one sighting read (R131, R132), at RANGE 6; `errs` are the analogue errors of its conversions in 1/256
code, by slot. (DESIGN CHOICE, assumption log 25.) -/
def Tile.readOut (t : Tile) (park : Nat) (temp : Int) (level : Bool) (errs : List Int) : Converted :=
  convert t.mvmNo 6 (t.sight.kappaT temp) 0 t.trims t.adcTrim (rawCodes t.span 6 (t.charges (t.sightVolt park level)) errs)

/-- The means of the trimmed outputs of some reads, by slot (R141). A scan takes one read at least. -/
def Tile.means (t : Tile) (park : Nat) (temp : Int) (level : Bool) (reads : List (List Int)) : Nat → Rat :=
  let l := if reads = [] then [[]] else reads
  let outs := l.map fun errs => (t.readOut park temp level errs).ys
  fun slot => ((outs.map fun ys => tget 0 ys slot).sum : Int) / ((outs.length : Nat) : Rat)

/-- A read may start now: on an idle tick, the first tick of a sighting interval or any tick of a dark slot granted to the tile,
with no strobe of the tile within 64 ticks (R54, R133). -/
def Device.idleTick (d : Device) (p : Nat) : Bool :=
  d.strobeFree p && (d.dark p || (d.tile p).sight.intervals.any fun t => d.came t && !d.passed t)

/-- The triggers of TILE.SIGHT whose instants have come are fired (R136, R306). -/
def Device.fireDue (d : Device) (p : Nat) : Device :=
  d.updTile p fun t =>
    let due := t.sight.fires.filter fun x => d.came x
    due.foldl (fun t x => t.trigger (d.real - (d.clk.now - x)))
      { t with sight := { t.sight with fires := t.sight.fires.filter fun x => !d.came x } }

/-- One sighting read is taken on an idle tick (R54, R131, R133, R137); `errs` are the analogue errors of its conversions in
1/256 code, by slot. An update of the trims is a containment action and is reported (R18, R20): EVENT 0x04, with the lowest slot.
(DESIGN CHOICE, assumption log 25, DESIGN CHOICE, assumption log 99.) -/
def Device.sightRead (d : Device) (p : Nat) (errs : List Int) : Device :=
  let t := d.tile p
  let settled := decide (t.sight.dueAt + usTc (seSettle t.sight.entry) ≤ d.real)
  if !t.sightRuns ∨ t.sight.readsLeft = 0 ∨ !settled ∨ !d.idleTick p then d
  else d.event d.clk.now (d.tileUnitL p) (unitPt p) ordSight 0x1FF fun d =>
    let temp := d.dieTemp (ptDie p)
    let t0 := t.settleStaged
    let k := t0.readOut (d.die (ptDie p)).park temp (seLevel t0.sight.entry) errs
    let t1 := t0.countConverted k
    let t1 := { t1 with mvmNo := t1.mvmNo + 1, strobeAt := some d.clk.now,
                        sight := { t1.sight with intervals := t1.sight.intervals.filter fun x => !d.came x,
                                                 readsLeft := t1.sight.readsLeft - 1,
                                                 sums := k.ys.map fun e => (e.1, tget 0 t1.sight.sums e.1 + e.2) } }
    if 0 < t1.sight.readsLeft then d.updTile p fun _ => t1
    else
      let (t2, ends) := t1.compareEntry d.clk.cycles temp d.real
      let d := (d.updTile p fun _ => t2).requestRedress p t
      let d := if ends.contains .made then d.faultTile p 0x04 0 t2.sight.leSlot else d
      if ends.contains .refused then d.suspectTile p 0x04 t.sight.pos else d

/-- The last instant at or before now at which the timer of a tile fires (R136): TC = SIGHT_DELAY + k × SIGHT_PERIOD of a
frame. -/
def Sight.timerAt (s : Sight) (c : Clock) : Option Nat :=
  if s.period = 0 then none
  else if s.delay ≤ c.tc then some (c.frame * tcPerFrame + s.delay + (c.tc - s.delay) / s.period * s.period)
  else if c.frame = 0 ∨ tcPerFrame ≤ s.delay then none
  else some ((c.frame - 1) * tcPerFrame + s.delay + (tcPerFrame - 1 - s.delay) / s.period * s.period)

/-- The timer runs on from now under new settings: instants before them fire no trigger. -/
def Sight.restartTimer (s : Sight) (c : Clock) : Sight := { s with lastTrig := s.timerAt c }

/-! ### Writes (R136, R139, R148, R151) -/

/-- A write of SIGHT_CTRL or of an entry waits while an entry has reads to take (R139). -/
def Sight.writeCtrl (s : Sight) (v : Nat) : Sight :=
  let s := { s with pendCtrl := some (bits v 1 0, bits v 8 2, bit v 9, bits v 17 12, bits v 25 18) }
  if s.readsLeft = 0 then s.takePending else s

/-- The form checks of SIGHT_CTRL (R136, R151). -/
def Sight.ctrlForm (s : Sight) (v : Nat) : Nat :=
  if bits v 11 10 ≠ 0 ∨ bits v 31 26 ≠ 0 then stReserved
  else if bits v 1 0 = 3 ∨ 64 < bits v 8 2 ∨ bits v 17 12 = 0 ∨ bits v 25 18 = 0 then stFieldRange
  else if bits v 1 0 = 1 ∧ s.period ≤ s.delay then stFieldRange
  else stOK

/-- The form checks of SIGHT_PERIOD and SIGHT_DELAY (R136, R151). -/
def Sight.periodForm (s : Sight) (v : Nat) : Nat :=
  if 2 ^ 25 ≤ v then stReserved
  else if v < 1966 ∨ 19660800 < v ∨ (s.trig = 1 ∧ v ≤ s.delay) then stFieldRange
  else stOK
def Sight.delayForm (s : Sight) (v : Nat) : Nat :=
  if 2 ^ 25 ≤ v then stReserved else if s.trig = 1 ∧ s.period ≤ v then stFieldRange else stOK

/-- An entry of the table (R135). -/
def Sight.writeEntry (s : Sight) (i v : Nat) : Sight :=
  let s := { s with pendTable := tset s.pendTable i v }
  if s.readsLeft = 0 then s.takePending else s

/-- The physical tile and slot of a column trim index of a die (R31). -/
def trimTile (die index : Nat) : Nat := 864 * die + index / 528
def trimSlot (index : Nat) : Nat := index % 528

/-- The form checks of the low and the high word of a trim entry (R149). -/
def trimLowForm (v : Nat) : Nat :=
  if 65024 < (sx 18 (bits v 17 0)).natAbs then stFieldRange else stOK
def trimHighForm (v : Nat) : Nat := if bits v 31 18 ≠ 0 then stReserved else stOK

/-- The low word of an entry as it reads. -/
def TrimEntry.low (e : TrimEntry) : Nat := ux 18 e.colsum + ux 14 e.gain * 2 ^ 18

/-- The high word takes effect with the low word held, or the entry's own (R148). -/
def TrimEntry.writeHigh (e : TrimEntry) (v : Nat) : TrimEntry :=
  let low := e.heldLow.getD e.low
  { e with colsum := sx 18 (bits low 17 0), gain := sx 14 (bits low 31 18), offset := sx 14 (bits v 13 0),
           role := bits v 15 14, heldLow := none, bad := false }

/-- The form checks of KAPPA (R151). -/
def kappaForm (v : Nat) : Nat :=
  if bits v 31 18 ≠ 0 then stReserved else if bits v 15 0 < 24576 ∨ 40960 < bits v 15 0 then stFieldRange else stOK

/-- SIGHT_TIMER_TRIGGER (R53, R54, R55, R136): with TRIG = 1, once at each of the timer's instants. -/
def Device.timerTrigger (d : Device) (p : Nat) : Device :=
  match (d.tile p).sight.timerAt d.clk with
  | some t =>
    if (d.tile p).sight.trig = 1 ∧ (d.tile p).sight.lastTrig ≠ some t then
      d.event t (d.tileUnitL p) (unitPt p) ordSight 0x1FF fun d =>
        d.updTile p fun x => { x with sight := { x.sight with lastTrig := some t } }.trigger d.real
    else d
  | none => d

/-- SIGHT_APPLY_TRIGGER (R136): with TRIG = 2, SIGHT_DELAY ticks after tick 24 of an EVERY-th MVM. -/
def Device.applyTrigger (d : Device) (p : Nat) : Device :=
  match (d.tile p).sight.trigAt with
  | t :: rest =>
    if (d.tile p).sight.trig = 2 ∧ d.came t then
      d.updTile p fun x => { x with sight := { x.sight with trigAt := rest } }.trigger d.real
    else d
  | [] => d

/-- The die manager writes SIGHT_CTRL, a timer register, or an entry of the table (R136, R139). -/
def Device.writeSightCtrl (d : Device) (p v : Nat) : Device :=
  (d.fireDue p).updTile p fun t => { t with sight := (t.sight.writeCtrl v).restartTimer d.clk }
def Device.writeSightTimer (d : Device) (p : Nat) (f : Sight → Sight) : Device :=
  d.updTile p fun t => { t with sight := (f t.sight).restartTimer d.clk }
def Device.writeSightEntry (d : Device) (p i v : Nat) : Device :=
  (d.fireDue p).updTile p fun t => { t with sight := t.sight.writeEntry i v }

def execSightTimerTrigger (pt : Nat) (s : State) : Host.Outcome State Fault Refusal :=
  .next (s.upd fun d => (d.fireDue pt).timerTrigger pt)

def execSightApplyTrigger (pt : Nat) (s : State) : Host.Outcome State Fault Refusal :=
  .next (s.upd fun d => (d.fireDue pt).applyTrigger pt)

/-- Sighting intervals of a frame at a shortest sighting period in µs (R324). -/
def sightsPerFrame (period : Nat) : Nat := 10000 / period

/-- The shortest sighting period that a stream bound to a logical tile asks, in µs. -/
def Device.sightPeriod (d : Device) (lt : Nat) : Nat :=
  (((d.boundTo lt).flatMap fun s => (d.stream s).tiles.filter fun t => t.1 = lt).map fun t => t.2.2.2).foldl min 100

/-- The latest instant of this frame, at or before now, at which the Almanac places a sighting interval of a logical tile (R324). -/
def Device.sightingAt (d : Device) (lt : Nat) : Option Nat :=
  if d.boundTo lt = [] then none
  else
    let n := sightsPerFrame (d.sightPeriod lt)
    let at_ (k : Nat) : Nat := d.clk.frame * tcPerFrame + tget 0 d.adm.phases lt + ceilDiv (k * tcPerFrame) n
    ((List.range n).map at_).findRev? fun t => d.came t

/-- An interval that the Almanac placed begins, once at each of its instants; its first tick is an idle tick (R53 to R55, R133,
R324). -/
def Device.sightingInterval (d : Device) (p : Nat) : Device :=
  match (d.logicalOf p).bind d.sightingAt with
  | some t =>
    if (d.tile p).sight.placedAt = some t then d
    else d.event t (d.tileUnitL p) (unitPt p) ordSight 0x1FF fun d => d.updTile p fun x =>
      { x with sight := { x.sight with intervals := x.sight.openIntervals d.clk.now ++ [t], placedAt := some t } }
  | none => d

/-- SIGHTING_INTERVAL (R133, R324). -/
def execSightingInterval (pt : Nat) (s : State) : Host.Outcome State Fault Refusal :=
  .next (s.upd fun d => d.sightingInterval pt)

/-- SIGHTING_READ (R131, R137, R141 to R145). (DESIGN CHOICE, assumption log 25.) -/
def execSightingRead (pt : Nat) (errs : List Int) (s : State) : Host.Outcome State Fault Refusal :=
  .next (s.upd fun d => ((d.fireDue pt).sightRead pt errs).stageEpochs)

/-- SIGHT_CTRL_WRITE (R139, R151). -/
def execSightCtrlWrite (who pt value : Nat) (s : State) : Host.Outcome State Fault Refusal :=
  .next (s.upd fun d => d.tileWrite who pt .maintainer (fun d => (d.tile pt).sight.ctrlForm value) fun d =>
    (stOK, d.writeSightCtrl pt value))

/-- SIGHT_PERIOD_WRITE (R136, R151). -/
def execSightPeriodWrite (who pt value : Nat) (s : State) : Host.Outcome State Fault Refusal :=
  .next (s.upd fun d => d.tileWrite who pt .maintainer (fun d => (d.tile pt).sight.periodForm value) fun d =>
    (stOK, d.writeSightTimer pt fun s => { s with period := value }))

/-- SIGHT_DELAY_WRITE (R136, R151). -/
def execSightDelayWrite (who pt value : Nat) (s : State) : Host.Outcome State Fault Refusal :=
  .next (s.upd fun d => d.tileWrite who pt .maintainer (fun d => (d.tile pt).sight.delayForm value) fun d =>
    (stOK, d.writeSightTimer pt fun s => { s with delay := value }))

/-- TRIM_ENTRY_LOW_WRITE (R148): the word is held. -/
def execTrimEntryLowWrite (who die index value : Nat) (s : State) : Host.Outcome State Fault Refusal :=
  .next (s.upd fun d => d.tileWrite who (trimTile die index) .owner (fun _ => trimLowForm value) fun d =>
    (stOK, d.updTile (trimTile die index) fun t =>
      { t with trims := tupd .reset t.trims (trimSlot index) fun e => { e with heldLow := some value } }))

/-- The die manager writes a trim entry, or KAPPA with T_K (R147, R148, R151). -/
def Device.writeTrim (d : Device) (p slot v : Nat) : Device :=
  (d.updTile p fun t =>
    let t := t.setTrim slot fun e => e.writeHigh v
    { t with sight := t.sight.written d.clk.cycles slot }).requestRedress p (d.tile p)
def Device.writeKappa (d : Device) (p k : Nat) : Device :=
  (d.updTile p fun t =>
    let t := t.setKappa k (d.dieTemp (ptDie p))
    { t with sight := t.sight.written d.clk.cycles kappaSlot }).requestRedress p (d.tile p)

/-- TRIM_ENTRY_HIGH_WRITE (R148): the whole entry takes effect. -/
def execTrimEntryHighWrite (who die index value : Nat) (s : State) : Host.Outcome State Fault Refusal :=
  .next (s.upd fun d => d.tileWrite who (trimTile die index) .owner (fun _ => trimHighForm value) fun d =>
    (stOK, d.writeTrim (trimTile die index) (trimSlot index) value))

/-- KAPPA_WRITE (R151): T_K is written with it. -/
def execKappaWrite (who pt value : Nat) (s : State) : Host.Outcome State Fault Refusal :=
  .next (s.upd fun d => d.tileWrite who pt .maintainer (fun _ => kappaForm value) fun d =>
    (stOK, d.writeKappa pt (bits value 15 0)))

end Sys2Proof.Machine
end

