-- ==== Sys2Proof/Machine/FinernT.lean ====
section
/-! DEFINITION. The T slot of Finern (R295 to R306): bursts, the timed MVM and its hold, check counts and sighting
intervals. -/
namespace Sys2Proof.Machine

/-- The twin of a logical tile of a redundant stream: the same tile of cluster xor 8 (R426). -/
def twinOf (lt : Nat) : Nat :=
  let c := ltCluster lt
  8 * (c / 16 * 16 + if c % 16 < 8 then c % 16 + 8 else c % 16 - 8) + ltTile lt

/-- The tile takes no operation: no physical tile serves it, or the tile is faulty (R302, R433, R552). (DEDUCED, assumption
log 54.) -/
def Device.tileGone (d : Device) (lt : Nat) : Bool :=
  match d.physOf lt with
  | none => true
  | some p => (d.tile p).check.health = .faulty || d.flt.fenced.contains (ptDie p)

/-- The tile is fenced: gone, or withdrawn and awaiting its substitution (R432). (DEDUCED, assumption log 54.) -/
def Device.tileFenced (d : Device) (lt : Nat) : Bool :=
  d.tileGone lt || match d.physOf lt with
    | none => true
    | some p => (d.tile p).check.health = .withdrawn

/-- The twin of a tile takes part in a stream's MVMs: the stream is redundant, and the twin is neither withdrawn nor being
re-homed (R426, R427). -/
def Device.twinServes (d : Device) (stream lt : Nat) : Bool :=
  (d.stream stream).redundant && !d.tileFenced (twinOf lt)

/-- Logical tiles a T-slot instruction of a stream takes: the named one, and its twin while that takes part. -/
def Device.tilePair (d : Device) (stream lt : Nat) : List Nat :=
  if d.twinServes stream lt then [lt, twinOf lt] else [lt]

/-- The tile is reserved by a TILE.LOAD: until 125 cycles after its strobe (R303). -/
def Device.tileReserved (d : Device) (lt : Nat) : Bool :=
  match d.physOf lt with
  | none => false
  | some p =>
    ((d.tile p).bursts.any fun b => b.hold) ||
      (d.tile p).flight.any fun m => m.hold && decide (d.clk.now * 1000 < m.at_ * 1000 + 196608)

/-- Instant, in Tc from frame 0, `cycles` after now. -/
def Device.afterCycles (d : Device) (cycles : Nat) : Nat := d.clk.now + ceilDiv (cycles * 196608) 125000

/-- A tile-map switch of an epoch switch is pending on the tile, and falls at or before an instant (R302, R400). -/
def Device.switchPending (d : Device) (lt last : Nat) : Bool :=
  match d.physOf lt with
  | none => false
  | some p =>
    d.mm.slots.any fun e =>
      e.2.model = (d.tile p).logModel && e.2.model ≠ 0 &&
        match e.2.plan with
        | none => false
        | some q => q.regions.any fun x => x.1 = ltRegion lt && !x.2.2 && decide (x.2.1 ≤ last)

/-- The check of R254 that the named tile is bound to the stream. -/
def Device.tileCause (d : Device) (c : Ctx) (lt : Nat) : Option Cause :=
  must (d.bound c.stream lt) trPermission (unitLt lt)

/-- Formats of the output of a tile (R300). -/
def outFmtOk (x : Desc) : Bool := (x.fmt = fY24 || x.fmt = fBF16 || x.fmt = fFP32) && decide (x.len ≤ 512)

/-- Formats of the input of a tile (R297, R299). -/
def inFmtOk (x : Desc) : Bool := (x.fmt = fU8 || x.fmt = fS8) && decide (x.len ≤ 512)

/-- The checks of a T-slot instruction at issue, in the order of its entry (R295 to R306). (DEDUCED, assumption log 53.) -/
def Device.checkT (d : Device) (c : Ctx) (op : SlotOp) : List Cause :=
  match op with
  | .tileMvm rc ts td _ =>
    let w := c.s rc
    let lt := rcTile c.r w
    let x := c.desc ts
    let y := c.desc td
    let n := rcFirst w + rcCount w
    causesOf
      [must (rcOk w true && inFmtOk x && outFmtOk y && decide (n ≤ x.count) && decide (n ≤ y.count)) trIllegalOperand 0,
       d.descCause c x 1 false inScratch true, d.descCause c y 2 true inScratch true, d.tileCause c lt,
       must (c.setOk x) trQset 1, must (c.setOk y) trQset 2,
       must (!d.tileGone lt && !d.tileReserved lt && !d.switchPending lt (d.afterCycles (80 + 125 * (rcCount w - 1))))
         trTileState 0]
  | .tileLoad rc ts rm =>
    let w := c.s rc
    let lt := rcTile c.r w
    let x := c.desc ts
    causesOf
      [must (rcOk w true && inFmtOk x && decide (rcFirst w < x.count) && merOk (c.s rm)) trIllegalOperand 0,
       must (decide (ofMer (c.s rm) ≤ d.clk.now + 1966080)) trWaitRange 2,
       d.descCause c x 1 false inScratch true, d.tileCause c lt, must (c.setOk x) trQset 1,
       must (!d.tileGone lt && !d.tileReserved lt && !d.switchPending lt (max (ofMer (c.s rm)) (d.afterCycles 80)))
         trTileState 0]
  | .tileRead rc td _ =>
    let w := c.s rc
    let lt := rcTile c.r w
    let y := c.desc td
    let ready := (d.cluster (ltCluster lt)).holds.any fun e => e.1 = ltTile lt && e.2.ready
    causesOf
      [must (rcOk w false && outFmtOk y && decide (rcFirst w < y.count)) trIllegalOperand 0,
       d.descCause c y 1 true inScratch true, d.tileCause c lt, must (c.setOk y) trQset 1,
       must (ready && !d.tileReserved lt) trTileState 0]
  | .tileChk rc _ _ =>
    let w := c.s rc
    let lt := rcTile c.r w
    causesOf [must (rcOk w false) trIllegalOperand 0, d.tileCause c lt, must (!d.tileReserved lt) trTileState 0]
  | .tileSight rc =>
    let w := c.s rc
    let lt := rcTile c.r w
    causesOf [must (rcOk w false) trIllegalOperand 0, d.tileCause c lt,
             must (!d.tileFenced lt && !d.tileReserved lt) trTileState 0]
  | _ => []

/-- One token of a burst as read at issue (R294, R297, R302). -/
def Device.burstToken (d : Device) (c : Ctx) (x y : Desc) (t : Nat) : BurstToken :=
  let v := d.record c x t
  { codes := (d.token c x t).map fun (p : Nat) => if x.fmt = fU8 then (p : Int) else sx 8 p, record := v,
    bad := !recOk (c.q x.qset) v, dst := y.tok t, recd := c.recAddr y t }

/-- Put a burst on the physical tile of each logical tile of a list; the second is the twin (R426). -/
def Device.addBurst (d : Device) (lts : List Nat) (b : Burst) : Device :=
  let ps := lts.map d.physOf
  let pairOf (i : Nat) : Option Nat := if lts.length = 2 then (ps.getD (1 - i) none) else none
  forEach (List.range lts.length) (fun i d =>
    match ps.getD i none with
    | none => d
    | some p => d.updTile p fun t => { t with bursts := t.bursts ++ [{ b with pair := pairOf i, twin := i = 1 }] }.fillShadow) d

/-- The tiles stay occupied for some cycles from issue (R298). -/
def Device.occupyTiles (d : Device) (c : Ctx) (lts : List Nat) (cycles : Nat) : Device :=
  forEach lts (fun lt d => d.updRegion c.r fun g => { g with tileFree := tset g.tileFree lt (c.cycle + cycles) }) d

/-- Bytes of input tokens stay to be read until each is filled (R294, R297). -/
def Device.readLater (d : Device) (c : Ctx) (x : Desc) (first n : Nat) : Device :=
  let until_ (k : Nat) : Nat := c.cycle + if k = 0 then 16 else 96 + 125 * (k - 1)
  d.updRegion c.r fun g =>
    { g with busyR := g.busyR ++ (List.range n).flatMap fun k =>
        (x.rangesOf [first + k] ++ c.recRanges x (first + k) 1).map fun w => (w.1, w.2, until_ k) }

/-- The first strobe of a T-slot instruction that issues now (R297, R298): 80 cycles on, and past that, 64 ticks after the last
strobe of each tile that takes it, in none of their sighting intervals. -/
def Device.firstStrobe (d : Device) (lts : List Nat) : Nat :=
  (lts.filterMap d.physOf).foldl (fun s p =>
    let s := match (d.tile p).strobeAt with
      | some t => max s (t + tickTc 64)
      | none => s
    ((d.tile p).sight.intervals.insertionSort fun x y => x ≤ y).foldl
      (fun s t => if t ≤ s ∧ s < t + tickTc 64 then t + tickTc 64 else s) s) (d.afterCycles 80)

/-- What a T-slot instruction does once issued. -/
def Device.doT (d : Device) (c : Ctx) (op : SlotOp) : Device :=
  match op with
  | .tileMvm rc ts td pm =>
    let w := c.s rc
    let lt := rcTile c.r w
    let x := c.desc ts
    let y := c.desc td
    let n := rcCount w
    let b : Burst :=
      { region := c.r, stream := c.stream, slot := c.slot, pc := c.bank.pc, logical := lt, span := rcSpan w,
        signed := x.fmt = fS8, range := rcRange w, zp2 := 0, cls := (d.stream c.stream).cls, outs := y.len, fmt := y.fmt,
        qset := c.q y.qset, hold := false, pm := pm, pmAt := c.cycle + 306 + 125 * (n - 1),
        tokens := (List.range n).map fun k => d.burstToken c x y (rcFirst w + k), total := n, at_ := none,
        due := d.firstStrobe (d.tilePair c.stream lt), pair := none,
        twin := false }
    ((d.addBurst (d.tilePair c.stream lt) b).occupyTiles c (d.tilePair c.stream lt) (125 * n)).readLater c x (rcFirst w) n
  | .tileLoad rc ts rm =>
    let w := c.s rc
    let lt := rcTile c.r w
    let x := c.desc ts
    let soon := d.afterCycles 80
    let due := ofMer (c.s rm)
    let late := decide (due < d.clk.now + 126)
    let strobe := if late then soon else due
    let b : Burst :=
      { region := c.r, stream := c.stream, slot := c.slot, pc := c.bank.pc, logical := lt, span := rcSpan w,
        signed := x.fmt = fS8, range := rcRange w, zp2 := 0, cls := (d.stream c.stream).cls, outs := 512, fmt := fY24,
        qset := c.q x.qset, hold := true, pm := 0, pmAt := 0, tokens := [d.burstToken c x x (rcFirst w)], total := 1,
        at_ := some strobe, due := strobe, pair := none, twin := false }
    let d := (d.addBurst (d.tilePair c.stream lt) b).readLater c x (rcFirst w) 1
    if late then d.lateEvent (unitLt lt) (unitLt lt) (strobe - due) c.stream else d
  | .tileRead rc td pm =>
    let w := c.s rc
    let lt := rcTile c.r w
    let y := c.desc td
    match (d.cluster (ltCluster lt)).holds.find? fun e => e.1 = ltTile lt with
    | none => d
    | some (_, h) =>
      let t := rcFirst w
      let (d, misfit) := d.outputToken c.r y.fmt (c.q y.qset) (y.tok t) (c.recAddr y t) y.len h.record h.scales h.signed h.y
        h.clips h.cond
      let d := d.updCluster (ltCluster lt) fun k => { k with holds := tdel k.holds (ltTile lt) }
      let d := d.updRegion c.r fun g =>
        { g with busy := g.busy ++ (y.rangesOf [t] ++ c.recRanges y t 1).map fun r => (r.1, r.2, c.cycle + 24),
                 tileFree := tset g.tileFree lt (max (tget 0 g.tileFree lt) (c.cycle + 4)) }
      d.write c (.p pm) 24 (b2n misfit)
  | .tileChk rc pd sd =>
    let lt := rcTile c.r (c.s rc)
    let key := 256 * ltTile lt + c.stream
    let n := tget 0 (d.cluster (ltCluster lt)).failCounts key
    let d := d.updCluster (ltCluster lt) fun k => { k with failCounts := tdel k.failCounts key }
    (d.write c (.s sd) 2 n).write c (.p pd) 2 (b2n (n ≠ 0))
  | .tileSight rc =>
    let w := c.s rc
    let lt := rcTile c.r w
    let n := rcCount w
    let d := match d.physOf lt with
      | none => d
      | some p => d.updTile p fun t =>
        let starts := (List.range n).map fun k => d.afterCycles (80 + 125 * k)
        { t with sight := { t.sight with intervals := t.sight.openIntervals d.clk.now ++ starts,
                                         fires := t.sight.fires ++ if rcFire w then starts.take 1 else [] } }
    d.occupyTiles c [lt] (125 * n)
  | _ => d

/-- A T-slot instruction whose input read met an uncorrectable error (R256): its tiles are occupied, no MVM of it starts, and
the tokens it names hold unspecified bytes. (DESIGN CHOICE, assumption log 17.) -/
def Device.spoilT (d : Device) (c : Ctx) (op : SlotOp) : Device :=
  match op with
  | .tileMvm rc _ td _ =>
    let w := c.s rc
    let n := rcCount w
    (d.scrambleTokens c (c.desc td) ((List.range n).map fun k => rcFirst w + k)).occupyTiles c
      (d.tilePair c.stream (rcTile c.r w)) (125 * n)
  | .tileLoad _ _ _ => d
  | _ => d.doT c op

end Sys2Proof.Machine
end

