-- ==== Sys2Proof/Machine/Dmu.lean ====
section
/-! DEFINITION. The Digital Matrix Unit (chapter 06): matrix products, element and row operations, adaptation. -/
namespace Sys2Proof.Machine

/-- Classes of R199: 0 integer, 1 float 8, 2 BF16; none for Y24. -/
def dmuClass (fmt : Nat) : Option Nat :=
  if fmt ≤ fS8 then some 0 else if fmt ≤ fE5M2 then some 1 else if fmt ≤ fFP32 then some 2 else none

/-- An operand element as the DMU reads it: FP32 is rounded to BF16, W8 converts exactly (R203, R309). -/
def dmuElem (fmt pat : Nat) : Rat × Bool :=
  let (x, nf) := elemFin fmt pat
  if fmt = fFP32 then ((bf16.finite (bf16.round x).1).1, nf) else (x, nf)

/-- Issue cycles of a product (R200). -/
def vmmCycles (cls m n k : Nat) : Nat :=
  let w := if cls = 2 then 32 else 64
  ceilDiv m w * ceilDiv n w * k

/-- The limits of R200. -/
def vmmLimits (cls m n k : Nat) : Bool := m ≤ 4096 && n ≤ 4096 && k ≤ (if cls = 2 then 65536 else 32768)

/-- Count saturations, non-finite elements and masked rows in the DMU registers (R202, R203, R211). (DEDUCED, assumption log
55.) -/
def Device.dmuCount (d : Device) (r sat nonfin masked : Nat) : Device :=
  d.updRegion r fun g =>
    let u := g.dmu
    { g with dmu := { u with satCount := satAdd u.satCount sat, satF := u.satF || sat ≠ 0,
                             nonfinCount := satAdd u.nonfinCount nonfin, nonfinF := u.nonfinF || nonfin ≠ 0,
                             maskedRowCount := satAdd u.maskedRowCount masked, maskedF := u.maskedF || masked ≠ 0 } }

/-- Sum of products: exact in the integer class, rounded to FP32 after every addition otherwise (R201, R202). -/
def dotAcc (exact : Bool) (a b : List Rat) : Rat × Nat :=
  (a.zip b).foldl (fun acc e => if exact then (acc.1 + e.1 * e.2, acc.2) else acc32 acc (e.1 * e.2)) (0, 0)

/-- Column `j` of rows. -/
def column (rows : List (List Rat)) (j : Nat) : List Rat := rows.map fun row => lget 0 row j

/-- An output of a product, rounded once to its format; Y24 saturates at its limits (R309). -/
def dmuOut (fmt : Nat) (x : Rat) : Nat × Bool :=
  if fmt = fY24 then
    let v := rna x
    let w := clampI (-8388608) 8388607 v
    (ux 32 w, decide (v ≠ w))
  else roundTo fmt x

/-- Non-finite elements of a tensor. -/
def Device.nonfinIn (d : Device) (c : Ctx) (x : Desc) : Nat :=
  ((List.range x.count).map fun t => ((d.token c x t).filter fun p => (elemFin x.fmt p).2).length).sum

/-- VMM (R199 to R203, R309). -/
def Device.vmm (d : Device) (c : Ctx) (ta tb td : Desc) : VRes :=
  let m := ta.count
  let n := tb.len
  if !d.recordsOk c ta (List.range m) || !d.recordsOk c tb [0] then { dev := d, late := some trQset, pm := false }
  else
    let cls := (dmuClass ta.fmt).getD 0
    let rb := d.srcRecord c tb 0
    let sb : Rat := match rb with | some v => f32 (rScale v) | none => 1
    let zb : Int := match rb with | some v => zpOf tb.fmt (rZp v) | none => 0
    let bRows := (List.range tb.count).map fun k =>
      (d.token c tb k).map fun p => (dmuElem tb.fmt p).1 - (if cls = 0 then (zb : Rat) else 0)
    let dev := forEach (List.range m) (fun t acc =>
      let ra := d.srcRecord c ta t
      let sa : Rat := match ra with | some v => f32 (rScale v) | none => 1
      let za : Int := match ra with | some v => zpOf ta.fmt (rZp v) | none => 0
      let row := (d.token c ta t).map fun p => (dmuElem ta.fmt p).1 - (if cls = 0 then (za : Rat) else 0)
      let outs := (List.range n).map fun j =>
        let (x, s) := dotAcc (cls = 0) row (column bRows j)
        let (p, s2) := dmuOut td.fmt (x * sa * sb)
        (p, s + b2n s2)
      let acc := acc.setToken c td t (outs.map fun o => o.1)
      let acc := acc.produce c td t (mkRec one32 0 false false false false (degradedOf ra || degradedOf rb) 0)
      acc.dmuCount c.r ((outs.map fun o => o.2).sum) 0 0) d
    { dev := dev.dmuCount c.r 0 (d.nonfinIn c ta + d.nonfinIn c tb) 0, late := none, pm := false }

/-- The fixed cost of a re-run (R213). -/
def escCost (n k : Nat) : Nat := ceilDiv n 32 * k + 20

/-- One re-run token (R190, R310): FP32 accumulation, the column scale, one rounding. -/
def Device.rerun (d : Device) (c : Ctx) (ta td : Desc) (rows : List (List Rat)) (lt t : Nat) (acc : Device) : Device :=
  let row := (d.token c ta t).map fun p => (dmuElem ta.fmt p).1
  let outs := (List.range td.len).map fun j =>
    let (x, s) := dotAcc false row (column rows j)
    let (p, s2) := roundTo td.fmt (x * f32 (d.rescale lt j))
    (p, s + b2n s2)
  let old := d.record c td t
  let acc := acc.setToken c td t (outs.map fun o => o.1)
  let acc := acc.setRecord c td t
    (mkRec (rScale old) (rZp old) (rZr old) (rNonfin old) (rMisfit old) true
      (rDegraded old || degradedOf (d.srcRecord c ta t)) (rSatn old))
  let nf := ((d.token c ta t).filter fun p => (elemFin ta.fmt p).2).length
  (acc.dmuCount c.r ((outs.map fun o => o.2).sum) nf 0).stat c.r (qStat (c.q td.qset)) fun s =>
    { s with escCount := satInc s.escCount }

/-- A misfit token whose re-run the reserve cannot cover (R191). (DEDUCED, assumption log 56.) -/
def Device.degrade (c : Ctx) (td : Desc) (t : Nat) (acc : Device) : Device :=
  let old := acc.record c td t
  let acc := acc.setRecord c td t
    (mkRec (rScale old) (rZp old) (rZr old) (rNonfin old) (rMisfit old) (rEscalated old) true (rSatn old))
  acc.stat c.r (qStat (c.q td.qset)) fun s =>
    { s with degradedCount := satInc s.degradedCount, flags := flagIf s.flags 4 1 }

/-- VMM.E (R191, R213 to R215, R310). A token whose read is poisoned counts as one it cannot re-run (R405). (DEDUCED,
assumption log 56, DEDUCED, assumption log 58.) -/
def Device.vmmE (d : Device) (c : Ctx) (ta tb td : Desc) (lt : Nat) : VRes :=
  let toks := List.range td.count
  if !d.recordsOk c ta toks || !(toks.all fun t => recOk (c.q td.qset) (d.record c td t)) then
    { dev := d, late := some trQset, pm := false }
  else
    let rows := (List.range tb.count).map fun k => (d.token c tb k).map fun p => (elemFin tb.fmt p).1
    let cost := escCost td.len tb.count
    let poison := (List.range tb.count).any fun k => d.poisoned (d.hbmPhys c.stream c.r (offsetOf (tb.tok k))) (tb.len * tb.es)
    let st := c.stream
    let dev := forEach toks (fun t acc =>
      let v := d.record c td t
      if !rMisfit v || rEscalated v then acc
      else
        let u := (acc.region c.r).dmu
        if poison then Device.degrade c td t acc.countPoison
        else if cost ≤ tget 0 u.escBal st ∧ ¬ u.escSpent.contains st then
          d.rerun c ta td rows lt t
            (acc.updRegion c.r fun g => { g with dmu := { g.dmu with escBal := tupd 0 g.dmu.escBal st fun b => b - cost } })
        else
          Device.degrade c td t
            (acc.updRegion c.r fun g => { g with dmu := { g.dmu with escSpent := st :: g.dmu.escSpent } })) d
    { dev := dev, late := none, pm := false }

/-! ### Element and row operations (R208 to R212, R311) -/

/-- The record a plain vector operation produces. -/
def plainRec (misfit escalated degraded : Bool) : Nat := mkRec one32 0 false false misfit escalated degraded 0

/-- VADD and VMUL (R311). `op` 0 add, 1 subtract, 2 multiply. -/
def Device.vBinary (d : Device) (c : Ctx) (ta tb td : Desc) (bc : Bool) (op : Nat) : VRes :=
  let toks := List.range ta.count
  let tbOf (t : Nat) : Nat := if bc then 0 else t
  let y24 := decide (ta.fmt = fY24)
  let scaleAt (x : Desc) (t : Nat) : Nat := match d.srcRecord c x t with | some v => rScale v | none => one32
  if !d.recordsOk c ta toks || !d.recordsOk c tb (List.range tb.count) then
    { dev := d, late := some trQset, pm := false }
  else if y24 && toks.any (fun t => decide (scaleAt ta t ≠ scaleAt tb (tbOf t))) then
    { dev := d, late := some trIllegalOperand, pm := false }
  else
    let comb (x y : Rat) : Rat := if op = 0 then x + y else if op = 1 then x - y else x * y
    let dev := forEach toks (fun t acc =>
      let ra := d.srcRecord c ta t
      let rb := d.srcRecord c tb (tbOf t)
      let outs := ((d.token c ta t).zip (d.token c tb (tbOf t))).map fun e =>
        let v := comb (elemFin ta.fmt e.1).1 (elemFin tb.fmt e.2).1
        if y24 then
          let w := clampI (-2147483648) 2147483647 (rna v)
          (ux 32 w, decide (w ≠ rna v))
        else roundTo td.fmt v
      let esc := op ≤ 1 && (escalatedOf ra || escalatedOf rb)
      let mis := op ≤ 1 && (misfitOf ra || misfitOf rb)
      let acc := acc.setToken c td t (outs.map fun o => o.1)
      let acc := acc.produce c td t
        (mkRec (if y24 then scaleAt ta t else one32) 0 false false mis esc (degradedOf ra || degradedOf rb) 0)
      acc.dmuCount c.r ((outs.filter fun o => o.2).length) 0 0) d
    let nf := if y24 then 0 else d.nonfinIn c ta + d.nonfinIn c tb
    { dev := dev.dmuCount c.r 0 nf 0, late := none, pm := false }

/-- FP32 entry `i` of activation table `n` (R208, R221). -/
def Device.actEntry (d : Device) (r n i : Nat) : Rat := f32 (leValue (memRead (d.region r).act (0x1000 * n + 4 * i) 4))

/-- The table lookup of R208. -/
def Device.actLookup (d : Device) (r n : Nat) (x : Rat) : Rat :=
  let u := (d.region r).dmu
  let v := (x - f32 (lget 0 u.actBase n)) / f32 (lget 0 u.actStep n)
  let v := min (max v 0) 1023
  let i := min v.floor.toNat 1022
  let a := d.actEntry r n i
  a + (v - i) * (d.actEntry r n (i + 1) - a)

/-- VACT (R208, R209): FN 0 table, 1 ReLU, 2 clamp, 3 identity. -/
def Device.vact (d : Device) (c : Ctx) (ts td : Desc) (tbl fn rs : Nat) : VRes :=
  let toks := List.range ts.count
  if !d.recordsOk c ts toks then { dev := d, late := some trQset, pm := false }
  else
    let lo := f32 (c.s rs % 2 ^ 32)
    let hi := f32 (c.s rs / 2 ^ 32)
    let f (x : Rat) : Rat :=
      if fn = 0 then d.actLookup c.r tbl x else if fn = 1 then max x 0 else if fn = 2 then min (max x lo) hi else x
    let dev := forEach toks (fun t acc =>
      let outs := (d.token c ts t).map fun p => roundTo td.fmt (f (elemFin ts.fmt p).1)
      let acc := acc.setToken c td t (outs.map fun o => o.1)
      let acc := acc.produce c td t (plainRec false false (degradedOf (d.srcRecord c ts t)))
      acc.dmuCount c.r ((outs.filter fun o => o.2).length) 0 0) d
    { dev := dev.dmuCount c.r 0 (d.nonfinIn c ts) 0, late := none, pm := false }

/-- An element of a softmax row as an FP32 pattern, none when it is masked (R211). -/
def softElem (fmt pat : Nat) : Option Nat :=
  match elemVal fmt pat with
  | .num _ => some (if fmt = fBF16 then pat * 65536 else pat)
  | .inf false => some (if fmt = fBF16 then bf16.maxPat * 65536 else fp32.maxPat)
  | _ => none

/-- The largest of FP32 patterns by value. -/
def maxPat32 (l : List Nat) : Option Nat :=
  l.foldl (fun m p => match m with | none => some p | some q => if f32 q < f32 p then some p else some q) none

/-- One row of VSMAX: patterns out, saturations, and whether every element was masked (R211). (DESIGN CHOICE, assumption log
2.) -/
def softRow (fmtIn fmtOut : Nat) (pats : List Nat) : List Nat × Bool :=
  let xs := pats.map (softElem fmtIn)
  match maxPat32 (xs.filterMap id) with
  | none => (pats.map fun _ => 0, true)
  | some m =>
    let es := xs.map fun x => match x with | some p => softExp p m | none => 0
    let s := (es.foldl acc32 (0, 0)).1
    (es.map fun e => (roundTo fmtOut (e / s)).1, false)

/-- VSMAX (R211). -/
def Device.vsmax (d : Device) (c : Ctx) (ts td : Desc) : VRes :=
  let toks := List.range ts.count
  if !d.recordsOk c ts toks then { dev := d, late := some trQset, pm := false }
  else
    let dev := forEach toks (fun t acc =>
      let pats := d.token c ts t
      let (outs, masked) := softRow ts.fmt td.fmt pats
      let nf := (pats.filter fun p => match elemVal ts.fmt p with | .nan => true | .inf false => true | _ => false).length
      let acc := acc.setToken c td t outs
      let acc := acc.produce c td t (plainRec false false (degradedOf (d.srcRecord c ts t)))
      acc.dmuCount c.r 0 nf (b2n masked)) d
    { dev := dev, late := none, pm := false }

/-- One row of VNORM (R212): every sum in FP32 with one rounding for each addition, the divisions and the root
correctly rounded, one rounding of the result; the mean of a constant row in layer mode is its element, so that y is b exactly. The
patterns, and how many of the FP32 results saturated (R202). (DEDUCED, assumption log 9.) -/
def normRow (fmtOut : Nat) (layer : Bool) (eps : Rat) (xs g b : List Rat) : List Nat × Nat :=
  let n : Rat := xs.length
  let flat := layer && xs.all fun x => decide (x = lget 0 xs 0)
  let (sum, s1) := xs.foldl acc32 (0, 0)
  let mu : Rat := if !layer then 0 else if flat then lget 0 xs 0 else (toF32 (sum / n)).1
  let (ss, s2) := xs.foldl (fun acc x => acc32 acc ((x - mu) * (x - mu))) (0, 0)
  let (mean, s3) := toF32 (ss / n)
  let (var, s4) := toF32 (mean + eps)
  let outs := (xs.zip (g.zip b)).map fun e =>
    let (q, s5) := toF32 ((e.1 - mu) / sqrt32 var)
    let (p, s6) := roundTo fmtOut (q * e.2.1 + e.2.2)
    (p, b2n s5 + b2n s6)
  (outs.map fun o => o.1, (if layer then s1 else 0) + s2 + b2n s3 + b2n s4 + (outs.map fun o => o.2).sum)

/-- VNORM.L and VNORM.R (R212, R311). (DEDUCED, assumption log 9.) -/
def Device.vnorm (d : Device) (c : Ctx) (ts td tg : Desc) (layer : Bool) (re : Nat) : VRes :=
  let toks := List.range ts.count
  if !d.recordsOk c ts toks || !d.recordsOk c tg (List.range tg.count) then
    { dev := d, late := some trQset, pm := false }
  else
    let vals (x : Desc) (t : Nat) : List Rat := (d.token c x t).map fun p => (elemFin x.fmt p).1
    let g := vals tg 0
    let b := if layer then vals tg 1 else g.map fun _ => 0
    let gdeg := (List.range tg.count).any fun t => degradedOf (d.srcRecord c tg t)
    let dev := forEach toks (fun t acc =>
      let (outs, sat) := normRow td.fmt layer (f32 (c.s re % 2 ^ 32)) (vals ts t) g b
      let acc := acc.setToken c td t outs
      let acc := acc.produce c td t (plainRec false false (degradedOf (d.srcRecord c ts t) || gdeg))
      acc.dmuCount c.r sat 0 0) d
    { dev := dev.dmuCount c.r 0 (d.nonfinIn c ts + d.nonfinIn c tg) 0, late := none, pm := false }

/-! ### Adaptation (R216, R217, R312) -/

/-- The hyper-parameters of VADAPT: learning rate, β1, β2, ε, as FP32 patterns. -/
def Ctx.hyper (c : Ctx) (rh i : Nat) : Nat := c.s (4 * rh + i) % 2 ^ 32

/-- The hyper-parameters obey R216. -/
def Ctx.hyperOk (c : Ctx) (rh : Nat) : Bool :=
  let beta (p : Nat) : Bool :=
    match fp32.decode p with
    | .num x => decide (0 ≤ x) && decide (x < 1)
    | _ => false
  posNormal (c.hyper rh 0) && posNormal (c.hyper rh 3) && beta (c.hyper rh 1) && beta (c.hyper rh 2)

/-- A moving average in FP32: `β·m + (1 − β)·x`, each addition rounded once, and how often it saturated (R202, R217). -/
def moment (beta m x : Rat) : Rat × Nat :=
  let (a, s) := toF32 (beta * m)
  acc32 (a, b2n s) ((1 - beta) * x)

/-- The dequantised values of a token of moments or gradients (R177). -/
def Device.dequantToken (d : Device) (c : Ctx) (x : Desc) (t : Nat) : List Rat :=
  let rec_ := d.srcRecord c x t
  let s : Rat := match rec_ with | some v => f32 (rScale v) | none => 1
  let zp : Int := match rec_ with | some v => zpOf x.fmt (rZp v) | none => 0
  (d.tokenVals c x t).map fun v => (dequantElem x.fmt zp s v).1

/-- The square root of step 3 of R217: correctly rounded; of a negative second moment the spec states none, and the value is a free
one of that moment (R10; DESIGN CHOICE, assumption log 10). -/
def rootOf (v : Rat) : Rat :=
  if v < 0 then f32 (Config.negRoot (BitVec.ofNat 32 (fp32.round v).1)).toNat else sqrt32 v

/-- One updated parameter (R217 step 3), and how often an FP32 result saturated (R202). (DESIGN CHOICE, assumption log 10.) -/
def adaptParam (adaptive : Bool) (lr eps w m v : Rat) : Rat × Nat :=
  if adaptive then
    let (den, s1) := toF32 (rootOf v + eps)
    let (q, s2) := toF32 (m / den)
    let (y, s3) := toF32 (w - lr * q)
    (y, b2n s1 + b2n s2 + b2n s3)
  else let (y, s) := toF32 (w - lr * m); (y, b2n s)

/-- Requantise a row of moments into its own record (R195, R196). (DEDUCED, assumption log 55.) -/
def Device.requant (d : Device) (c : Ctx) (x : Desc) (t statSlot : Nat) (vals : List Rat) (degraded : Bool) : Device :=
  let q := c.q x.qset
  let vs := vals.map FpVal.num
  let (v, zr) := scanToken q vs degraded
  let k := convToken q (rScale v) (rZp v) vs
  let d := (d.setToken c x t k.pats).setRecord c x t (convRecord q v degraded k)
  let d := if zr then d.stat c.r statSlot StatSlot.zeroRange else d
  d.stat c.r statSlot fun s =>
    let s := s.convert k.pats.length k.satn k.nonfin k.e k.p
    if k.cause = 0 then s else s.misfit (x.token0 + t) k.cause

/-- A matrix of an adapter is at an offset of a region's fast-weight SRAM. -/
def AdapterImage.isAt (x : AdapterImage) (r off : Nat) : Bool := decide (x.region = r) && decide ((x.rows.map fun e => e.1).head? = some off)

/-- The rows of a matrix as they stand. -/
def Device.adapterImage (d : Device) (c : Ctx) (x : Desc) : AdapterImage :=
  { region := c.r, rows := (List.range x.count).map fun t => (offsetOf (x.tok t), d.readMem c (x.tok t) (x.len * x.es)) }

/-- The epoch that a stream uses in a region: its model slot and its area (R387). -/
def Device.adapterEpoch (d : Device) (r stream : Nat) : Option (Nat × Nat) :=
  let model := (d.stream stream).model
  if model = 0 then none
  else (d.mm.slots.find? fun e => e.2.model = model).map fun e => (e.1, if tget 0 e.2.sel (64 * stream + r) = 1 then 1 else 0)

/-- The adapter matrices of the epoch that a stream uses in a region, those of that region. -/
def Device.adaptersIn (d : Device) (r stream : Nat) : List AdapterImage :=
  match d.adapterEpoch r stream with
  | none => []
  | some (n, a) =>
    let m := tget .reset d.mm.slots n
    (if a = 1 then m.area1 else m.area0).adapters.filter fun x => x.region = r

/-- VADAPT may change a matrix: it is one of the epoch's in the region, or there is room for another. 16 adapters of two matrices
each fit (R216). (DESIGN CHOICE, assumption log 79.) -/
def Device.adapterRoom (d : Device) (c : Ctx) (x : Desc) : Bool :=
  let l := d.adaptersIn c.r c.stream
  l.any (fun y => y.isAt c.r (offsetOf (x.tok 0))) || decide (l.length < 32)

/-- The adapter of the epoch that a stream uses in a region is no longer as shipped (R220): its matrix is kept as it was before its
first change. (DEDUCED, assumption log 55, DESIGN CHOICE, assumption log 79.) -/
def Device.adapted (d : Device) (r stream : Nat) (was : AdapterImage) : Device :=
  match d.adapterEpoch r stream with
  | none => d
  | some (n, a) =>
    let off := ((was.rows.map fun e => e.1).head?).getD 0
    let f (x : Area) : Area :=
      { x with adapterShipped := false, adaptersRestored := [],
               adapters := if x.adapters.any fun y => y.isAt r off then x.adapters else x.adapters ++ [was] }
    { d with mm := { d.mm with slots := tupd .reset d.mm.slots n fun m =>
      if a = 1 then { m with area1 := f m.area1 } else { m with area0 := f m.area0 } } }

/-- VADAPT (R217, R312). -/
def Device.vadapt (d : Device) (c : Ctx) (tw tg tm tv : Desc) (adaptive : Bool) (rh : Nat) : VRes :=
  let toks := List.range tw.count
  if !d.recordsOk c tg toks || !d.recordsOk c tm toks || (adaptive && !d.recordsOk c tv toks) then
    { dev := d, late := some trQset, pm := false }
  else
    let lr := f32 (c.hyper rh 0)
    let b1 := f32 (c.hyper rh 1)
    let b2 := f32 (c.hyper rh 2)
    let eps := f32 (c.hyper rh 3)
    let slot := qStat (c.q tm.qset)
    let dev := forEach toks (fun t acc =>
      let g := d.dequantToken c tg t
      let ms := (g.zip (d.dequantToken c tm t)).map fun e => moment b1 e.2 e.1
      let vs := if adaptive then (g.zip (d.dequantToken c tv t)).map fun e => moment b2 e.2 (e.1 * e.1)
        else g.map fun _ => (0, 0)
      let ws := (d.token c tw t).map f32
      let outs := (ws.zip (ms.zip vs)).map fun e => adaptParam adaptive lr eps e.1 e.2.1.1 e.2.2.1
      let sat := ((ms ++ vs ++ outs).map fun o => o.2).sum
      let deg := degradedOf (d.srcRecord c tw t) || degradedOf (d.srcRecord c tg t) || degradedOf (d.srcRecord c tm t)
        || (adaptive && degradedOf (d.srcRecord c tv t))
      let acc := acc.setToken c tw t (outs.map fun o => (fp32.round o.1).1)
      let acc := (acc.produce c tw t (plainRec false false deg)).requant c tm t slot (ms.map fun o => o.1) deg
      let acc := if adaptive then acc.requant c tv t slot (vs.map fun o => o.1) deg else acc
      acc.dmuCount c.r sat 0 0) d
    let dev := dev.updRegion c.r fun g =>
      { g with dmu := { g.dmu with adaptStepCount := satInc g.dmu.adaptStepCount } }
    let dev := dev.adapted c.r c.stream (d.adapterImage c tw)
    { dev := dev.dmuCount c.r 0 (d.nonfinIn c tw + d.nonfinIn c tg) 0, late := none, pm := false }

end Sys2Proof.Machine
end

