-- ==== Sys2Proof/Machine/FinernV.lean ====
section
/-! DEFINITION. The V slot of Finern (R307 to R313): what each instruction checks at issue, what it costs, which bytes
it touches, and what it does. -/
namespace Sys2Proof.Machine

/-- BF16 or FP32. -/
def fmtF (x : Desc) : Bool := x.fmt = fBF16 || x.fmt = fFP32

/-- Tensors paired element by element (R307). -/
def sameShape (x y : Desc) : Bool := decide (x.count = y.count) && decide (x.len = y.len)

/-- The set of a tensor that has records passes R166 (R307). -/
def Ctx.setCause (c : Ctx) (x : Desc) (idx : Nat) : Option Cause := must (x.sref ≠ 1 || c.setOk x) trQset idx

/-- Fast-weight SRAM only, scratch or fast-weight SRAM, HBM only (R307). -/
def inFw (sp : Nat) : Bool := sp = spFw
def inScratchFw (sp : Nat) : Bool := sp = spScratch || sp = spFw
def inHbm (sp : Nat) : Bool := sp = spHbm

/-- The moments' parameter sets obey R195 (R312). -/
def Ctx.momentSet (c : Ctx) (x : Desc) : Bool :=
  let q := c.q x.qset
  qFmt q = fS8 && !qMin128 q && !qStatic q && !qPow2 q

/-- A gradient with records has power-of-two scales (R195, R216). -/
def Ctx.gradientSet (c : Ctx) (x : Desc) : Bool :=
  let q := c.q x.qset
  x.sref ≠ 1 || (qFmt q = fE5M2 && !qStatic q && qPow2 q)

/-- An adapter matrix is within the limits of R216. -/
def adapterOk (x : Desc) : Bool :=
  decide (x.count ≤ 4096) && decide (x.len ≤ 4096) && (decide (x.count ≤ 64) || decide (x.len ≤ 64))

/-- The checks of VNORM (R212, R311). -/
def Device.normCause (d : Device) (c : Ctx) (ts td tg : Desc) (layer : Bool) (re : Nat) : List Cause :=
  causesOf
    [must (fmtF ts && fmtF td && fmtF tg && sameShape ts td && decide (tg.len = ts.len)
        && decide ((if layer then 2 else 1) ≤ tg.count) && posNormal (c.s re % 2 ^ 32)) trIllegalOperand 3,
     d.descCause c ts 0 false inScratch false, d.descCause c td 1 true inScratch (ts.sref = 1 || tg.sref = 1),
     d.descCause c tg 2 false inScratch false, c.setCause ts 0, c.setCause td 1, c.setCause tg 2]

/-- The checks of VADD and VMUL (R311). -/
def Device.binaryCause (d : Device) (c : Ctx) (ta tb td : Desc) (bc y24 : Bool) : List Cause :=
  let fmts := (fmtF ta && fmtF tb && fmtF td) || (y24 && ta.fmt = fY24 && tb.fmt = fY24 && td.fmt = fY24)
  let shape := sameShape ta td && decide (tb.len = ta.len) && decide (tb.count = if bc then 1 else ta.count)
  causesOf
    [must (fmts && shape) trIllegalOperand 0, d.descCause c ta 0 false inScratch false,
     d.descCause c tb 1 false inScratch false, d.descCause c td 2 true inScratch (ta.sref = 1 || tb.sref = 1),
     c.setCause ta 0, c.setCause tb 1, c.setCause td 2]

/-- The checks of a V-slot instruction at issue, in the order of its entry (R307 to R313). (DEDUCED, assumption log 53.) -/
def Device.checkV (d : Device) (c : Ctx) (op : SlotOp) : List Cause :=
  match op with
  | .vmm ta tb td =>
    let a := c.desc ta
    let b := c.desc tb
    let x := c.desc td
    let cls := (dmuClass a.fmt).getD 3
    causesOf
      [must (decide (dmuClass a.fmt = dmuClass b.fmt) && decide (cls < 3) && decide (b.count = a.len)
          && decide (x.count = a.count) && decide (x.len = b.len) && vmmLimits cls a.count b.len a.len
          && (fmtF x || (x.fmt = fY24 && decide (cls = 0)))
          && (decide (cls ≠ 0) || (a.sref = 1 && b.sref = 1))) trIllegalOperand 0,
       d.descCause c a 0 false inScratchFw false, d.descCause c b 1 false inScratchFw false,
       d.descCause c x 2 true inScratch (a.sref = 1 || b.sref = 1), c.setCause a 0, c.setCause b 1, c.setCause x 2]
  | .vmmE ta tb td rc =>
    let a := c.desc ta
    let b := c.desc tb
    let x := c.desc td
    causesOf
      [must (rcOk (c.s rc) false && a.fmt = fBF16 && b.fmt = fW8 && fmtF x && decide (a.count = x.count)
          && decide (a.len = b.count) && decide (b.len = x.len) && vmmLimits 2 x.count x.len b.count) trIllegalOperand 0,
       d.descCause c a 0 false inScratch false, d.descCause c b 1 false inHbm false, d.descCause c x 2 true inScratch true,
       d.tileCause c (rcTile c.r (c.s rc)), c.setCause a 0, c.setCause b 1, c.setCause x 2]
  | .vadd ta tb td bc _ => d.binaryCause c (c.desc ta) (c.desc tb) (c.desc td) bc true
  | .vmul ta tb td bc => d.binaryCause c (c.desc ta) (c.desc tb) (c.desc td) bc false
  | .vact ts td tbl fn rs =>
    let a := c.desc ts
    let x := c.desc td
    let lo := c.s rs % 2 ^ 32
    let hi := c.s rs / 2 ^ 32
    let clampOk := finite32 lo && finite32 hi && decide (f32 lo ≤ f32 hi)
    causesOf
      [must (fmtF a && fmtF x && sameShape a x && (fn ≠ 2 || clampOk)
          && (fn ≠ 0 || posNormal (lget 0 (d.region c.r).dmu.actStep tbl))) trIllegalOperand 0,
       d.descCause c a 0 false inScratch false, d.descCause c x 1 true inScratch (a.sref = 1), c.setCause a 0,
       c.setCause x 1]
  | .vsmax ts td =>
    let a := c.desc ts
    let x := c.desc td
    causesOf
      [must (fmtF a && fmtF x && sameShape a x) trIllegalOperand 0, d.descCause c a 0 false inScratch false,
       d.descCause c x 1 true inScratch (a.sref = 1), c.setCause a 0, c.setCause x 1]
  | .vnormL ts td tg re => d.normCause c (c.desc ts) (c.desc td) (c.desc tg) true re
  | .vnormR ts td tg re => d.normCause c (c.desc ts) (c.desc td) (c.desc tg) false re
  | .vadapt tw tg tm adaptive rh =>
    let w := c.desc tw
    let g := c.desc tg
    let m := c.desc tm
    let v := if adaptive then c.desc (tm + 1) else m
    causesOf
      [must (!(adaptive && decide (tm = 63)) && w.fmt = fFP32 && g.fmt = fE5M2 && m.fmt = fS8 && v.fmt = fS8
          && sameShape w g && sameShape w m && sameShape w v && adapterOk w && c.hyperOk rh && c.momentSet m
          && c.momentSet v && c.gradientSet g && d.adapterRoom c w) trIllegalOperand 0,
       d.descCause c w 0 true inFw (g.sref = 1 || m.sref = 1 || v.sref = 1), d.descCause c g 1 false inScratch false,
       d.descCause c m 2 true inScratch true, d.descCause c v 2 true inScratch true, c.setCause w 0, c.setCause g 1,
       c.setCause m 2, c.setCause v 2]
  | .qscan ts td =>
    let a := c.desc ts
    let x := c.desc td
    causesOf
      [must (fmtF a && sameShape a x) trIllegalOperand 0, d.descCause c a 0 false inScratch false,
       d.descCause c x 1 false inScratch true, c.setCause a 0, must (c.setOk x) trQset 1]
  | .qconv ts td _ =>
    let a := c.desc ts
    let x := c.desc td
    causesOf
      [must (fmtF a && sameShape a x && decide (x.fmt = qFmt (c.q x.qset))) trIllegalOperand 0,
       d.descCause c a 0 false inScratch false, d.descCause c x 1 true inScratch true, c.setCause a 0,
       must (c.setOk x) trQset 1]
  | .dq ts td rc =>
    let a := c.desc ts
    let x := c.desc td
    let y24 : Bool := a.fmt = fY24
    let w := c.s rc
    causesOf
      [must ((a.fmt ≤ fE5M2 || y24) && fmtF x && sameShape a x && (!y24 || (rcOk w false && decide (a.len ≤ 512))))
          trIllegalOperand 0,
       d.descCause c a 0 false inScratch false, d.descCause c x 1 true inScratch (a.sref = 1),
       if y24 then d.tileCause c (rcTile c.r w) else none, c.setCause a 0, must (c.setOk x) trQset 1]
  | _ => []

/-- The unit of a V-slot instruction (0 array, 1 vector pipe, 2 quantiser engine), the cycles it occupies it, and the
cycle from issue at which it is complete (R200, R307). -/
def Ctx.costV (c : Ctx) (op : SlotOp) : Nat × Nat × Nat :=
  let rows (x : Desc) : Nat := x.count * ceilDiv x.len 64
  let on (u occ after : Nat) : Nat × Nat × Nat := (u, occ, occ + after)
  match op with
  | .vmm ta tb _ =>
    on 0 (vmmCycles ((dmuClass (c.desc ta).fmt).getD 0) (c.desc ta).count (c.desc tb).len (c.desc ta).len) 20
  | .vmmE _ tb td _ =>
    let occ := vmmCycles 2 (c.desc td).count (c.desc td).len (c.desc tb).count
    on 0 occ (c.ps.hbmBound + 20)
  | .vadd _ _ td _ _ | .vmul _ _ td _ => on 1 (rows (c.desc td)) 12
  | .vact ts _ _ _ _ => on 1 (rows (c.desc ts)) 12
  | .vsmax ts _ => on 1 (3 * rows (c.desc ts)) 30
  | .vnormL ts _ _ _ => on 1 (3 * rows (c.desc ts)) 30
  | .vnormR ts _ _ _ => on 1 (2 * rows (c.desc ts)) 30
  | .vadapt tw _ _ _ _ => on 1 (4 * ceilDiv ((c.desc tw).count * (c.desc tw).len) 64) 20
  | .qscan ts _ => on 2 (rows (c.desc ts) + (c.desc ts).count) 12
  | .qconv ts _ _ => on 2 (rows (c.desc ts) + (c.desc ts).count) 12
  | .dq ts _ _ => on 2 (rows (c.desc ts)) 12
  | _ => (3, 0, 0)

/-- Cycles counted in BUSY_CYCLES: the issue cycles of R200, R213 and R217. -/
def Ctx.dmuBusy (c : Ctx) (op : SlotOp) : Nat :=
  match op with
  | .vmm _ _ _ | .vmmE _ _ _ _ | .vadapt _ _ _ _ _ => (c.costV op).2.1
  | _ => 0

/-- Bytes of a tensor with the records it has. -/
def Ctx.spanOf (c : Ctx) (x : Desc) : List (Nat × Nat) :=
  x.ranges ++ if x.sref = 1 then c.recRanges x 0 x.count else []

/-- Bytes a V-slot instruction reads (R294). -/
def Ctx.readsV (c : Ctx) (op : SlotOp) : List (Nat × Nat) :=
  match op with
  | .vmm ta tb _ => c.spanOf (c.desc ta) ++ c.spanOf (c.desc tb)
  | .vmmE ta tb td _ => c.spanOf (c.desc ta) ++ c.spanOf (c.desc tb) ++ c.recRanges (c.desc td) 0 (c.desc td).count
  | .vadd ta tb _ _ _ | .vmul ta tb _ _ => c.spanOf (c.desc ta) ++ c.spanOf (c.desc tb)
  | .vact ts _ tbl fn _ =>
    c.spanOf (c.desc ts) ++ if fn = 0 then [(spAct * 2 ^ 40 + 0x1000 * tbl, spAct * 2 ^ 40 + 0x1000 * (tbl + 1))] else []
  | .vsmax ts _ | .qscan ts _ | .dq ts _ _ => c.spanOf (c.desc ts)
  | .vnormL ts _ tg _ | .vnormR ts _ tg _ => c.spanOf (c.desc ts) ++ c.spanOf (c.desc tg)
  | .vadapt tw tg tm adaptive _ =>
    c.spanOf (c.desc tw) ++ c.spanOf (c.desc tg) ++ c.spanOf (c.desc tm) ++
      if adaptive then c.spanOf (c.desc (tm + 1)) else []
  | .qconv ts td _ => c.spanOf (c.desc ts) ++ c.recRanges (c.desc td) 0 (c.desc td).count
  | _ => []

/-- Tensors a V-slot instruction writes. -/
def Ctx.destsV (c : Ctx) (op : SlotOp) : List Desc :=
  match op with
  | .vmm _ _ td | .vmmE _ _ td _ | .vadd _ _ td _ _ | .vmul _ _ td _ | .vact _ td _ _ _ | .vsmax _ td | .vnormL _ td _ _
  | .vnormR _ td _ _ | .qconv _ td _ | .dq _ td _ => [c.desc td]
  | .vadapt tw _ tm adaptive _ => [c.desc tw, c.desc tm] ++ if adaptive then [c.desc (tm + 1)] else []
  | _ => []

/-- Bytes a V-slot instruction writes (R294). -/
def Ctx.writesV (c : Ctx) (op : SlotOp) : List (Nat × Nat) :=
  match op with
  | .qscan _ td => c.recRanges (c.desc td) 0 (c.desc td).count
  | _ => (c.destsV op).flatMap c.spanOf

/-- What a V-slot instruction computes (R307 to R313). -/
def Device.runV (d : Device) (c : Ctx) (op : SlotOp) : VRes :=
  match op with
  | .vmm ta tb td => d.vmm c (c.desc ta) (c.desc tb) (c.desc td)
  | .vmmE ta tb td rc => d.vmmE c (c.desc ta) (c.desc tb) (c.desc td) (rcTile c.r (c.s rc))
  | .vadd ta tb td bc sub => d.vBinary c (c.desc ta) (c.desc tb) (c.desc td) bc (b2n sub)
  | .vmul ta tb td bc => d.vBinary c (c.desc ta) (c.desc tb) (c.desc td) bc 2
  | .vact ts td tbl fn rs => d.vact c (c.desc ts) (c.desc td) tbl fn rs
  | .vsmax ts td => d.vsmax c (c.desc ts) (c.desc td)
  | .vnormL ts td tg re => d.vnorm c (c.desc ts) (c.desc td) (c.desc tg) true re
  | .vnormR ts td tg re => d.vnorm c (c.desc ts) (c.desc td) (c.desc tg) false re
  | .vadapt tw tg tm adaptive rh =>
    d.vadapt c (c.desc tw) (c.desc tg) (c.desc tm) (c.desc (if adaptive then tm + 1 else tm)) adaptive rh
  | .qscan ts td => d.qscan c (c.desc ts) (c.desc td)
  | .qconv ts td _ => d.qconv c (c.desc ts) (c.desc td)
  | .dq ts td rc => d.dq c (c.desc ts) (c.desc td) (rcTile c.r (c.s rc))
  | _ => { dev := d, late := none, pm := false }

/-- A V-slot instruction issues: its unit is occupied, its bytes are busy until it completes, and its results are written; a
cause found late leaves its destinations unspecified (R256) and is answered for the bundle boundary: `bad` is an
uncorrectable error in what it reads (R207, R236). (DESIGN CHOICE, assumption log 17, DEDUCED, assumption log 58.) -/
def Device.doV (d : Device) (c : Ctx) (op : SlotOp) (bad : Bool) : Device × Option Nat :=
  let (u, occ, done) := c.costV op
  let at_ := c.cycle + done
  let d := d.updRegion c.r fun g =>
    { g with arrayFree := if u = 0 then c.cycle + occ else g.arrayFree,
             arrayDone := if u = 0 then max g.arrayDone at_ else g.arrayDone,
             pipeFree := if u = 1 then c.cycle + occ else g.pipeFree,
             quantFree := if u = 2 then c.cycle + occ else g.quantFree,
             busy := g.busy ++ (c.writesV op).map fun w => (w.1, w.2, at_),
             busyR := g.busyR ++ (c.readsV op).map fun w => (w.1, w.2, at_),
             dmu := { g.dmu with busyCycles := (g.dmu.busyCycles + c.dmuBusy op) % 2 ^ 64 } }
  let res : VRes := if bad then { dev := d, late := some trDataEcc, pm := false } else d.runV c op
  match res.late with
  | some k => ((c.destsV op).foldl (fun d x => d.scramble c x) d, some k)
  | none =>
    match op with
    | .qconv _ _ pm => (res.dev.write c (.p pm) done (b2n res.pm), none)
    | _ => (res.dev, none)

end Sys2Proof.Machine
end

