-- ==== Sys2Proof/Machine/Issue.lean ====
section
/-! DEFINITION. How a bundle issues (R237 to R247, R254 to R258): its legality, what it waits for, its traps, and the
effects of its slots in the order the rules give. A bundle arrives slot by slot; the slot marked last completes it
(DESIGN CHOICE, assumption log 13). -/
namespace Sys2Proof.Machine

/-! ### Slots of a bundle -/

/-- The class of an instruction: 0 C, 1 M, 2 T, 3 V; a NOP belongs to the slot it stands in and is given 4. -/
def SlotOp.cls : SlotOp → Nat
  | .nop => 4
  | .br _ | .brc _ _ _ | .call _ | .ret | .loopI _ | .loopR _ | .loopE | .waitM _ | .waitB | .yieldTest _ | .seal | .halt
  | .trap _ | .alu _ _ _ | .addi _ _ | .movi _ _ | .shli _ _ | .shri _ _ | .sari _ _ | .cmp _ _ _ _ | .limm _ _ _ _ => 0
  | .movS _ _ | .movSA _ _ | .movAS _ _ | .movAI _ _ | .movAA _ _ | .movTA _ _ | .movTS _ _ _ | .movST _ _ _ | .movPS _
  | .movSP _ | .movQS _ _ _ | .movSQ _ _ _ | .movL _ _ _ | .movW _ _ _ | .movSM _ _ | .xferD _ _ | .xferB _ _ _
  | .ctxGet _ _ | .ctxPut _ _ _ | .send _ _ | .egress _ _ => 1
  | .tileMvm _ _ _ _ | .tileLoad _ _ _ | .tileRead _ _ _ | .tileChk _ _ _ | .tileSight _ => 2
  | .vmm _ _ _ | .vmmE _ _ _ _ | .vadd _ _ _ _ _ | .vmul _ _ _ _ | .vact _ _ _ _ _ | .vsmax _ _ | .vnormL _ _ _ _
  | .vnormR _ _ _ _ | .vadapt _ _ _ _ _ | .qscan _ _ | .qconv _ _ _ | .dq _ _ _ => 3

/-- The slot of a class in a bundle. -/
def slotOfClass (b : List Slot) (k : Nat) : Option Slot := b.find? fun s => s.op.cls = k

/-- A long-immediate bundle carries no C or M instruction (R267, R269). -/
def isLimm : SlotOp → Bool
  | .limm _ _ _ _ => true
  | _ => false

/-- Registers an instruction writes for the rule of R238; p0 is none (R227, R293). -/
def SlotOp.targets (op : SlotOp) : List RegTarget :=
  let pred (n : Nat) : List RegTarget := if n = 0 then [] else [.p n]
  match op with
  | .alu _ rd _ | .addi rd _ | .movi rd _ | .shli rd _ | .shri rd _ | .sari rd _ => [.s rd]
  | .cmp _ pd _ _ => pred pd
  | .limm sd _ _ _ | .movS sd _ | .movAS sd _ | .movST sd _ _ | .movSP sd | .movSQ sd _ _ | .movL sd _ _ | .movSM sd _ =>
    [.s sd]
  | .movSA ad _ | .movAI ad _ | .movAA ad _ => [.a ad]
  | .movTA tn _ | .movTS tn _ _ => [.t tn]
  | .movPS _ => [.p 1, .p 2, .p 3, .p 4, .p 5, .p 6, .p 7]
  | .movQS qn _ _ => [.q qn]
  | .tileMvm _ _ _ pm | .tileRead _ _ pm | .qconv _ _ pm => pred pm
  | .tileChk _ pd sd => .s sd :: pred pd
  | _ => []

/-- No element appears twice. -/
def distinct {α : Type} [DecidableEq α] (l : List α) : Bool := l.eraseDups.length = l.length

/-- The bundle is legal, targets and fall-through apart (R238). -/
def bundleLegal (b : List Slot) : Bool :=
  let ops := b.filter fun s => s.op ≠ .nop
  let classes := ops.flatMap fun s => if isLimm s.op then [0, 1] else [s.op.cls]
  b.all Slot.legal && distinct classes && distinct (ops.flatMap fun s => s.op.targets)

/-- An unguarded BR, RET, HALT or TRAP leaves no fall-through (R270). -/
def noFallThrough (b : List Slot) : Bool :=
  b.any fun s => s.g = { gp := 0, gn := false } && match s.op with
    | .br _ | .ret | .halt | .trap _ => true
    | _ => false

/-- Every static target and the fall-through lie within the program's range (R238, R270). -/
def Ctx.rangesOk (c : Ctx) (b : List Slot) : Bool :=
  (noFallThrough b || c.ps.inRange (c.bank.pc + 1)) && b.all fun s =>
    match s.op with
    | .br t | .call t => decide (t < c.ps.len)
    | .brc _ _ off => decide (0 ≤ (c.bank.pc : Int) + off) && c.ps.inRange ((c.bank.pc : Int) + off).toNat
    | _ => true

/-! ### What a bundle waits for (R235, R237, R242, R294, R298) -/

/-- Bytes an M- or T-slot instruction reads. -/
def Ctx.readsMT (c : Ctx) (op : SlotOp) : List (Nat × Nat) :=
  match op with
  | .movL _ as_ off => [(c.movAddr as_ off, c.movAddr as_ off + 8)]
  | .xferD _ ts => c.spanOf (c.desc ts)
  | .xferB _ as_ sl => [(c.a as_, c.a as_ + c.s sl)]
  | .ctxPut _ as_ del => if del then [] else [(c.a as_, c.a as_ + 128)]
  | .send ts _ => (c.desc ts).ranges
  | .egress ts _ => c.spanOf (c.desc ts)
  | .tileMvm rc ts _ _ =>
    let x := c.desc ts
    let n := rcCount (c.s rc)
    (x.rangesOf ((List.range n).map fun k => rcFirst (c.s rc) + k)) ++ c.recRanges x (rcFirst (c.s rc)) n
  | .tileLoad rc ts _ => (c.desc ts).rangesOf [rcFirst (c.s rc)] ++ c.recRanges (c.desc ts) (rcFirst (c.s rc)) 1
  | _ => []

/-- Bytes an M- or T-slot instruction writes. -/
def Ctx.writesMT (c : Ctx) (op : SlotOp) : List (Nat × Nat) :=
  match op with
  | .movW _ as_ off => [(c.movAddr as_ off, c.movAddr as_ off + 8)]
  | .xferD td _ => c.spanOf (c.desc td)
  | .xferB ad _ sl => [(c.a ad, c.a ad + c.s sl)]
  | .ctxGet _ ad => [(c.a ad, c.a ad + 128)]
  | .tileMvm rc _ td _ =>
    let y := c.desc td
    let n := rcCount (c.s rc)
    (y.rangesOf ((List.range n).map fun k => rcFirst (c.s rc) + k)) ++ c.recRanges y (rcFirst (c.s rc)) n
  | .tileRead rc td _ => (c.desc td).rangesOf [rcFirst (c.s rc)] ++ c.recRanges (c.desc td) (rcFirst (c.s rc)) 1
  | _ => []

/-- Bytes a slot reads and writes. The rule of R294 holds for the T and V slots whatever the guard; the M slot waits
only when it executes (R240). -/
def Ctx.touches (c : Ctx) (s : Slot) : List (Nat × Nat) × List (Nat × Nat) :=
  if s.op.cls = 1 ∧ ¬ c.guard s.g then ([], [])
  else (c.readsMT s.op ++ c.readsV s.op, c.writesMT s.op ++ c.writesV s.op)

/-- Logical tiles a T-slot instruction names, its twin included (R298, R426). -/
def Device.tilesNamed (d : Device) (c : Ctx) (op : SlotOp) : List Nat :=
  match op with
  | .tileMvm rc _ _ _ | .tileLoad rc _ _ => d.tilePair c.stream (rcTile c.r (c.s rc))
  | .tileRead rc _ _ | .tileChk rc _ _ | .tileSight rc => [rcTile c.r (c.s rc)]
  | _ => []

/-- The cycle from which the unit an instruction needs is free (R237, R280, R298, R307). -/
def Device.unitFree (d : Device) (c : Ctx) (op : SlotOp) : Nat :=
  let g := d.region c.r
  match op with
  | .xferD _ _ | .xferB _ _ _ | .ctxGet _ _ | .ctxPut _ _ _ => g.engineFree
  | .send _ _ | .egress _ _ => g.egressFree
  | _ =>
    if op.cls = 2 then ((d.tilesNamed c op).map fun lt => tget 0 g.tileFree lt).foldl max 0
    else
      let u := (c.costV op).1
      if u = 0 then g.arrayFree else if u = 1 then g.pipeFree else if u = 2 then g.quantFree else 0

/-- The latest completion among ranges that meet any of a list. -/
def clearOf (busy : List (Nat × Nat × Nat)) (l : List (Nat × Nat)) : Nat :=
  (busy.filter fun w => l.any fun x => meets (w.1, w.2.1) x).foldl (fun m w => max m w.2.2) 0

/-- The earliest cycle, not before `t`, that the occupancy waits of a bundle allow, by what its instructions read at
cycle `t` (R237, R294). -/
def Device.readyAt (d : Device) (r : Nat) (b : List Slot) (t : Nat) : Nat :=
  let c := d.ctx r t
  let g := d.region r
  b.foldl (fun m s =>
    let (rd, wr) := c.touches s
    let m := if c.guard s.g then max m (d.unitFree c s.op) else m
    max m (max (clearOf g.busy (rd ++ wr)) (clearOf g.busyR wr))) t

/-- The issue cycle: the first at which nothing is waited for. (DEDUCED, assumption log 52.) -/
def Device.issueCycle (d : Device) (r : Nat) (b : List Slot) (fuel t : Nat) : Nat :=
  match fuel with
  | 0 => t
  | n + 1 => if d.readyAt r b t ≤ t then t else d.issueCycle r b n (d.readyAt r b t)

/-- The cycle from which no occupancy wait holds a bundle that comes to issue now (R237). -/
def Device.readyCycle (d : Device) (r : Nat) (b : List Slot) : Nat :=
  let g := d.region r
  d.issueCycle r b (g.pend.length + g.busy.length + g.busyR.length + 8) g.cyc

/-- Output tokens and their records that MVMs of a region have still to write, each with the cycle on which its entry completes it
(R294, R296). -/
def Device.mvmWrites (d : Device) (r : Nat) : List (Nat × Nat × Nat) :=
  (d.tiles.filter fun e => ptRegion e.1 = r).flatMap fun e =>
    (e.2.bursts.filter fun b => !b.hold && !b.twin).flatMap (fun b =>
      (List.range b.tokens.length).flatMap fun i =>
        let done := b.pmAt - 125 * (b.tokens.length - 1 - i)
        match b.tokens[i]? with
        | some (k : BurstToken) => [(k.dst, k.dst + b.outs * elemBytes b.fmt, done), (k.recd, k.recd + 8, done)]
        | none => [])
    ++ (e.2.flight.filter fun m => !m.complete).flatMap fun m => m.writes.map fun w => (w.1, w.2, m.doneAt)

/-- A bundle issues only once the predicates of earlier MVMs that are visible by its cycle have come (R241, R296). One whose MVMs
have moved past their cycle comes later. -/
def Device.predicateDue (d : Device) (c : Ctx) : Bool :=
  let due (slot pm at_ : Nat) : Bool := slot = c.slot && pm ≠ 0 && decide (at_ ≤ c.cycle) && decide (d.nowCycle < at_)
  d.tiles.any fun e => decide (ptRegion e.1 = c.r) &&
    ((e.2.bursts.any fun b => !b.twin && due b.slot b.pm b.pmAt) ||
      e.2.flight.any fun m => !m.twin && m.last && !m.complete && due m.slot m.pm m.pmAt)

/-- An outstanding transfer of some kinds has still to write bytes of a list (R235). -/
def Region.meetsXfer (g : Region) (kinds : XferKind → Bool) (l : List (Nat × Nat)) : Bool :=
  g.xfers.any fun x => kinds x.kind &&
    (x.writes ++ x.recs).any fun w => l.any fun y => meets (w.1, w.1 + w.2.length) y

/-- Transfers with an end in HBM; the others come from local sources and stay local or go to another region (R235, R242). -/
def XferKind.hbm : XferKind → Bool
  | .localCopy | .remote => false
  | .hbmRead | .hbmWrite | .ctxGet | .ctxPut => true

/-- The transfer engine, where an instruction needs it: what it plans to move (R280, R283). -/
def Device.engineMove (d : Device) (c : Ctx) (op : SlotOp) : Option Move :=
  let hub : Move := { kind := .ctxGet, writes := [], requests := 1, flits := 0, bytes := 128, remote := none }
  match op with
  | .ctxGet _ _ | .ctxPut _ _ _ => some hub
  | .xferD td ts => some (d.planD c (c.desc td) (c.desc ts))
  | .xferB ad as_ sl => some (d.planB c (c.a ad) (c.a as_) (c.s sl))
  | _ => none

/-- A slot waits for an operation whose end is an event: a transfer from a local source or an MVM that has bytes of its own still
to write, whatever its guard (R235, R294), and a transfer that waits inside the engine for room in the region's queue (R283).
(DEDUCED, assumption log 52.) -/
def Device.slotWaits (d : Device) (c : Ctx) (s : Slot) : Bool :=
  let g := d.region c.r
  let (rd, wr) := c.touches s
  g.meetsXfer (fun k => !k.hbm) (rd ++ wr) ||
    ((d.mvmWrites c.r).any fun w => decide (d.nowCycle < w.2.2) && (rd ++ wr).any fun x => meets (w.1, w.2.1) x) ||
    (c.guard s.g && (d.engineMove c s.op).isSome && decide (32 < g.requests))

/-- The stalls that hold a slot (R242, R298), VMM.E's read of HBM among them (R307): only an instruction whose guard is true stalls (R240). (DEDUCED, assumption log
52.) -/
def Device.slotStalls (d : Device) (c : Ctx) (s : Slot) : List StallSrc :=
  let g := d.region c.r
  let (rd, wr) := c.touches s
  let when_ (p : Bool) (x : StallSrc) : List StallSrc := if p then [x] else []
  let credit (kind dest flits : Nat) : List StallSrc := when_ (!d.hasCredit c.stream c.r kind dest flits) .fabric
  let onTile := match s.op with
    | .tileMvm _ _ _ _ | .tileLoad _ _ _ | .tileSight _ => (d.tilesNamed c s.op).any fun lt => match d.physOf lt with
        | none => false
        | some p => (d.tile p).bursts.any fun b => !b.hold
    | _ => false
  let moved := (d.mvmWrites c.r).any fun w => decide (w.2.2 ≤ d.nowCycle) && (rd ++ wr).any fun x => meets (w.1, w.2.1) x
  if !c.guard s.g then []
  else
    when_ (g.meetsXfer XferKind.hbm (rd ++ wr)) .hbm ++ when_ (onTile || moved) .tile ++
      match s.op with
      | .send ts ch => credit 3 ch (ceilDiv ((c.desc ts).count * (c.desc ts).len * (c.desc ts).es) 64)
      | .egress ts _ => credit 1 0 (ceilDiv ((c.desc ts).count * (c.desc ts).len * (c.desc ts).es) 64)
      | .vmmE _ _ _ _ => when_ (decide (32 ≤ g.requests)) .hbm
      | op =>
        match d.engineMove c op with
        | none => []
        | some m =>
          when_ (m.requests ≠ 0 && decide (32 ≤ g.requests)) .hbm ++
            match m.remote with
            | some q => credit 0 q m.flits
            | none => []

/-- What holds a bundle: events that its occupancy waits end with, or stalls (R237, R243). -/
def Device.bundleWaits (d : Device) (c : Ctx) (b : List Slot) : Bool := d.predicateDue c || b.any (d.slotWaits c)
def Device.bundleStalls (d : Device) (c : Ctx) (b : List Slot) : List StallSrc := (b.flatMap (d.slotStalls c)).eraseDups
def Device.bundleHeld (d : Device) (c : Ctx) (b : List Slot) : Bool := d.bundleWaits c b || !(d.bundleStalls c b).isEmpty

/-! ### Checks and effects -/

/-- The check of one slot at issue; a false guard raises nothing (R240). -/
def Device.checkSlot (d : Device) (c : Ctx) (s : Slot) : List Cause :=
  if !c.guard s.g then []
  else if s.op.cls = 0 then d.checkC c s.op
  else if s.op.cls = 1 then d.checkM c s.op
  else if s.op.cls = 2 then d.checkT c s.op
  else d.checkV c s.op

/-- Causes of a bundle in slot order C, M, T, V, with their slot classes (R257). -/
def Device.causes (d : Device) (c : Ctx) (b : List Slot) : List (Nat × Cause) :=
  [0, 1, 2, 3].flatMap fun k =>
    match slotOfClass b k with
    | none => []
    | some s => (d.checkSlot c s).map fun x => (k, x)

/-- The tile-busy stall of a bundle, in cycles: until the first strobes of its T-slot instruction may fall (R242, R298). A bundle
that traps does not stall (R255). -/
def Device.tileStall (d : Device) (c : Ctx) (b : List Slot) : Nat :=
  match slotOfClass b 2 with
  | none => 0
  | some s =>
    match s.op with
    | .tileMvm _ _ _ _ =>
      if c.guard s.g ∧ d.causes c b = [] then
        ceilDiv ((d.firstStrobe (d.tilesNamed c s.op) - d.afterCycles 80) * 125000) 196608
      else 0
    | _ => 0

/-- The cycle at which a bundle would issue now. -/
def Device.issueAt (d : Device) (r : Nat) (b : List Slot) : Nat :=
  let t := d.readyCycle r b
  t + d.tileStall (d.ctx r t) b

/-- Record the longest stall of each of some sources (R243). -/
def SeqRegs.stalled (q : SeqRegs) (l : List StallSrc) (n : Nat) : SeqRegs :=
  l.foldl (fun q x => match x with
    | .tile => { q with stallMaxTile := max q.stallMaxTile n }
    | .fabric => { q with stallMaxFab := max q.stallMaxFab n }
    | .hbm => { q with stallMaxHbm := max q.stallMaxHbm n }) q

/-- The region is left at the issue cycle: writes visible by then are in the bank, finished work is dropped. -/
def Device.settleAt (d : Device) (c : Ctx) : Device :=
  d.updRegion c.r fun g =>
    { g with arch := tset g.arch c.slot c.bank, pend := g.pend.filter fun w => decide (c.cycle < w.cycle), cyc := c.cycle,
             sinceYield := g.sinceYield + (c.cycle - g.cyc),
             busy := g.busy.filter fun w => decide (c.cycle < w.2.2),
             busyR := g.busyR.filter fun w => decide (c.cycle < w.2.2) }

/-- PC, stacks and the next issue cycle after a bundle (R239, R272). -/
def Device.setFlow (d : Device) (c : Ctx) (f : Flow) : Device :=
  d.updRegion c.r fun g =>
    { g with arch := tupd .reset g.arch c.slot fun b => { b with pc := f.pc, loop := f.loop, ret := f.ret },
             cyc := c.cycle + f.gap, sinceYield := g.sinceYield + f.gap }

/-- A yield point passes (R252). -/
def Device.yieldPoint (d : Device) (r : Nat) : Device := d.updRegion r fun g => { g with sinceYield := 0, gapSeen := false }

/-- The last effect of a C-slot instruction: waits, yields, seals, ends (R239, R245, R246, R249, R278). -/
def Device.endC (d : Device) (c : Ctx) (op : SlotOp) : Device :=
  match op with
  | .waitM rs =>
    let at_ := ofMer (c.s rs)
    let d := d.yieldPoint c.r
    if d.came at_ then d.onTime at_ (unitRegion c.r) (unitRegion c.r + 2 ^ 28) c.stream
    else d.updRegion c.r fun g => { g with wait := some (.until_ at_) }
  | .waitB =>
    let n := (d.stream c.stream).almanac
    (d.yieldPoint c.r).updRegion c.r fun g => { g with wait := some (.beat (beatStartNo n (beatNo n d.clk.now + 1))) }
  | .yieldTest offer =>
    (d.yieldPoint c.r).updRegion c.r fun g =>
      match g.tests with
      | [] => g
      | t :: rest =>
        if t.len ≤ offer then
          { g with tests := rest, running := some t, yieldedFrom := true, offerEnd := d.real + usTc offer,
                   regs := { g.regs with st := .yielded } }
        else g
  | .seal => d.closeGroup c.r c.stream
  | .halt => d.endActivation c.r
  | _ => d.scalarC c op

/-- The effects of a bundle that raises nothing: M, T and V slots, then the C slot; errors met in what the slots read are
counted, and raise DATA_ECC late where uncorrectable (R207, R236, R239, R255, R256). -/
def Device.effects (d : Device) (c : Ctx) (b : List Slot) : Device :=
  let on (k : Nat) : Option Slot := (slotOfClass b k).filter fun s => c.guard s.g
  let d := match on 1 with | some s => if s.ecc.bad then d.spoilM c s.op else d.doM c s.op | none => d
  let d := match on 2 with | some s => if s.ecc.bad then d.spoilT c s.op else d.doT c s.op | none => d
  let (d, late) := match on 3 with | some s => d.doV c s.op s.ecc.bad | none => (d, none)
  let d := match slotOfClass b 0 with
    | some s => if c.guard s.g then (d.setFlow c (c.flow s.op)).endC c s.op else d.setFlow c (c.flowOff s.op)
    | none => d.setFlow c c.fallThrough
  let trap (code k : Nat) : Trap :=
    { code := code, slotClass := k, late := true, swCode := 0, info := 0, faultPc := c.bank.pc }
  let bad (k : Nat) : List Trap := match on k with | some s => if s.ecc.bad then [trap trDataEcc k] else [] | none => []
  let d := d.lateTogether c.r (bad clM ++ bad clT ++ (late.map fun code => trap code clV).toList)
  forEach [1, 2, 3] (fun k d => match on k with | some s => d.eccFound c.r s.ecc | none => d) d

/-- A trap at issue cancels the whole bundle (R255). -/
def Device.issueTrap (d : Device) (c : Ctx) (code slotClass sw info further : Nat) : Device :=
  d.takeTrap c.r { code := code, slotClass := slotClass, late := false, swCode := sw, info := info, faultPc := c.bank.pc }
    further

/-- The fetch of a bundle met an uncorrectable error (R236). -/
def fetchBad (b : List Slot) : Bool := b.any fun s => decide (s.op = .nop) && s.ecc.bad

/-- The errors that the fetch of a bundle corrected are counted (R236). -/
def Device.fetchFound (d : Device) (r : Nat) (b : List Slot) : Device :=
  (b.filter fun s => decide (s.op = .nop)).foldl (fun d s => d.eccFound r s.ecc) d

/-- Causes of a whole bundle (R238, R257): a fetch that failed hides the rest, and a bundle that is not legal has no causes of its
slots. -/
def Device.bundleCauses (d : Device) (c : Ctx) (b : List Slot) : List (Nat × Cause) :=
  if fetchBad b then [(0, trImemEcc, 0)]
  else
    match causesOf [must (bundleLegal b) trIllegalBundle 0, must (c.rangesOk b) trInstrRange 0] with
    | [] => d.causes c b
    | l => l.map fun x => (0, x)

/-- A bundle issues (R236 to R239, R243, R254 to R258). (DESIGN CHOICE, assumption log 13.) -/
def Device.issueNow (d : Device) (r : Nat) (b : List Slot) : Device :=
  let stall := d.issueAt r b - d.readyCycle r b
  let c := d.ctx r (d.issueAt r b)
  let d := (d.settleAt c).updSeq r fun q => q.stalled [.tile] stall
  let d :=
    match d.bundleCauses c b with
    | (k, (code, info)) :: rest =>
      if code = trSoftware then d.issueTrap c code k info 0 rest.length
      else d.issueTrap c code k 0 info rest.length
    | [] => d.effects c b
  d.fetchFound r b

/-- A region issues bundles: it runs, and no timeline wait holds it (R237). -/
def Device.issues (d : Device) (r : Nat) : Bool := (d.region r).wait.isNone && decide ((d.region r).regs.st = .running)

/-- A bundle is ready to issue now: it traps, or nothing holds it. -/
def Device.canIssue (d : Device) (r : Nat) (b : List Slot) : Bool :=
  let c := d.ctx r (d.issueAt r b)
  d.issues r && (decide (d.bundleCauses c b ≠ []) || !d.bundleHeld c b)

/-- The stalls that hold the oldest bundle now. They begin together, once nothing else holds it, and each is recorded when it
has cleared (R243). -/
def Device.noteStalls (d : Device) (r : Nat) (b : List Slot) : Device :=
  let at_ := d.issueAt r b
  let c := d.ctx r at_
  let now := if d.issues r && !d.bundleWaits c b then d.bundleStalls c b else []
  let cycle := d.nowCycle
  d.updRegion r fun g =>
    { g with stalls := now, heldAt := if g.stalls = [] then max at_ cycle else g.heldAt,
             regs := g.regs.stalled (g.stalls.filter fun x => !now.contains x) (cycle - g.heldAt) }

/-- A complete bundle comes to issue: it issues, or it waits behind what holds it (R243). (DESIGN CHOICE, assumption log
13.) -/
def Device.submit (d : Device) (r : Nat) (b : List Slot) : Device :=
  let first := (d.region r).held = []
  if first ∧ d.canIssue r b then d.issueNow r b
  else
    let d := d.updRegion r fun g => { g with held := g.held ++ [b] }
    if first then d.noteStalls r b else d

/-- The stalls of the oldest bundle have cleared: they are recorded, and it issues no earlier than now (R243). -/
def Region.endStalls (now : Nat) (g : Region) : Region :=
  if g.stalls = [] then g
  else { g with stalls := [], cyc := max g.cyc now, sinceYield := g.sinceYield + (now - g.cyc),
                regs := g.regs.stalled g.stalls (now - g.heldAt) }

/-- Bundles that wait issue again, oldest first, as long as nothing holds them (R237, R243). -/
def Device.resumeHeld (fuel : Nat) (r : Nat) (d : Device) : Device :=
  match fuel with
  | 0 => d
  | n + 1 =>
    match (d.region r).held with
    | [] => d
    | b :: rest =>
      if d.canIssue r b then
        Device.resumeHeld n r ((d.updRegion r fun g => { g.endStalls d.nowCycle with held := rest }).issueNow r b)
      else d.noteStalls r b

/-- Issue goes on in a region, if it runs. (DEDUCED, assumption log 52.) -/
def Device.resume (d : Device) (r : Nat) : Device := d.resumeHeld ((d.region r).held.length) r

/-- A slot of a bundle arrives. Outside RUNNING and YIELDED nothing issues, and the slot has no effect (R225, R258). (DESIGN
CHOICE, assumption log 13.) -/
def Device.slot (d : Device) (r : Nat) (g : Guard) (last : Bool) (op : SlotOp) (ecc : Ecc := .clean) : Device :=
  let q := d.region r
  if q.regs.st = .running ∨ q.regs.st = .yielded then
    let b := q.staged ++ [{ g := g, op := op, ecc := ecc }]
    if last then (d.updRegion r fun q => { q with staged := [] }).submit r b
    else d.updRegion r fun q => { q with staged := b }
  else d

end Sys2Proof.Machine
end

