-- ==== Sys2Proof/Machine/Encoding.lean ====
section
/-! DEFINITION. The bundle's encoding (R266 to R269, R271, R280, R293, R296, R307): what a 128-bit bundle of an image
holds, and the loader's check of an image (R238, R261, R270, R327). -/
namespace Sys2Proof.Machine

/-- What the bits of a slot say: an instruction of its class, a set bit in an unused position, or another fault
(R268). -/
inductive SlotRead where
  | slot (s : Slot)
  | reserved
  | range
  deriving DecidableEq, Repr

/-- An instruction whose entry uses the slot's bits up to `top`, but for those of `gap`. -/
structure Entry where
  op : SlotOp
  top : Nat
  gap : List Nat := []
  deriving DecidableEq, Repr

/-- The signed field [hi:lo]. -/
def sbits (w hi lo : Nat) : Int := sx (hi - lo + 1) (bits w hi lo)

def aluOf : List AluFn :=
  [.add, .sub, .and, .or, .xor, .shl, .shr, .sar, .mul, .min, .max, .minu, .maxu, .meradd, .fadd, .fmul]

def cmpOf : List CmpFn := [.eq, .ne, .lt, .le, .ltu, .leu]

/-- The C-slot entries (R271); none for an undefined opcode. -/
def entryC (w : Nat) : Option Entry :=
  match bits w 9 4 with
  | 0x01 => some { op := .br (bits w 23 10), top := 23 }
  | 0x02 => some { op := .brc (bits w 14 10) (bits w 17 15) (sbits w 23 18), top := 23 }
  | 0x03 => some { op := .call (bits w 23 10), top := 23 }
  | 0x04 => some { op := .ret, top := 9 }
  | 0x05 => some { op := .loopI (bits w 23 10), top := 23 }
  | 0x06 => some { op := .loopR (bits w 14 10), top := 14 }
  | 0x07 => some { op := .loopE, top := 9 }
  | 0x08 => some { op := .waitM (bits w 14 10), top := 14 }
  | 0x09 => some { op := .waitB, top := 9 }
  | 0x0A => some { op := .yieldTest (bits w 19 10), top := 19 }
  | 0x0B => some { op := .seal, top := 9 }
  | 0x0C => some { op := .halt, top := 9 }
  | 0x0D => some { op := .trap (bits w 17 10), top := 17 }
  | 0x10 => some { op := .alu (aluOf.getD (bits w 23 20) .add) (bits w 14 10) (bits w 19 15), top := 23 }
  | 0x11 => some { op := .addi (bits w 14 10) (sbits w 23 15), top := 23 }
  | 0x12 => some { op := .movi (bits w 14 10) (sbits w 23 15), top := 23 }
  | 0x13 => some { op := .shli (bits w 14 10) (bits w 20 15), top := 20 }
  | 0x14 => some { op := .shri (bits w 14 10) (bits w 20 15), top := 20 }
  | 0x15 => some { op := .sari (bits w 14 10) (bits w 20 15), top := 20 }
  | 0x18 | 0x19 | 0x1A | 0x1B | 0x1C | 0x1D =>
    some { op := .cmp (cmpOf.getD (bits w 9 4 - 0x18) .eq) (bits w 12 10) (bits w 17 13) (bits w 22 18), top := 22 }
  | _ => none

/-- The M-slot entries (R280). -/
def entryM (w : Nat) : Option Entry :=
  match bits w 9 4 with
  | 0x01 => some { op := .movS (bits w 14 10) (bits w 19 15), top := 19 }
  | 0x02 => some { op := .movSA (bits w 13 10) (bits w 19 15), top := 19, gap := [14] }
  | 0x03 => some { op := .movAS (bits w 14 10) (bits w 18 15), top := 18 }
  | 0x04 => some { op := .movAI (bits w 13 10) (sbits w 35 14), top := 35 }
  | 0x05 => some { op := .movAA (bits w 13 10) (bits w 18 14), top := 18 }
  | 0x06 => some { op := .movTA (bits w 15 10) (bits w 19 16), top := 19 }
  | 0x07 => some { op := .movTS (bits w 15 10) (bits w 19 16) (bits w 24 20), top := 24 }
  | 0x08 => some { op := .movST (bits w 14 10) (bits w 20 15) (bits w 24 21), top := 24 }
  | 0x09 => some { op := .movPS (bits w 14 10), top := 14 }
  | 0x0A => some { op := .movSP (bits w 14 10), top := 14 }
  | 0x0B => some { op := .movQS (bits w 13 10) (bit w 14) (bits w 19 15), top := 19 }
  | 0x0C => some { op := .movSQ (bits w 14 10) (bits w 18 15) (bit w 19), top := 19 }
  | 0x0D => some { op := .movL (bits w 14 10) (bits w 18 15) (sbits w 35 19), top := 35 }
  | 0x0E => some { op := .movW (bits w 14 10) (bits w 18 15) (sbits w 35 19), top := 35 }
  | 0x0F => some { op := .movSM (bits w 14 10) (bit w 15), top := 15 }
  | 0x10 => some { op := .xferD (bits w 15 10) (bits w 21 16), top := 21 }
  | 0x11 => some { op := .xferB (bits w 13 10) (bits w 17 14) (bits w 22 18), top := 22 }
  | 0x14 => some { op := .ctxGet (bits w 14 10) (bits w 18 15), top := 18 }
  | 0x15 => some { op := .ctxPut (bits w 14 10) (bits w 18 15) (bit w 19), top := 19 }
  | 0x18 => some { op := .send (bits w 15 10) (bits w 21 16), top := 21 }
  | 0x19 => some { op := .egress (bits w 15 10) (bits w 20 16), top := 20 }
  | _ => none

/-- The T-slot entries (R296). -/
def entryT (w : Nat) : Option Entry :=
  match bits w 9 4 with
  | 0x01 => some { op := .tileMvm (bits w 14 10) (bits w 20 15) (bits w 26 21) (bits w 29 27), top := 29 }
  | 0x02 => some { op := .tileLoad (bits w 14 10) (bits w 20 15) (bits w 25 21), top := 25 }
  | 0x03 => some { op := .tileRead (bits w 14 10) (bits w 20 15) (bits w 23 21), top := 23 }
  | 0x04 => some { op := .tileChk (bits w 14 10) (bits w 17 15) (bits w 22 18), top := 22 }
  | 0x05 => some { op := .tileSight (bits w 14 10), top := 14 }
  | _ => none

/-- The V-slot entries (R307). (DEDUCED, assumption log 51.) -/
def entryV (w : Nat) : Option Entry :=
  let x := bits w 15 10
  let y := bits w 21 16
  let z := bits w 27 22
  match bits w 9 4 with
  | 0x01 => some { op := .vmm x y z, top := 27 }
  | 0x02 => some { op := .vmmE x y z (bits w 31 28), top := 31 }
  | 0x08 => some { op := .vadd x y z (bit w 28) (bit w 29), top := 29 }
  | 0x09 => some { op := .vmul x y z (bit w 28), top := 28 }
  | 0x0A => some { op := .vact x y (bits w 24 22) (bits w 26 25) (bits w 31 27), top := 31 }
  | 0x0B => some { op := .vsmax x y, top := 21 }
  | 0x0C => some { op := .vnormL x y z (bits w 31 28), top := 31 }
  | 0x0D => some { op := .vnormR x y z (bits w 31 28), top := 31 }
  | 0x0E => some { op := .vadapt x y z (bit w 28) (bits w 31 29), top := 31 }
  | 0x10 => some { op := .qscan x y, top := 21 }
  | 0x11 => some { op := .qconv x y (bits w 24 22), top := 24 }
  | 0x12 => some { op := .dq x y (bits w 25 22), top := 25 }
  | _ => none

/-- The word of a slot read through the entries of its class (R268, R293). -/
def readSlot (entry : Nat → Option Entry) (w : Nat) : SlotRead :=
  if bits w 9 4 = 0 then (if w = 0 then .slot { g := { gp := 0, gn := false }, op := .nop } else .reserved)
  else
    match entry w with
    | none => .range
    | some e =>
      let s : Slot := { g := { gp := bits w 2 0, gn := bit w 3 }, op := e.op }
      if decide (w / 2 ^ (e.top + 1) ≠ 0) || e.gap.any (fun i => bit w i) then .reserved
      else if s.legal then .slot s
      else .range

/-- The long immediate of a form 1 bundle (R269). -/
def readLimm (w : Nat) : SlotRead :=
  let s : Slot := { g := { gp := 0, gn := false }, op := .limm (bits w 8 4) (bit w 9) (bit w 10) (bits w 63 32) }
  if bits w 31 11 ≠ 0 then .reserved else if s.legal then .slot s else .range

/-- The slots of a bundle, C and M first (R266, R267); none for an undefined form. -/
def readBundle (w : Nat) : Option (List SlotRead) :=
  let tv := [readSlot entryT (bits w 95 64), readSlot entryV (bits w 127 96)]
  match bits w 1 0 with
  | 0 => some (readSlot entryC (bits w 27 4) :: readSlot entryM (bits w 63 28) :: tv)
  | 1 => some (readLimm w :: tv)
  | _ => none

/-- The instructions of a bundle that are of their class. -/
def slotsOf (l : List SlotRead) : List Slot := l.filterMap fun r => match r with
  | .slot s => some s
  | _ => none

/-- The instructions of bundle w of an image. -/
def bundleSlots (w : Nat) : List Slot := ((readBundle w).map slotsOf).getD []

/-- Every static target and the fall-through of bundle `i` lie within a program of `len` bundles (R238, R270). -/
def staticRangesOk (len i : Nat) (b : List Slot) : Bool :=
  (noFallThrough b || decide (i + 1 < len)) && b.all fun s =>
    match s.op with
    | .br t | .call t => decide (t < len)
    | .brc _ _ off => decide (0 ≤ (i : Int) + off) && decide ((i : Int) + off < len)
    | _ => true

/-- What is wrong with bundle `i` (R238, R261, R268): the status of the refusal. (DEDUCED, assumption log 51.) -/
def bundleFault (len i w : Nat) : Option Nat :=
  let l := (readBundle w).getD []
  if bits w 3 2 ≠ 0 ∨ l.contains .reserved then some stReserved
  else if (readBundle w).isNone || l.contains .range || !bundleLegal (slotsOf l) || !staticRangesOk len i (slotsOf l) then
    some stFieldRange
  else none

/-- A bundle that needs a BOUND record, and one that needs a WAIT record (R327). (DEDUCED, assumption log 51.) -/
def needsBound (b : List Slot) : Bool := b.any fun s => match s.op with
  | .loopR _ => true
  | .brc _ _ off => decide (off ≤ 0)
  | _ => false

def needsWait (b : List Slot) : Bool := b.any fun s => match s.op with
  | .waitM _ => true
  | _ => false

end Sys2Proof.Machine
end

