-- ==== Sys2Proof/Machine/WorstCase.lean ====
section
/-! DEFINITION. Worst-case execution (R326 to R329, R252, R333, R336): the engine's run over every path of a program's
image from a start's entry offset to each HALT (DEDUCED, assumption log 4). -/
namespace Sys2Proof.Machine

/-! ### Units of time -/

/-- Sequencer cycles in Tc, rounded up: 0.8 ns is 196,608 / 125,000 Tc. -/
def cycTc (c : Nat) : Nat := ceilDiv (c * 196608) 125000

/-! ### What the run finds -/

/-- What the run over every path finds for one START record. Cycles are sequencer cycles from the activation's start. -/
structure PathFigures where
  /-- Worst-case length W of the activation. -/
  w : Nat
  /-- Egress instants named by its EGRESS instructions, in Tc from the start of the activation's beat, each with the worst
  case to the end of the egress occupancy (R333). -/
  egress : List (Nat × Nat)
  /-- Flows it uses: destination kind and number, the worst end of a transfer's occupancy in Tc of the beat in which it
  issues, and the flits of the largest transfer (R333, R353). -/
  flows : List (Nat × Nat × Nat × Nat)
  /-- Longest span between yield points (R252). -/
  span : Nat
  /-- Most cycles that its VMM.E instructions can spend of the reserve (check 9 of R330). -/
  escCap : Nat
  /-- Array cycles, and vector pipe or quantiser cycles, at most (R336). -/
  dmuCycles : Nat
  vecCycles : Nat
  /-- Bytes that its VMM.E instructions read of each HBM stack, at most (R340). -/
  rerun0 : Nat
  rerun1 : Nat
  deriving DecidableEq, Repr

/-- Figures of no path. -/
def PathFigures.none : PathFigures :=
  { w := 0, egress := [], flows := [], span := 0, escCap := 0, dmuCycles := 0, vecCycles := 0, rerun0 := 0,
    rerun1 := 0 }

/-- One more egress instant, or a later end for one already named. -/
def addEgress (l : List (Nat × Nat)) (x : Nat × Nat) : List (Nat × Nat) :=
  if l.any fun e => e.1 = x.1 then l.map fun e => if e.1 = x.1 then (e.1, max e.2 x.2) else e else l ++ [x]

/-- One more use of a flow. -/
def addFlow (l : List (Nat × Nat × Nat × Nat)) (x : Nat × Nat × Nat × Nat) : List (Nat × Nat × Nat × Nat) :=
  if l.any fun e => e.1 = x.1 && e.2.1 = x.2.1 then
    l.map fun e => if e.1 = x.1 ∧ e.2.1 = x.2.1 then (e.1, e.2.1, max e.2.2.1 x.2.2.1, max e.2.2.2 x.2.2.2) else e
  else l ++ [x]

/-- The worst of two paths, figure by figure. -/
def PathFigures.join (x y : PathFigures) : PathFigures :=
  { w := max x.w y.w, egress := y.egress.foldl addEgress x.egress, flows := y.flows.foldl addFlow x.flows,
    span := max x.span y.span, escCap := max x.escCap y.escCap, dmuCycles := max x.dmuCycles y.dmuCycles,
    vecCycles := max x.vecCycles y.vecCycles, rerun0 := max x.rerun0 y.rerun0, rerun1 := max x.rerun1 y.rerun1 }

/-! ### What the run is given -/

/-- An activation to be priced: its region and stream, what the claim says of both, and the program's image. -/
structure Priced where
  r : Nat
  stream : Nat
  redundant : Bool
  /-- N of the stream's almanac, and the start's beat offset in Tc. -/
  beats : Nat
  offTc : Nat
  entry : Nat
  image : List Nat
  bank : Bank
  win : List Window
  /-- PS_HBM_BOUND and PS_FAB_BOUND (R329). -/
  hbm : Nat
  fab : Nat
  /-- BOUND records of the program: bundle, iterations at most; WAIT records: bundle, latest release in Tc of the beat. -/
  bounds : List (Nat × Nat)
  waits : List (Nat × Nat)
  /-- FLOW records from the region: destination kind and number, latest arrival in Tc of the beat. -/
  arrivals : List (Nat × Nat × Nat)
  deriving DecidableEq, Repr

/-- The value that goes with a key, or another. -/
def lookupOr (e : Nat) (l : List (Nat × Nat)) (k : Nat) : Nat := ((l.find? fun x => x.1 = k).map fun x => x.2).getD e

/-- Tc of a cycle, from the start of the activation's beat. The activation's beat is taken as beat 0 of frame 0. (DEDUCED,
assumption log 4.) -/
def Priced.tcAt (k : Priced) (t : Nat) : Nat := k.offTc + t * 196608 / 125000

/-- The cycle, rounded up, of a Tc of the activation's beat. -/
def Priced.cycleOf (k : Priced) (tc : Nat) : Nat := ceilDiv ((tc - k.offTc) * 125000) 196608

/-- Start of the beat that contains a cycle, and of the one after. -/
def Priced.beatAt (k : Priced) (t : Nat) : Nat := beatStartNo k.beats (beatNo k.beats (k.tcAt t))
def Priced.beatAfter (k : Priced) (t : Nat) : Nat := beatStartNo k.beats (beatNo k.beats (k.tcAt t) + 1)

/-! ### One path -/

/-- A path under way. The region of `d` is the path's own sequencer: its bank, its occupancies and its next cycle. -/
structure Walk where
  d : Device
  fig : PathFigures
  /-- Cycle of the last yield point. -/
  yieldAt : Nat
  /-- Bytes that HBM transfers have still to write: start, end, cycle of completion at the latest. -/
  hbmOut : List (Nat × Nat × Nat)
  /-- Backward branches taken: bundle, target, depth of the return stack, times taken since the loop was entered. -/
  taken : List (Nat × Nat × Nat × Nat)
  deriving DecidableEq, Repr

/-- The start of a path (R224): t is 8, so that the first bundle issues from 9 on. -/
def Device.walkStart (d : Device) (k : Priced) : Walk :=
  let d := d.updStream k.stream fun x => { x with redundant := k.redundant, almanac := k.beats }
  let d := d.updRegion k.r fun g =>
    { g with
      regs := { g.regs with slot := 0 }, arch := [(0, { k.bank with pc := k.entry, loop := [], ret := [] })],
      ps := [(0, { ProgSlot.reset with st := .valid, stream := k.stream, len := k.image.length, fabBound := k.fab,
                                       hbmBound := k.hbm, win := k.win })],
      cyc := 9, pend := [], engineFree := 0, egressFree := 0, arrayFree := 0, arrayDone := 0, pipeFree := 0, quantFree := 0,
      tileFree := [], busy := [], busyR := [], xfers := [] }
  { d := d, fig := .none, yieldAt := 0, hbmOut := [], taken := [] }

/-- The stall priced for a move of the transfer engine. -/
def Priced.moveStall (k : Priced) (m : Move) : Nat :=
  if m.requests ≠ 0 then k.hbm else if m.remote.isSome then k.fab else 0

/-- The stall priced for a slot (R326). -/
def Walk.stall (w : Walk) (k : Priced) (c : Ctx) (s : Slot) : Nat :=
  let own : Nat := match s.op with
    | .tileMvm .. => 250
    | .tileLoad .. | .tileRead .. | .tileChk .. | .tileSight .. => 125
    | .send .. | .egress .. => k.fab
    | .xferD td ts => k.moveStall (w.d.planD c (c.desc td) (c.desc ts))
    | .xferB ad as_ sl => k.moveStall (w.d.planB c (c.a ad) (c.a as_) (c.s sl))
    | .ctxGet .. | .ctxPut .. | .vmmE .. => k.hbm
    | _ => 0
  let (rd, wr) := c.touches s
  if w.hbmOut.any fun o => decide (c.cycle < o.2.2) && (rd ++ wr).any fun x => meets (o.1, o.2.1) x then max own k.hbm else own

/-- Something completes at a cycle. -/
def Walk.done (w : Walk) (t : Nat) : Walk := { w with fig := { w.fig with w := max w.fig.w t } }

def Walk.region (w : Walk) (k : Priced) (f : Region → Region) : Walk := { w with d := w.d.updRegion k.r f }

/-- The image can write the shape of a descriptor: a MOV.TS names one of its dimensions, or its format and rank (R353). (DEDUCED,
assumption log 4.) -/
def Priced.writesShape (k : Priced) (t : Nat) : Bool :=
  k.image.any fun b => (bundleSlots b).any fun s => match s.op with
    | .movTS n fld _ => decide (n = t) && (decide (1 ≤ fld) && decide (fld ≤ 4) || decide (fld = 9))
    | _ => false

/-- The image can write a scalar register. -/
def Priced.writesS (k : Priced) (n : Nat) : Bool :=
  k.image.any fun b => (bundleSlots b).any fun s => s.op.targets.contains (.s n)

/-- The largest transfer of a remote XFER in flits (R353): its own, or the limit of 4,096 bytes. -/
def Priced.mostFlits (k : Priced) (op : SlotOp) (flits : Nat) : Nat :=
  match op with
  | .xferD td ts => if k.writesShape td || k.writesShape ts then 64 else flits
  | .xferB _ _ sl => if k.writesS sl then 64 else flits
  | _ => flits

/-- A transfer issues: the engine's occupancy, and its completion at the latest (R283). -/
def Walk.move (w : Walk) (k : Priced) (c : Ctx) (op : SlotOp) (m : Move) (dest : Nat) : Walk :=
  let t := c.cycle
  let free := t + m.occupancy
  let w := w.region k fun g => { g with engineFree := free }
  let flow (w : Walk) (kind n : Nat) : Walk :=
    { w with fig := { w.fig with
      flows := addFlow w.fig.flows (kind, n, k.offTc + cycTc free - k.beatAt t, k.mostFlits op m.flits) } }
  match m.kind with
  | .localCopy =>
    (w.region k fun g => { g with busy := g.busy ++ (c.writesMT op).map fun x => (x.1, x.2, free + 16) }).done (free + 16)
  | .remote =>
    let n := m.remote.getD 0
    let by_ := ((k.arrivals.find? fun a => a.1 = 0 && a.2.1 = n).map fun a => k.cycleOf (k.beatAt t + a.2.2)).getD free
    (flow w 0 n).done (max free by_)
  | .hbmWrite => (flow w 2 (offsetOf dest / 2 ^ 34)).done (t + k.hbm)
  | .ctxPut => w.done (t + k.hbm)
  | .hbmRead | .ctxGet =>
    let out : List (Nat × Nat × Nat) := (c.writesMT op).map fun x => (x.1, x.2, t + k.hbm)
    { w with hbmOut := w.hbmOut ++ out }.done (t + k.hbm)

/-- A SEND or EGRESS issues (R288). Its largest transfer is 8,192 bytes where the image can write the shape (R353). -/
def Walk.leave (w : Walk) (k : Priced) (c : Ctx) (ts kind n : Nat) (instant : Option Nat) : Walk :=
  let x := c.desc ts
  let bytes := x.count * x.len * x.es
  let free := c.cycle + ceilDiv bytes 64
  let w := (w.region k fun g => { g with egressFree := free }).done free
  { w with fig := { w.fig with
    flows := addFlow w.fig.flows (kind, n, k.offTc + cycTc free - k.beatAt c.cycle,
      if k.writesShape ts then 128 else ceilDiv bytes 64),
    egress := match instant with | some i => addEgress w.fig.egress (i, free) | none => w.fig.egress } }

/-- Occupancies and completions of an M-slot instruction (R280, R283, R288). -/
def Walk.takeM (w : Walk) (k : Priced) (c : Ctx) (op : SlotOp) : Walk :=
  match op with
  | .xferD td ts => w.move k c op (w.d.planD c (c.desc td) (c.desc ts)) (c.desc td).addr
  | .xferB ad as_ sl => w.move k c op (w.d.planB c (c.a ad) (c.a as_) (c.s sl)) (c.a ad)
  | .ctxGet _ _ =>
    w.move k c op { kind := .ctxGet, writes := [], requests := 1, flits := 0, bytes := 128, remote := none } 0
  | .ctxPut _ _ _ =>
    w.move k c op { kind := .ctxPut, writes := [], requests := 1, flits := 0, bytes := 128, remote := none } 0
  | .send ts ch => w.leave k c ts 3 ch none
  | .egress ts sm => w.leave k c ts 1 0 (if merOk (c.s sm) then some (ofMer (c.s sm)) else none)
  | _ => w

/-- Occupancies and completions of a T-slot instruction (R296 to R306). -/
def Walk.takeT (w : Walk) (k : Priced) (c : Ctx) (op : SlotOp) : Walk :=
  let t := c.cycle
  match op with
  | .tileMvm rc ts td _ =>
    let x := c.s rc
    let n := rcCount x
    let y := c.desc td
    let lts := w.d.tilePair c.stream (rcTile c.r x)
    let d := (w.d.occupyTiles c lts (125 * n)).readLater c (c.desc ts) (rcFirst x) n
    let d := d.updRegion k.r fun g => { g with busy := g.busy ++ (List.range n).flatMap fun i =>
      (y.rangesOf [rcFirst x + i] ++ c.recRanges y (rcFirst x + i) 1).map fun b => (b.1, b.2, t + 306 + 125 * i) }
    { w with d := d }.done (t + 181 + 125 * n)
  | .tileLoad rc ts rm =>
    let due := k.cycleOf (ofMer (c.s rm))
    let strobe := if due < t + 80 then t + 80 else due
    { w with d := w.d.readLater c (c.desc ts) (rcFirst (c.s rc)) 1 }.done (strobe + 210)
  | .tileRead rc td _ =>
    let x := c.s rc
    let lt := rcTile c.r x
    let y := c.desc td
    (w.region k fun g =>
      { g with busy := g.busy ++ (y.rangesOf [rcFirst x] ++ c.recRanges y (rcFirst x) 1).map fun b => (b.1, b.2, t + 24),
               tileFree := tset g.tileFree lt (max (tget 0 g.tileFree lt) (t + 4)) }).done (t + 24)
  | .tileChk _ _ _ => w.done (t + 2)
  | .tileSight rc =>
    let n := rcCount (c.s rc)
    { w with d := w.d.occupyTiles c [rcTile c.r (c.s rc)] (125 * n) }.done (t + 125 * n)
  | _ => w

/-- What one VMM.E can spend: its tokens at the fixed cost of a re-run (R213, R330 check 9). -/
def Ctx.escOf (c : Ctx) (op : SlotOp) : Nat :=
  match op with
  | .vmmE ta tb _ _ => (c.desc ta).count * (ceilDiv (c.desc tb).len 32 * (c.desc tb).count + 20)
  | _ => 0

/-- The HBM stack and the bytes, K × N, that a VMM.E reads as priced (R213, R340). -/
def Walk.rerunOf (w : Walk) (c : Ctx) (op : SlotOp) : Nat × Nat :=
  match op with
  | .vmmE _ tb _ _ =>
    let x := c.desc tb
    (w.d.hbmPhys c.stream c.r (offsetOf (x.tok 0)) / 2 ^ 34 % 2, x.count * x.len)
  | _ => (0, 0)

/-- Occupancies and completions of a V-slot instruction (R307). The HBM read of a VMM.E is in its stall. -/
def Walk.takeV (w : Walk) (k : Priced) (c : Ctx) (op : SlotOp) : Walk :=
  let t := c.cycle
  let (u, occ, full) := c.costV op
  if u = 3 then w
  else
    let last := t + match op with | .vmmE .. => occ + 20 | _ => full
    let w := (w.region k fun g =>
      { g with arrayFree := if u = 0 then t + occ else g.arrayFree, pipeFree := if u = 1 then t + occ else g.pipeFree,
               quantFree := if u = 2 then t + occ else g.quantFree,
               busy := g.busy ++ (c.writesV op).map fun x => (x.1, x.2, last),
               busyR := g.busyR ++ (c.readsV op).map fun x => (x.1, x.2, last) }).done last
    { w with fig := { w.fig with
      escCap := w.fig.escCap + c.escOf op, dmuCycles := w.fig.dmuCycles + if u = 0 then occ else 0,
      vecCycles := w.fig.vecCycles + if u = 0 then 0 else occ,
      rerun0 := w.fig.rerun0 + if (w.rerunOf c op).1 = 0 then (w.rerunOf c op).2 else 0,
      rerun1 := w.fig.rerun1 + if (w.rerunOf c op).1 = 1 then (w.rerunOf c op).2 else 0 } }

/-- Registers that a slot of a bundle writes. What memory, tiles or the quantiser bring is not in the image: the engine's
value for it is `Config.unfixed` of the bundle (DESIGN CHOICE, assumption log 96). -/
def Walk.regsOf (w : Walk) (k : Priced) (c : Ctx) (bundle : Nat) (op : SlotOp) : Walk :=
  let v := (Config.unfixed (BitVec.ofNat 128 bundle)).toNat
  let d := w.d
  { w with d := match op with
    | .movL sd _ _ => d.write c (.s sd) 6 v
    | .movSM sd beat => d.write c (.s sd) 2 (merOf (if beat then k.beatAt c.cycle else k.tcAt c.cycle / 4 * 4))
    | .tileMvm rc _ _ pm => d.write c (.p pm) (181 + 125 * rcCount (c.s rc)) (v % 2)
    | .tileRead _ _ pm => d.write c (.p pm) 24 (v % 2)
    | .tileChk _ pd sd => (d.write c (.s sd) 2 (v % 2 ^ 16)).write c (.p pd) 2 (b2n (v % 2 ^ 16 ≠ 0))
    | .qconv _ _ pm => d.write c (.p pm) (c.costV op).2.2 (v % 2)
    | .movS _ _ | .movSA _ _ | .movAS _ _ | .movAI _ _ | .movAA _ _ | .movTA _ _ | .movTS _ _ _ | .movST _ _ _ | .movPS _
    | .movSP _ | .movQS _ _ _ | .movSQ _ _ _ => d.doM c op
    | _ => d.scalarC c op }

/-! ### Bundles -/

/-- An instruction as the engine prices it: as executing (R240). -/
def Slot.priced (s : Slot) : Slot := { s with g := { gp := 0, gn := false } }

def Slot.guarded (s : Slot) : Bool := decide (s.g ≠ { gp := 0, gn := false })

/-- A bundle of the path issues: occupancy waits, stalls, then its slots (R326). -/
def Walk.issue (w : Walk) (k : Priced) (bundle : Nat) : Walk × Ctx :=
  let b := (bundleSlots bundle).map Slot.priced
  let c := w.d.ctx k.r (w.d.issueAt k.r b)
  let stall := (b.map fun s => w.stall k c s).foldl max 0
  let c := w.d.ctx k.r (c.cycle + stall)
  let met (o : Nat × Nat × Nat) : Bool := b.any fun s =>
    let (rd, wr) := c.touches s
    (rd ++ wr).any fun x => meets (o.1, o.2.1) x
  let w := { w with d := w.d.settleAt c, hbmOut := w.hbmOut.filter fun o => decide (c.cycle < o.2.2) && !met o }
  (b.foldl (fun w s => (((w.takeM k c s.op).takeT k c s.op).takeV k c s.op).regsOf k c bundle s.op) w, c)

/-- A yield point passes at a cycle, and issue goes on from another (R252). -/
def Walk.yields (w : Walk) (k : Priced) (at_ on_ : Nat) : Walk :=
  let w := w.region k fun g => { g with cyc := on_ + 1 }
  { w with fig := { w.fig with span := max w.fig.span (at_ - w.yieldAt) }, yieldAt := on_ }

/-- The path ends with a HALT (R326). -/
def Walk.halt (w : Walk) (c : Ctx) : PathFigures :=
  { w.fig with w := max w.fig.w c.cycle, span := max w.fig.span (c.cycle - w.yieldAt) }

/-- The path goes on at a place; a backward branch whose loop it leaves is forgotten. (DEDUCED, assumption log 4.) -/
def Walk.follow (w : Walk) (c : Ctx) (f : Flow) : Walk :=
  { w with d := w.d.setFlow c f,
           taken := w.taken.filter fun e =>
             decide (e.2.2.1 < f.ret.length) || (decide (e.2.2.1 = f.ret.length) && decide (e.2.1 ≤ f.pc) && decide (f.pc ≤ e.1)) }

/-- The ways a path goes on after a bundle: branches in both directions, a backward branch at most as often as its BOUND
record lets its loop run, loops by their counts, waits to their declared release (R326, R327). A transfer whose guard may be
false is priced as taken in both (R272). (DEDUCED, assumption log 4.) -/
def Walk.ways (w : Walk) (k : Priced) (c : Ctx) (s : Slot) : List Walk :=
  let t := c.cycle
  let on := c.flow s.op
  let off := c.fallThrough
  let past : List Walk := if s.guarded then [w.follow c { off with gap := on.gap }] else []
  match s.op with
  | .br _ => w.follow c on :: past
  | .call _ => (if c.bank.ret.length < 16 then [w.follow c on] else []) ++ past
  | .ret => (if c.bank.ret = [] then [] else [w.follow c on]) ++ past
  | .brc _ _ o =>
    let pc := c.bank.pc
    let target := ux 14 ((pc : Int) + o)
    let fall := w.follow c { off with gap := 2 }
    let jump (w : Walk) : Walk := w.follow c { off with pc := target, gap := 2 }
    if 0 < o then [jump w, fall]
    else
      let depth := c.bank.ret.length
      let n := ((w.taken.find? fun e => e.1 = pc && e.2.2.1 = depth).map fun e => e.2.2.2).getD 0
      let rest := w.taken.filter fun e => !(e.1 = pc && e.2.2.1 = depth)
      (if n + 1 < lookupOr 1 k.bounds pc then [jump { w with taken := rest ++ [(pc, target, depth, n + 1)] }] else []) ++
        [{ w with taken := rest }.follow c { off with gap := 2 }]
  | .loopI _ => if c.bank.loop.length < 4 then [w.follow c on] else []
  | .loopR _ =>
    if c.bank.loop.length < 4 then [w.follow c { on with loop := (lookupOr 1 k.bounds c.bank.pc, on.pc) :: c.bank.loop }]
    else []
  | .loopE => if c.bank.loop = [] then [] else [w.follow c on]
  | .trap _ | .halt => past
  | .waitM _ => [(w.follow c off).yields k t (max t (k.cycleOf (lookupOr 0 k.waits c.bank.pc)))]
  | .waitB => [(w.follow c off).yields k t (max t (k.cycleOf (k.beatAfter t)))]
  | .yieldTest n => [(w.follow c off).yields k t (t + 1250 * n)]
  | _ => [w.follow c off]

/-- Executing, the C slot of a bundle may end the activation in a trap: TRAP, or a stack beyond its depth (R228). -/
def Slot.endsInTrap (s : Slot) (c : Ctx) : Bool :=
  match s.op with
  | .trap _ => true
  | .call _ => decide (16 ≤ c.bank.ret.length)
  | .ret => decide (c.bank.ret = [])
  | .loopI _ | .loopR _ => decide (4 ≤ c.bank.loop.length)
  | .loopE => decide (c.bank.loop = [])
  | _ => false

/-- The C slot of a bundle, as it stands in the image. -/
def slotCOf (bundle : Nat) : Slot :=
  ((bundleSlots bundle).find? fun s => s.op.cls = 0).getD { g := { gp := 0, gn := false }, op := .nop }

/-- A path that ends without a HALT, in a TRAP or a stack fault, has the span since its last yield point (R252). (DEDUCED, assumption
log 4.) -/
def Walk.cut (w : Walk) (c : Ctx) : PathFigures := { PathFigures.none with span := max w.fig.span (c.cycle - w.yieldAt) }

/-- Every path from here (R326). A path of more bundles than `n` stands at its present length, beyond any beat. -/
def walk (k : Priced) (n : Nat) (w : Walk) : PathFigures :=
  let pc := (w.d.ctx k.r 0).bank.pc
  match n with
  | 0 => w.halt (w.d.ctx k.r (w.d.region k.r).cyc)
  | n + 1 =>
    match k.image[pc]? with
    | none => .none
    | some bundle =>
      let (w, c) := w.issue k bundle
      let s := slotCOf bundle
      let end_ := if s.op = .halt then w.halt c else if s.endsInTrap c then w.cut c else .none
      ((w.ways k c s).map (walk k n)).foldl PathFigures.join end_

/-- The figures of an activation (R326). A bundle takes a cycle at least, and a beat holds 12,500,000 at most. -/
def Device.worstCase (d : Device) (k : Priced) : PathFigures :=
  let f := walk k 16777216 (d.walkStart k)
  { f with w := max 8 f.w }

end Sys2Proof.Machine
end

