-- ==== Sys2Proof/Machine/Claim.lean ====
section
/-! DEFINITION. Claims and their checks (R317 to R341, R425): the header read from the object's bytes, the sixteen
checks of R330, and prices. Records come read (DESIGN CHOICE, assumption log 3). -/
namespace Sys2Proof.Machine

/-! ### The object -/

/-- A byte of the object: the last write of it stands (R465). -/
def ClaimConv.byte (c : ClaimConv) (i : Nat) : Option Byte :=
  match c.blocks.find? fun b => decide (b.1 ≤ i) && decide (i < b.1 + b.2.length) with
  | some b => b.2[i - b.1]?
  | none => none

/-- Bytes written at least once. -/
def ClaimConv.received (c : ClaimConv) : Nat := ((List.range c.length).filter fun i => (c.byte i).isSome).length

def ClaimConv.bytes (c : ClaimConv) (off n : Nat) : List Byte := (List.range n).map fun i => (c.byte (off + i)).getD 0

/-- 64-bit word w of the header, big-endian (R12, R317). -/
def ClaimConv.word (c : ClaimConv) (w : Nat) : Nat := beValue (c.bytes (8 * w) 8)

/-- The header (R317). (DESIGN CHOICE, assumption log 3.) -/
def ClaimConv.header (c : ClaimConv) : ClaimHeader :=
  let w0 := c.word 0
  { version := bits w0 63 56, stream := bits w0 55 48, prio := bits w0 47 45, cls := bits w0 44 43,
    cutThrough := bit w0 42, redundant := bit w0 41, beats := bits w0 40 27, startFrame := bits (c.word 1) 38 0,
    ctxQuota := bits (c.word 2) 31 0, model := bits (c.word 2) 63 32, recordCount := bits (c.word 3) 31 0,
    recordsOffset := bits (c.word 3) 63 32, tag := c.word 4,
    reservedZero := decide (bits w0 26 0 = 0) && decide (bits (c.word 1) 63 39 = 0) && decide (c.word 5 = 0) &&
      decide (c.word 6 = 0) && decide (c.word 7 = 0) }

/-- The PROGRAM records with their record indexes. -/
def progIdx (l : List ClaimRecord) : List Nat :=
  (List.range l.length).filter fun i => match l[i]? with | some (.program ..) => true | _ => false

/-- The place among the PROGRAM records of a record index; none where it names no PROGRAM record. -/
def progNo (l : List ClaimRecord) (i : Nat) : Option Nat :=
  if (progIdx l).contains i then some ((progIdx l).idxOf i) else none

/-- Bundles of a PROGRAM record index. -/
def progLen (l : List ClaimRecord) (i : Nat) : Nat := match l[i]? with | some (.program _ _ n ..) => n | _ => 0

/-- The region of a PROGRAM record index. -/
def progRegion (l : List ClaimRecord) (i : Nat) : Nat :=
  match l[i]? with | some (.program u ..) => unitRegionOf u | _ => 0

/-! ### Units of time and rate -/

/-- Tc in whole ns, rounded up. -/
def tcNs (t : Nat) : Nat := ceilDiv (t * 100000) 196608

/-- The shortest beat of an almanac of N beats (R319). -/
def shortBeat (n : Nat) : Nat := if n = 0 then 0 else tcPerFrame / n

/-- Windows of an activation or slot in a frame: N, beat offset and length in Tc. -/
abbrev Recur := Nat × Nat × Nat

/-- Two intervals of a frame that recurs, with start and length, overlap. -/
def circleMeets (s1 l1 s2 l2 : Nat) : Bool :=
  decide ((s2 + tcPerFrame - s1 % tcPerFrame) % tcPerFrame < l1) ||
    decide ((s1 + tcPerFrame - s2 % tcPerFrame) % tcPerFrame < l2)

/-- Starts in the frame of a recurring window. -/
def recurStarts (a : Recur) : List Nat := (List.range a.1).map fun k => beatStart a.1 0 k + a.2.1

/-- Two recurring windows meet somewhere in the frame. -/
def recursMeet (a b : Recur) : Bool :=
  (recurStarts a).any fun s => (recurStarts b).any fun t => circleMeets (s % tcPerFrame) a.2.2 (t % tcPerFrame) b.2.2

/-- A recurring window meets its own next occurrence: it is longer than its shortest beat. -/
def recurSelf (a : Recur) : Bool := decide (shortBeat a.1 < a.2.2)

/-- The first of a list of windows that meets one of the others before it or of `old`. -/
def firstMeet (old new : List Recur) : Option Recur :=
  match new with
  | [] => none
  | a :: rest => if old.any fun b => recursMeet a b then some a else firstMeet (a :: old) rest

/-! ### Refusals -/

/-- A refusal with its detail (R331): no record, no unit and no instant unless given. (DEDUCED, assumption log 14.) -/
def refuse (status resource : Nat) (record : Nat := 0xFFFFFF) (unit : Nat := 0) (tc : Nat := 0xFFFFFFFF)
    (need : Nat := 0) (have_ : Nat := 0) : Option ClaimRefusal :=
  some { status := status, resource := resource, record := record, unit := unit, tc := tc, need := need, have_ := have_ }

/-- The first refusal of a list. -/
def firstRefusal (l : List (Option ClaimRefusal)) : Option ClaimRefusal :=
  match l with
  | [] => none
  | some x :: _ => some x
  | none :: rest => firstRefusal rest

/-- Refuse unless a condition holds. -/
def unless_ (ok : Bool) (r : Option ClaimRefusal) : Option ClaimRefusal := if ok then none else r

/-! ### Check 1: format (R317 to R319, R327, R261, R388) -/

/-- A data port of the present layout (R476). -/
def Device.portExists (d : Device) (p : Nat) : Bool :=
  decide (p < 16) &&
    (let m := lget 0 d.dp.quadCfg (p / 4) % 4
     decide (m = 1) || (decide (m = 2) && decide (p % 2 = 0)) || (decide (m = 3) && decide (p % 4 = 0)))

/-- HBM ranges of a program's windows that carry WRITE over an aperture (R388). -/
def Device.writesAperture (d : Device) (w : Window) : Bool :=
  w.write && decide (w.size ≠ 0) && d.mm.slots.any fun e =>
    e.2.area0.allocated && decide (w.base * 4096 < (e.2.area0.base + e.2.areaUnits) * 0x400000) &&
      decide (e.2.area0.base * 0x400000 < (w.base + w.size) * 4096)

/-- The aperture that a reading window touches belongs to the claim's MODEL (R388). -/
def Device.readsModel (d : Device) (model : Nat) (w : Window) : Bool :=
  decide (w.size = 0) || d.mm.slots.all fun e =>
    !(e.2.area0.allocated && decide (w.base * 4096 < (e.2.area0.base + e.2.areaUnits) * 0x400000) &&
      decide (e.2.area0.base * 0x400000 < (w.base + w.size) * 4096)) || decide (e.2.model = model)

def Window.hbmOk (w : Window) : Bool := decide (w.base < 2 ^ 23) && decide (w.size < 2 ^ 24) && decide (w.base + w.size ≤ 8388608)
def Window.rxOk (w : Window) : Bool := decide (w.base < 2 ^ 17) && decide (w.size < 2 ^ 18) && decide (w.base + w.size ≤ 98304)

/-- A bundle index refusal of R261 and R327 gives the bundle in NEED (DEDUCED, assumption log 14). -/
def bundleRefusal (status rec_ bundle : Nat) : Option ClaimRefusal := refuse status 0x01 (record := rec_) (need := bundle)

/-- The unit that a record names (R24, R27, R30, R318): the checks of a unit over BCP, then a logical identifier of the level the
record needs. -/
def Device.unitRefusal (d : Device) (i u level : Nat) : Option ClaimRefusal :=
  let st := unitCheck d u
  if st ≠ stOK then refuse st 0x01 (record := i) (unit := u)
  else unless_ (decide (unitLevel u = level) && !unitPhys u) (refuse stFieldRange 0x01 (record := i) (unit := u))

/-- The first thing wrong with one record (R318, R319, R388). (DEDUCED, assumption log 69.) -/
def Device.recordCheck (d : Device) (h : ClaimHeader) (length : Nat) (l : List ClaimRecord) (i : Nat) : Option ClaimRefusal :=
  let range := refuse stFieldRange 0x01 (record := i)
  let beat := shortBeat h.beats
  match l[i]? with
  | none => none
  | some (.unknown _) => range
  | some (.unusedBits _) => refuse stReserved 0x01 (record := i)
  | some (.program u imgOff imgLen bankOff esc win rx) =>
    firstRefusal
      [d.unitRefusal i u 2, unless_ (decide (1 ≤ imgLen) && decide (imgLen ≤ 16384)) range, unless_ (decide (esc < 2 ^ 32)) range,
       unless_ (win.all Window.hbmOk && decide (win.length ≤ 8)) range, unless_ (rx.all Window.rxOk && decide (rx.length ≤ 8)) range,
       unless_ (decide (imgOff + 16 * imgLen ≤ length) && (decide (bankOff = 0) || decide (bankOff + 4096 ≤ length)))
         (refuse stLength 0x01 (record := i)),
       unless_ (!win.any d.writesAperture) range, unless_ (win.all (d.readsModel h.model)) range]
  | some (.start p off entry _) => unless_ (decide (entry < progLen l p) && decide (off < beat)) range
  | some (.tile u span ranges _ sight) =>
    firstRefusal
      [d.unitRefusal i u 0, unless_ (decide (span < 3) && decide (ranges < 16) && decide (60 ≤ sight) && decide (sight ≤ 100)) range,
       unless_ (!(decide (h.cls = 0) && decide (span = 0))) range]
  | some (.flow src kind dest _ arrival) =>
    firstRefusal
      [d.unitRefusal i src 2, if kind = 0 then d.unitRefusal i dest 2 else none,
       unless_ (decide (kind < 4) && (if kind = 2 then decide (dest < 2) else if kind = 3 then decide (dest < 64) else true)) range,
       unless_ (decide (arrival < beat)) range]
  | some (.hbm stack _ _) => unless_ (decide (stack < 2)) range
  | some (.egress port off frames largest) =>
    unless_ (d.portExists port && decide (off < beat) && decide (1 ≤ frames) && decide (64 ≤ largest) && decide (largest ≤ 9216))
      (refuse stFieldRange 0x01 (record := i) (unit := port))
  | some (.ingress port kind _ partner) =>
    unless_ (d.portExists port && decide (kind < 2) && decide (partner < 2 ^ 48)) (refuse stFieldRange 0x01 (record := i) (unit := port))
  | some (.channel ch partner region window) =>
    firstRefusal
      [d.unitRefusal i region 2, unless_ (decide (ch < 64) && decide (partner < 2 ^ 48) && decide (window < 8)) range]
  | some (.bound p b n) => unless_ (decide (b < progLen l p) && decide (1 ≤ n) && decide (n < 2 ^ 32)) range
  | some (.wait p b t) => unless_ (decide (b < progLen l p) && decide (t ≤ 100 * tcPerFrame)) range

/-- Bundle k of the image at an offset of the object, stored little-endian (R12, R266). -/
def ClaimConv.bundle (c : ClaimConv) (imgOff k : Nat) : Nat := leValue (c.bytes (imgOff + 16 * k) 16)

/-! ### Activations and their worst case (R326 to R329) -/

/-- Bytes read and written per beat on a stack by what a claim declares: HBM records, and flows to a stack (R320). -/
def claimHbm (l : List ClaimRecord) : List (Nat × Nat × Nat) :=
  l.filterMap fun x => match x with
    | .hbm st rd wr => some (st, rd, wr)
    | .flow _ kind dest bytes _ => if kind = 2 then some (dest, 0, bytes) else none
    | _ => none

/-- PS_HBM_BOUND of a reservation of bytes per beat: 625 + ceil(65,536 / ρ), with ρ in bytes per sequencer cycle
raised until the bound is at most 1,250,000 (R329). -/
def hbmBound (bytes n : Nat) : Nat :=
  if bytes = 0 then 1250000 else min 1250000 (625 + ceilDiv (65536 * 12500000) (bytes * n))

/-- PS_HBM_BOUND of a program: from the reservation on the stack its windows reach (R329). A program that reaches none waits
for contexts alone, on the whole reservation. (DEDUCED, assumption log 4.) -/
def psHbmBound (wants : List (Nat × Nat × Nat)) (win : List Window) (n : Nat) : Nat :=
  let bytes (on : Nat → Bool) : Nat := (wants.map fun e => if on e.1 then e.2.1 + e.2.2 else 0).sum
  let reached := [0, 1].filter fun st => win.any fun w => decide (w.size ≠ 0) && decide (w.base / 2 ^ 22 ≤ st) &&
    decide (st ≤ (w.base + w.size - 1) / 2 ^ 22)
  if reached = [] then hbmBound (bytes fun _ => true) n
  else (reached.map fun st => hbmBound (bytes fun x => x = st) n).foldl max 0

/-- PS_FAB_BOUND: a time-triggered slot recurs in every round of 1 µs (R329, R348). -/
abbrev psFabBound : Nat := 1251

/-- START records in order, with their record indexes and what the engine finds for them (R326). -/
structure StartPlan where
  index : Nat
  prog : Nat
  region : Nat
  offTc : Nat
  entry : Nat
  batch : Bool
  fig : PathFigures
  deriving DecidableEq, Repr

/-- What the walk of an activation of PROGRAM record p is given. -/
def ClaimConv.priced (c : ClaimConv) (wants : List (Nat × Nat × Nat)) (p offTc entry : Nat) : Option Priced :=
  let l := c.records
  let h := c.header
  match l[p]? with
  | some (.program u imgOff imgLen bankOff _ win _) =>
    some { r := unitRegionOf u, stream := c.stream, redundant := h.redundant, beats := h.beats, offTc := offTc, entry := entry,
           image := (List.range imgLen).map (c.bundle imgOff),
           bank := if bankOff = 0 then Bank.reset else Bank.ofBytes (c.bytes bankOff 4096), win := win,
           hbm := psHbmBound wants win h.beats, fab := psFabBound,
           bounds := l.filterMap fun x => match x with | .bound q b n => if q = p then some (b, n) else none | _ => none,
           waits := l.filterMap fun x => match x with | .wait q b t => if q = p then some (b, t) else none | _ => none,
           arrivals := l.filterMap fun x => match x with
             | .flow src kind dest _ at_ =>
               if unitRegionOf src = unitRegionOf u then some (kind, if kind = 0 then unitRegionOf dest else dest, at_) else none
             | _ => none }
  | _ => none

/-- The activations of a claim, priced on an HBM reservation. -/
def Device.plansOn (d : Device) (c : ClaimConv) (wants : List (Nat × Nat × Nat)) : List StartPlan :=
  let l := c.records
  (List.range l.length).filterMap fun (i : Nat) => match (l[i]? : Option ClaimRecord) with
    | some (.start p off entry batch) =>
      some { index := i, prog := p, region := progRegion l p, offTc := off, entry := entry, batch := batch,
             fig := ((c.priced wants p off entry).map d.worstCase).getD .none }
    | _ => none

/-- A stream's HBM reservation in bytes per beat (R320, R340): what the claim declares, and the re-run reads of its VMM.E
instructions, each priced as executed. -/
def hbmWants (l : List ClaimRecord) (ss : List StartPlan) : List (Nat × Nat × Nat) :=
  claimHbm l ++ (ss.flatMap fun s => [(0, s.fig.rerun0, 0), (1, s.fig.rerun1, 0)]).filter fun e => e.2.1 ≠ 0

/-- The activations of a claim (R320, R326), the re-run reads in their HBM bound. -/
def Device.startPlans (d : Device) (c : ClaimConv) : List StartPlan :=
  d.plansOn c (hbmWants c.records (d.plansOn c (claimHbm c.records)))

/-- A record binds bundle k of PROGRAM record i: BOUND for a loop or a backward branch, WAIT for a WAITM (R327). -/
def hasBound (l : List ClaimRecord) (i k : Nat) : Bool := l.any fun x => match x with
  | .bound p b _ => decide (p = i) && decide (b = k)
  | _ => false

def hasWait (l : List ClaimRecord) (i k : Nat) : Bool := l.any fun x => match x with
  | .wait p b _ => decide (p = i) && decide (b = k)
  | _ => false

/-- The loader's check of the image of PROGRAM record i (R238, R261), then its BOUND and WAIT records (R327): the lowest
failing bundle. -/
def ClaimConv.imageCheck (c : ClaimConv) (l : List ClaimRecord) (i : Nat) : Option ClaimRefusal :=
  match l[i]? with
  | some (.program _ imgOff imgLen _ _ _ _) =>
    firstRefusal [
      (List.range imgLen).findSome? (fun k =>
        (bundleFault imgLen k (c.bundle imgOff k)).bind fun st => bundleRefusal st i k),
      (List.range imgLen).findSome? fun k =>
        let b := bundleSlots (c.bundle imgOff k)
        unless_ ((!needsBound b || hasBound l i k) && (!needsWait b || hasWait l i k)) (bundleRefusal stFieldRange i k)]
  | _ => none

/-- Check 1. (DEDUCED, assumption log 69.) -/
def Device.check1 (d : Device) (c : ClaimConv) (h : ClaimHeader) : Option ClaimRefusal :=
  firstRefusal
    ([unless_ (decide (h.version = 1)) (refuse stFieldRange 0x01),
      unless_ (decide (h.stream = c.stream) && decide (h.tag = c.tag)) (refuse stFieldRange 0x01),
      unless_ (decide ((d.stream h.stream).st = .free)) (refuse stWrongState 0x01),
      unless_ h.reservedZero (refuse stReserved 0x01),
      unless_ (decide (h.cls < 3) && decide (1 ≤ h.beats) && decide (h.beats ≤ 10000)) (refuse stFieldRange 0x01),
      unless_ (decide (1 ≤ h.recordCount) && decide (h.recordCount ≤ 16384)) (refuse stFieldRange 0x01),
      unless_ (decide (h.recordsOffset % 32 = 0)) (refuse stAlignment 0x01),
      unless_ (decide (h.recordsOffset + 32 * h.recordCount ≤ c.length)) (refuse stLength 0x01),
      unless_ (decide (c.records.length = h.recordCount)) (refuse stFieldRange 0x01)]
      ++ ((List.range c.records.length).map fun i => d.recordCheck h c.length c.records i) ++
        (List.range c.records.length).map fun i => c.imageCheck c.records i)

/-! ### Checks 2 to 6 -/

/-- Logical tiles a claim binds, with span, MVMs per beat and sighting period; redundant streams bind the twins too
(R425). -/
def twinLt (lt : Nat) : Nat := lt / 128 * 128 + ((lt % 128 / 8) ^^^ 8) * 8 + lt % 8

def boundTiles (h : ClaimHeader) (l : List ClaimRecord) : List (Nat × Nat × Nat × Nat) :=
  let own := l.filterMap fun x => match x with
    | .tile u span _ mvms sight => some (unitLtOf u, span, mvms, sight)
    | _ => none
  if h.redundant then own ++ own.map fun t => (twinLt t.1, t.2) else own

/-- The model slot that holds a model. -/
def Device.slotOf (d : Device) (model : Nat) : Option Nat :=
  if model = 0 then none else (d.mm.slots.find? fun e => e.2.model = model).map fun e => e.1

def ModelSlot.area (m : ModelSlot) (a : Nat) : Area := if a = 0 then m.area0 else m.area1
/-- The tile record that names a logical tile, read through the model's relocations (R436). -/
def ModelSlot.recordOf (m : ModelSlot) (a : Area) (lt : Nat) : Option TileRecord :=
  a.manifest.bind fun k => k.tiles.find? fun t => m.place t.tile = lt

/-- A logical tile serves an active epoch of a model (R330 check 3). -/
def Device.servesModel (d : Device) (model lt : Nat) : Bool :=
  match d.slotOf model with
  | none => false
  | some n =>
    let m := d.modelSlot n
    [m.area0, m.area1].any fun a => decide (a.st = .active) && (m.recordOf a lt).isSome

/-- A region of the grade that can take work: in service, and not one whose work a relocation holds elsewhere (R436). -/
def Device.regionLive (d : Device) (r : Nat) : Bool :=
  d.dieLive (r / 6) && !(d.mm.slots.any fun e => e.2.reloc.any fun x => x.1 = r) && decide ((d.region r).regs.st ≠ .quarantined) && !(d.region r).lost

/-- A logical tile that can take work: its die in service, mapped, its physical tile not fenced and not left without
a sighting at start (R158). -/
def Device.tileLive (d : Device) (lt : Nat) : Bool :=
  d.dieLive (ltDie lt) &&
    match d.physOf lt with
    | none => false
    | some p => decide ((d.tile p).check.health = .normal) || decide ((d.tile p).check.health = .observed)

/-- The twin of a tile meets R425. -/
def Device.twinOk (d : Device) (model lt : Nat) : Bool :=
  let tw := twinLt lt
  let same := match d.slotOf model with
    | none => false
    | some n => [(d.modelSlot n).area0, (d.modelSlot n).area1].any fun a => decide (a.st = .active) &&
        match (d.modelSlot n).recordOf a lt, (d.modelSlot n).recordOf a tw with
        | some x, some y => decide (x.offset = y.offset)
        | _, _ => false
  same && (d.boundTo tw).all fun s => (d.stream s).redundant && (d.stream s).model = model

/-- Check 3, record by record (R330, R398, R425). -/
def Device.check3 (d : Device) (h : ClaimHeader) (l : List ClaimRecord) : Option ClaimRefusal :=
  let fenced (i u : Nat) := refuse stFenced 0x03 (record := i) (unit := u)
  let one (i : Nat) : Option ClaimRefusal := match l[i]? with
    | some (.program u ..) => unless_ (d.regionLive (unitRegionOf u)) (fenced i u)
    | some (.flow src kind dest _ _) =>
      firstRefusal [unless_ (d.regionLive (unitRegionOf src)) (fenced i src),
                    unless_ (!decide (kind = 0) || d.regionLive (unitRegionOf dest)) (fenced i dest)]
    | some (.tile u ..) =>
      let lt := unitLtOf u
      firstRefusal
        [unless_ (d.tileLive lt) (fenced i u),
         unless_ (d.servesModel h.model lt) (refuse stWrongState 0x03 (record := i) (unit := u)),
         unless_ (!h.redundant || (d.tileLive (twinLt lt) && d.twinOk h.model lt))
           (refuse stWrongState 0x03 (record := i) (unit := unitLt (twinLt lt)))]
    | _ => none
  firstRefusal ((List.range l.length).map one ++
    [unless_ (match d.slotOf h.model with | some n => (d.modelSlot n).plan.isNone | none => true)
      (refuse stWrongState 0x03)])

/-- Check 4 (R252). -/
def check4 (ss : List StartPlan) : Option ClaimRefusal :=
  match ss.find? fun s => decide (1250000 < s.fig.span) with
  | some s => refuse stFieldRange 0x04 (record := s.prog) (need := ceilDiv (s.fig.span * 8) 10000) (have_ := 1000)
  | none => none

/-- The free program slot of lowest number in a region, those in `taken` aside. -/
def Device.freeSlot (d : Device) (r : Nat) (taken : List Nat) : Option Nat :=
  (List.range 16).find? fun n => decide ((tget ProgSlot.reset (d.region r).ps n).st = .free) && !taken.contains n

/-- Ranges of instruction memory in use in a region. -/
def Device.imemUsed (d : Device) (r : Nat) : List (Nat × Nat) :=
  (d.region r).ps.filterMap fun e => if e.2.st = .free then none else some (e.2.base, e.2.len)

/-- The lowest contiguous free range of a length: it starts at 0 or where another ends. -/
def firstFit (used : List (Nat × Nat)) (len limit : Nat) : Option Nat :=
  ((0 :: used.map fun u => u.1 + u.2).insertionSort fun x y => x ≤ y).find? fun b =>
    decide (b + len ≤ limit) && used.all fun u => decide (b + len ≤ u.1) || decide (u.1 + u.2 ≤ b)

/-- Places of a claim's programs: region, slot, base, length; none where one does not fit (check 5). -/
def Device.placePrograms (d : Device) (progs : List (Nat × Nat)) (done : List (Nat × Nat × Nat × Nat)) :
    Option (List (Nat × Nat × Nat × Nat)) :=
  match progs with
  | [] => some done
  | (r, len) :: rest =>
    let mine := done.filter fun x => x.1 = r
    match d.freeSlot r (mine.map fun x => x.2.1),
          firstFit (d.imemUsed r ++ mine.map fun x => (x.2.2.1, x.2.2.2)) len 16384 with
    | some n, some b => d.placePrograms rest (done ++ [(r, n, b, len)])
    | _, _ => none

def progWants (l : List ClaimRecord) : List (Nat × Nat) :=
  l.filterMap fun x => match x with | .program u _ len .. => some (unitRegionOf u, len) | _ => none

/-- N of every almanac in use. -/
def Device.almanacs (d : Device) : List Nat := (d.liveStreams.map fun s => (d.stream s).almanac).eraseDups

/-- The number of the almanac of N: that of a stream with the same N, or the lowest free one (R319). -/
def Device.almanacFor (d : Device) (n : Nat) : Option Nat :=
  match d.liveStreams.find? fun s => (d.stream s).almanac = n with
  | some s => some (d.stream s).almanacNo
  | none => (List.range 16).find? fun k => !(d.liveStreams.any fun s => (d.stream s).almanacNo = k)

/-- Entries a record makes in the Almanac (R320). (DEDUCED, assumption log 70.) -/
def recordEntries (x : ClaimRecord) : Nat :=
  match x with | .start .. => 1 | .flow .. => 1 | .egress .. => 1 | .tile .. => 1 | .hbm .. => 1 | _ => 0

def Stream.entries (x : Stream) : Nat :=
  x.starts.length + x.flows.length + x.egress.length + x.tiles.length + x.hbm.length

/-- Entries held by all almanacs. -/
def Device.almanacEntries (d : Device) : Nat := (d.liveStreams.map fun s => (d.stream s).entries).sum

/-- Check 6 (R319). -/
def Device.check6 (d : Device) (h : ClaimHeader) (l : List ClaimRecord) : Option ClaimRefusal :=
  let need_ := (l.map recordEntries).sum
  firstRefusal
    [unless_ (d.almanacFor h.beats).isSome (refuse stNoCapacity 0x06 (need := 1)),
     unless_ (decide (d.almanacEntries + need_ ≤ 8192)) (refuse stNoCapacity 0x06 (need := need_) (have_ := 8192 - d.almanacEntries))]

/-! ### Checks 7 to 9: region, tile and DMU time -/

/-- Windows of the activations already admitted in a region. -/
def Device.regionWindows (d : Device) (r : Nat) : List Recur :=
  d.liveStreams.flatMap fun s =>
    let x := d.stream s
    x.starts.filterMap fun t => if (x.programs[t.prog]?.map fun p => p.region) = some r then some (x.almanac, t.offTc, cycTc t.w) else none

/-- A window meets the region dark slot of its region (R325): the slot begins at TC 0 of its frames. (DEDUCED, assumption
log 70.) -/
def Device.meetsDark (d : Device) (r : Nat) (a : Recur) : Bool :=
  let (len, _, _) := tget (0, 0, 0) d.adm.dark r
  decide (len ≠ 0) && (decide (tcPerFrame ≤ usTc len) || (recurStarts a).any fun s => circleMeets (s % tcPerFrame) a.2.2 0 (usTc len))

/-- Check 7 (R330). -/
def Device.check7 (d : Device) (h : ClaimHeader) (ss : List StartPlan) : Option ClaimRefusal :=
  let win (s : StartPlan) : Recur := (h.beats, s.offTc, cycTc s.fig.w)
  let beatCycles := 12500000 / h.beats
  let long := ss.find? fun s => recurSelf (win s)
  match long with
  | some s => refuse stDeadline 0x07 (record := s.index) (unit := unitRegion s.region) (tc := s.offTc) (need := s.fig.w) (have_ := beatCycles)
  | none =>
    let bad := (ss.map fun s => s.region).eraseDups.findSome? fun r =>
      let mine := (ss.filter fun s => s.region = r)
      match firstMeet (d.regionWindows r) (mine.map win), (mine.map win).find? fun a => d.meetsDark r a with
      | some a, _ => some (r, a)
      | none, some a => some (r, a)
      | none, none => none
    match bad with
    | some (r, a) => refuse stNoCapacity 0x07 (unit := unitRegion r) (tc := a.2.1) (need := a.2.2 * 125000 / 196608)
    | none => none

/-- MVMs that the streams bound to a tile may apply in one beat of N, each stream in its own beats, and the sighting
intervals of that beat (R324, R330 check 8). (DEDUCED, assumption log 70.) -/
def Device.tileLoad (d : Device) (lt n : Nat) (new : List (Nat × Nat × Nat)) : Nat :=
  let old := (d.boundTo lt).flatMap fun s =>
    let x := d.stream s
    (x.tiles.filter fun t => t.1 = lt).map fun t => (x.almanac, t.2.2.1, t.2.2.2)
  let all := old ++ new
  let per := (all.map fun t => t.2.2).foldl min 100
  (all.map fun t => t.2.1 * ceilDiv t.1 n).sum + ceilDiv (sightsPerFrame per) n

/-- The engine chooses the phase of the sighting intervals of each logical tile that a stream now binds, and keeps it while any
does (R324). (DESIGN CHOICE, assumption log 102.) -/
def Device.placeSightings (d : Device) : Device :=
  let bound := (d.liveStreams.flatMap fun s => (d.stream s).tiles.map fun t => t.1).eraseDups
  let d := { d with adm := { d.adm with phases := d.adm.phases.filter fun e => bound.contains e.1 } }
  forEach (bound.filter fun lt => !d.adm.phases.any fun e => e.1 = lt) (fun lt d =>
    let (v, d) := takeFree 25 d
    { d with adm := { d.adm with phases := tset d.adm.phases lt (v % (tcPerFrame / sightsPerFrame (d.sightPeriod lt))) } }) d

/-- Check 8. -/
def Device.check8 (d : Device) (h : ClaimHeader) (l : List ClaimRecord) : Option ClaimRefusal :=
  let ts := boundTiles h l
  let bad := (ts.map fun t => t.1).eraseDups.find? fun lt =>
    let new := (ts.filter fun t => t.1 = lt).map fun t => (h.beats, t.2.2.1, t.2.2.2)
    let ns := (h.beats :: (d.boundTo lt).map fun s => (d.stream s).almanac).eraseDups
    ns.any fun n => decide (100000 / n < d.tileLoad lt n new)
  match bad with
  | some lt =>
    let new := (ts.filter fun t => t.1 = lt).map fun t => (h.beats, t.2.2.1, t.2.2.2)
    refuse stNoCapacity 0x08 (unit := unitLt lt) (need := d.tileLoad lt h.beats new) (have_ := 100000 / h.beats)
  | none => none

/-- ESC_CYCLES a claim asks in each region, and what its priced VMM.E instructions there can spend (R340). -/
def check9 (l : List ClaimRecord) (ss : List StartPlan) : Option ClaimRefusal :=
  let esc (r : Nat) := (l.map fun x => match x with | .program u _ _ _ e _ _ => if unitRegionOf u = r then e else 0 | _ => 0).sum
  let cap (r : Nat) := ((ss.filter fun s => s.region = r).map fun s => s.fig.escCap).sum
  match ((progWants l).map fun p => p.1).eraseDups.find? fun r => decide (cap r < esc r) with
  | some r => refuse stNoCapacity 0x09 (unit := unitRegion r) (need := esc r) (have_ := cap r)
  | none => none

/-! ### Check 10: the fabric (R348 to R357) -/

/-- Flits of a link in one round, at least (R348). -/
def FabLink.flits : FabLink → Nat
  | .hub .. => 940 | .ring .. => 940 | .cross p _ => if p = 8 ∨ p = 9 then 19984 else 1249 | _ => 1249

/-- The route of a flow from a region to a destination: region number, stack, channel, or the hub (R350, R351). -/
def Device.route (d : Device) (src kind dest : Nat) : List FabLink :=
  let up := d.toGate src ++ [.hub (src / 6) true]
  if kind = 0 then
    let r := dest
    if r / 6 = src / 6 then meshRoute (src / 6) (d.outRouter (src / 6)) (src % 6) (r % 6)
    else
      let ring := if d.neighbours (src / 6) (r / 6) then d.ringBetween (src / 6) (r / 6) else none
      match ring with
      | some (x, fwd) => d.toGate src ++ [.ring x fwd] ++ d.fromGate r
      | none => up ++ [.hub (r / 6) false] ++ d.fromGate r
  else if kind = 2 then up ++ [.cross (8 + dest) true]
  else if kind = 1 then up ++ [.cross 14 true]
  else up ++ [.cross 10 true]

/-- The flow's route goes around a router that is out (R372): with that router in it would be another. -/
def Device.detours (d : Device) (src kind dest : Nat) : Bool :=
  let all := d.allRegions.foldl (fun d r => d.updRegion r fun g => { g with router := .reset }) d
  d.route src kind dest ≠ all.route src kind dest

/-- Path bound P in ns (R357): one round and D, rounded up to 10 ns, with 8 ns more around a router that is out (R372). -/
def Device.pathNs (d : Device) (src kind dest : Nat) : Nat :=
  let r := dest
  let detour := if d.detours src kind dest then 8 else 0
  let fixed := if kind = 0 then
      (if r / 6 = src / 6 then 122400
       else if d.neighbours (src / 6) (r / 6) ∧ (d.ringBetween (src / 6) (r / 6)).isSome then 212000 else 256000)
    else 204000
  ceilDiv (1000470 + fixed + detour * 1000) 10000 * 10

/-- The activations that feed an EGRESS record at a beat offset, with the instant their EGRESS names, in Tc from the start of
the activation's beat, and the worst case to the end of its data (R333). (DEDUCED, assumption log 4.) -/
def feedsEgress (h : ClaimHeader) (ss : List StartPlan) (off : Nat) : List (StartPlan × Nat × Nat) :=
  ss.flatMap fun s =>
    (s.fig.egress.filter fun e => e.1 - beatStartNo h.beats (beatNo h.beats e.1) = off).map fun e => (s, e)

/-- The activations that feed a flow, with the worst end of its data in Tc of the beat, and its largest transfer in flits. -/
def feedsFlow (ss : List StartPlan) (src kind dest : Nat) : List (StartPlan × Nat × Nat) :=
  ss.flatMap fun s => if s.region = src then
    (s.fig.flows.filter fun e => e.1 = kind && e.2.1 = dest).map fun e => (s, e.2.2.1, e.2.2.2) else []

/-- S of a flow (R353), in flits: its bytes over the rounds of its window, or its largest transfer, at most 128. -/
def flowFlitsOf (bytes start stop largest : Nat) : Nat :=
  let rounds := max 1 ((stop - start) * 10000 / tcPerFrame)
  min 128 (max (ceilDiv bytes (64 * rounds)) largest)

/-- A time-triggered reservation: N, window start and end in Tc of the beat, flits per round, links. -/
structure TtSlot where
  beats : Nat
  start : Nat
  stop : Nat
  flits : Nat
  path : List FabLink
  deriving DecidableEq, Repr

/-- Bytes per frame reserved for a stream on a stack: what its records give, raised to the least ρ of R329. -/
def hbmPerFrame (bytes n : Nat) : Nat := if bytes = 0 then 0 else max (bytes * n) (ceilDiv (65536 * 12500000) 1249375)

/-- Bytes per frame of a stack's reservation in one direction: its part of the rate as raised. (DEDUCED, assumption log 4.) -/
def hbmDirection (bytes total n : Nat) : Nat := if total = 0 then 0 else ceilDiv (hbmPerFrame total n * bytes) total

/-- Flits per round that a reservation of bytes per frame takes in the direction of the data, and in the other (R354). -/
def hbmRoundFlits (frame : Nat) : Nat := ceilDiv frame (64 * 10000)
def hbmBackFlits (frame : Nat) : Nat := ceilDiv (ceilDiv frame 10000) 2048

/-- The direction back along a path. -/
def FabLink.back : FabLink → FabLink
  | .mesh die a b => .mesh die b a
  | .gate die row o => .gate die row (!o)
  | .hub die u => .hub die (!u)
  | .ring die u => .ring die (!u)
  | .cross p o => .cross p (!o)

/-- Time-triggered slots of a stream's flows and HBM reservations (R353, R354); those of a fenced die are free (R437). -/
def Device.ttOf (d : Device) (n : Nat) (regions : List Nat) (flows : List FlowPlan)
    (hbm : List (Nat × Nat × Nat)) : List TtSlot :=
  let live (r : Nat) : Bool := !d.flt.fenced.contains (r / 6)
  let flows := flows.filter fun f => live f.src && (decide (f.kind ≠ 0) || live f.dest)
  (flows.map fun f => { beats := n, start := f.start, stop := f.stop, flits := f.flits,
                        path := d.route f.src f.kind f.dest }) ++
  [0, 1].flatMap fun st =>
    let mine := hbm.filter fun e => e.1 = st
    let total := (mine.map fun e => e.2.1 + e.2.2).sum
    let rd := hbmDirection (mine.map fun e => e.2.1).sum total n
    let wr := hbmDirection (mine.map fun e => e.2.2).sum total n
    if total = 0 then []
    else (regions.eraseDups.filter live).flatMap fun r =>
      let p := d.route r 2 st
      let all (fl : Nat) (path : List FabLink) : TtSlot := { beats := 1, start := 0, stop := tcPerFrame, flits := fl, path := path }
      [all (hbmRoundFlits wr + hbmBackFlits rd) p, all (hbmRoundFlits rd + hbmBackFlits wr) (p.map FabLink.back)]

/-- Rounds of a frame that a slot's windows take, as starts and lengths in Tc. -/
def TtSlot.windows (t : TtSlot) : List (Nat × Nat) :=
  if t.beats = 1 then [(t.start, t.stop - t.start)]
  else (List.range t.beats).map fun k => (beatStart t.beats 0 k + t.start, t.stop - t.start)

/-- Flits of the TT slots on a link in the busiest round among those in which one of the windows begins. -/
def linkLoad (all : List TtSlot) (l : FabLink) : Nat :=
  let here := all.filter fun t => t.path.contains l
  let starts := here.flatMap fun t => t.windows.map fun w => w.1 % tcPerFrame
  (starts.map fun s => ((here.filter fun t => t.windows.any fun w => circleMeets (w.1 % tcPerFrame) (w.2 + 1) s 1).map
    fun t => t.flits).sum).foldl max 0

/-- Slots held by the live streams. -/
def Device.ttHeld (d : Device) : List TtSlot :=
  d.liveStreams.flatMap fun s =>
    let x := d.stream s
    d.ttOf x.almanac (x.programs.map fun p => p.region) x.flows x.hbm

/-- The flows of a claim, with their windows and flits (R353). -/
def claimFlows (l : List ClaimRecord) (ss : List StartPlan) : List FlowPlan :=
  (List.range l.length).filterMap fun (i : Nat) => match (l[i]? : Option ClaimRecord) with
    | some (.flow src kind dest bytes arrival) =>
      let end_ := if kind = 0 then unitRegionOf dest else dest
      let fs := feedsFlow ss (unitRegionOf src) kind end_
      let start := (fs.map fun f => f.1.offTc).foldl min arrival
      let most := (fs.map fun f => f.2.2).foldl max 1
      let leaves := if kind = 1 then fs.flatMap fun f => f.1.fig.egress.map fun e => e.1 else []
      let stop := if leaves = [] then arrival else leaves.foldl max 0
      some { src := unitRegionOf src, kind := kind, dest := end_, bytes := bytes, arrival := arrival, start := start,
             stop := stop, flits := flowFlitsOf bytes start stop most }
    | _ => none

/-- Check 10. -/
def Device.check10 (d : Device) (h : ClaimHeader) (l : List ClaimRecord) (ss : List StartPlan) : Option ClaimRefusal :=
  let flows := (claimFlows l ss).map fun f => if h.redundant then { f with flits := 2 * f.flits } else f
  let new := d.ttOf h.beats ((progWants l).map fun p => p.1) flows (hbmWants l ss)
  let all := d.ttHeld ++ new
  let links := (new.flatMap fun t => t.path).eraseDups
  match links.find? fun k => decide (k.flits * d.adm.fabTtMax < 100 * linkLoad all k) with
  | some k => refuse stNoCapacity 0x0A (need := linkLoad all k) (have_ := k.flits * d.adm.fabTtMax / 100)
  | none => none

/-! ### Check 11: HBM (R329) -/

/-- MB/s of a number of bytes per 10 ms frame, rounded up. -/
def mbps (perFrame : Nat) : Nat := ceilDiv (perFrame * 100) 1000000

def Stream.hbmFrame (x : Stream) (stack : Nat) : Nat :=
  hbmPerFrame ((x.hbm.map fun e => if e.1 = stack then e.2.1 + e.2.2 else 0).sum) x.almanac

/-- Some region of a stream lies on a die that is not fenced: a fenced die's reservations are free (R437). -/
def Device.anyRegionLive (d : Device) (x : Stream) : Bool :=
  x.programs.isEmpty || x.programs.any fun p => !d.flt.fenced.contains (p.region / 6)

/-- HBM_RESERVED of a stack in MB/s (R437, R587). -/
def Device.hbmReserved (d : Device) (stack : Nat) : Nat :=
  mbps (((d.liveStreams.filter fun s => d.anyRegionLive (d.stream s)).map fun s => (d.stream s).hbmFrame stack).sum)

/-- Check 11. -/
def Device.check11 (d : Device) (h : ClaimHeader) (l : List ClaimRecord) (ss : List StartPlan) : Option ClaimRefusal :=
  let want (st : Nat) := hbmPerFrame (((hbmWants l ss).map fun e => if e.1 = st then e.2.1 + e.2.2 else 0).sum) h.beats
  let cap := 819000 * d.adm.hbmResMax / 100
  match [0, 1].find? fun st => decide (want st ≠ 0) && decide (cap < d.hbmReserved st + mbps (want st)) with
  | some st => refuse stNoCapacity 0x0B (unit := st) (need := mbps (want st)) (have_ := cap - d.hbmReserved st)
  | none => none

/-! ### Check 12: ports (R330, R487, R490, R491, R504) -/

def Device.destWord (d : Device) (s k : Nat) : Nat := lget 0 (tget ResultDest.reset d.dp.dests s).w k
def Device.bindWord (d : Device) (s k : Nat) : Nat := lget 0 (tget InBind.reset d.dp.binds s).w k

/-- Fields of a binding (R504). -/
def Device.bindMac (d : Device) (s : Nat) : Nat := bits (d.bindWord s 1) 15 0 * 2 ^ 32 + d.bindWord s 2
def Device.bindRegion (d : Device) (s : Nat) : Nat := 6 * bits (d.bindWord s 0) 9 7 + bits (d.bindWord s 0) 6 4
def Device.bindWindow (d : Device) (s : Nat) : Nat := bits (d.bindWord s 0) 3 1
def Device.bindKey (d : Device) (s : Nat) : Nat := bits (d.bindWord s 1) 31 16
def Device.bindPort (d : Device) (s : Nat) : Nat := bits (d.bindWord s 3) 3 0
def Device.bindTmax (d : Device) (s : Nat) : Nat := bits (d.bindWord s 4) 15 0
def Device.bindTbytes (d : Device) (s : Nat) : Nat := bits (d.bindWord s 5) 23 0

/-- Line windows of egress slots on a port: each with its line time, a 100 ns guard, and 2 µs in cut-through (R330,
R334). -/
def Device.egressWindows (d : Device) (n : Nat) (cut : Bool) (port : Nat) (l : List EgressSlot) : List Recur :=
  l.filterMap fun e => if e.port = port then
    some (n, e.offTc, d.slotLine e + nsTc 100 + (if cut then lineTc (d.port port).mbps 172 else 0)) else none

def claimEgress (l : List ClaimRecord) : List EgressSlot :=
  l.filterMap fun x => match x with | .egress p o f g => some { port := p, offTc := o, frames := f, largest := g, line := 0, rel := o } | _ => none

/-- Bytes per second of ingress of the live streams on a port. -/
def Device.ingressOn (d : Device) (port : Nat) : Nat :=
  (d.liveStreams.map fun s =>
    let x := d.stream s
    (x.ingress.map fun i => if i.1 = port then i.2.2.1 * x.almanac * 100 else 0).sum).sum

/-- The binding of a stream answers an INGRESS record (R490). The receive windows are those of the claim's PROGRAM
record of the binding's region. -/
def Device.bindOk (d : Device) (s : Nat) (l : List ClaimRecord) (port kind partner : Nat) : Bool :=
  let w0 := d.bindWord s 0
  let win := l.findSome? fun x => match x with
    | .program u _ _ _ _ _ rx => if unitRegionOf u = d.bindRegion s then rx[d.bindWindow s]? else none
    | _ => none
  bit w0 31 && decide (d.bindPort s = port) && decide (b2n (bit w0 0) = kind) && decide (d.bindMac s = partner) &&
    match win with
    | some w => w.read && decide (2 * d.bindTmax s * (8 + d.bindTbytes s) ≤ 64 * w.size)
    | none => false

/-- Slots of a fronthaul beat: numerology μ has 10 × 2^μ slots in a frame (R491). -/
def slotsPerBeat (mu n : Nat) : Option Nat := if n ≠ 0 ∧ (10 * 2 ^ mu) % n = 0 then some (10 * 2 ^ mu / n) else none

/-- Check 12. -/
def Device.check12 (d : Device) (h : ClaimHeader) (l : List ClaimRecord) : Option ClaimRefusal :=
  let eg := claimEgress l
  let ports := (eg.map fun e => e.port).eraseDups
  let old (p : Nat) := d.liveStreams.flatMap fun s =>
    let x := d.stream s
    d.egressWindows x.almanac x.cutThrough p x.egress
  let meet := ports.findSome? fun p => (firstMeet (old p) (d.egressWindows h.beats h.cutThrough p eg)).map fun a => (p, a)
  let one (i : Nat) : Option ClaimRefusal := match l[i]? with
    | some (.egress p _ _ _) => unless_ (d.port p).up (refuse stNoCapacity 0x0C (record := i) (unit := p))
    | some (.ingress p kind bytes partner) =>
      firstRefusal
        [unless_ (d.bindOk h.stream l p kind partner) (refuse stNoCapacity 0x0C (record := i) (unit := p)),
         unless_ (!decide (kind = 0) || (slotsPerBeat (bits (d.bindWord h.stream 0) 16 14) h.beats).isSome)
           (refuse stFieldRange 0x0C (record := i) (unit := p)),
         unless_ ((d.dp.partners.any fun e => decide (e.2.st ≠ 0) && decide (e.2.port = p) && decide (e.2.mac = partner)) ||
             decide ((d.dp.partners.filter fun e => decide (e.2.st ≠ 0)).length < 64))
           (refuse stNoCapacity 0x0C (record := i) (unit := p)),
         unless_ (decide (10 * (d.ingressOn p + bytes * h.beats * 100) * 8 ≤ 9 * (d.port p).mbps * 1000000) && (d.port p).up)
           (refuse stNoCapacity 0x0C (record := i) (unit := p) (need := bytes * h.beats / 10000)
             (have_ := 9 * (d.port p).mbps / 80 - d.ingressOn p / 1000000))]
    | _ => none
  firstRefusal ((List.range l.length).map one ++
    [match meet with
     | some (p, a) => refuse stNoCapacity 0x0C (unit := p) (tc := a.2.1) (need := tcNs a.2.2)
     | none => none,
     unless_ (!(h.cutThrough && decide (eg ≠ []) && decide (bits (d.destWord h.stream 0) 1 0 = 2) && bit (d.destWord h.stream 0) 31))
       (refuse stNoCapacity 0x0C)])

/-! ### Checks 13 to 16 -/

/-- L_s (R341). -/
def Device.ledgerNeed (d : Device) (h : ClaimHeader) (l : List ClaimRecord) (ss : List StartPlan) : Nat :=
  ((List.range l.length).map fun i => match (l[i]? : Option ClaimRecord) with
    | some (.egress p off frames largest) =>
      let span := ((feedsEgress h ss off).map fun f => f.2.1 - f.1.offTc).foldl max 0
      let e : EgressSlot := { port := p, offTc := off, frames := frames, largest := largest, line := 0, rel := off }
      let hold := span + d.slotLine e + (if h.cutThrough then nsTc 2000 else 0)
      frames * ceilDiv hold (shortBeat h.beats)
    | _ => 0).sum

def Device.ledgerReserved (d : Device) : Nat := (d.liveStreams.map fun s => (d.stream s).ledger).sum
def Device.ctxReserved (d : Device) : Nat := (d.liveStreams.map fun s => (d.stream s).ctxQuota).sum

/-- Check 15 (R333): every egress slot, and every flow against its latest arrival. -/
def Device.check15 (d : Device) (h : ClaimHeader) (l : List ClaimRecord) (ss : List StartPlan) : Option ClaimRefusal :=
  let one (i : Nat) : Option ClaimRefusal := match l[i]? with
    | some (.egress p off _ _) =>
      let ready (f : StartPlan × Nat × Nat) : Nat :=
        f.1.offTc + cycTc f.2.2 + nsTc (d.pathNs f.1.region 1 0 + (if h.cutThrough then 0 else 120))
      match (feedsEgress h ss off).find? fun f => decide (f.2.1 < ready f) with
      | some f => refuse stDeadline 0x0F (record := i) (unit := p) (tc := off) (need := tcNs (ready f)) (have_ := tcNs f.2.1)
      | none => none
    | some (ClaimRecord.flow src kind dest _ arrival) =>
      let end_ := if kind = 0 then unitRegionOf dest else dest
      let ready := ((feedsFlow ss (unitRegionOf src) kind end_).map fun f =>
        f.2.1 + nsTc (d.pathNs (unitRegionOf src) kind end_)).foldl max 0
      unless_ (decide (ready ≤ arrival))
        (refuse stDeadline 0x0F (record := i) (unit := src) (tc := arrival) (need := tcNs ready) (have_ := tcNs arrival))
    | _ => none
  firstRefusal ((List.range l.length).map one)

/-- Energy of an MVM at a span, with the path share, in pJ (R336). -/
def Device.eMvm (d : Device) (span : Nat) : Nat :=
  (if span = 0 then d.adm.eMvm10 else if span = 1 then d.adm.eMvm15 else d.adm.eMvm20) + d.adm.ePath

/-- P_s in mW, rounded up (R336): energy over one frame, in fJ, over 10 ms. -/
def Device.price (d : Device) (h : ClaimHeader) (l : List ClaimRecord) (ss : List StartPlan) : Nat :=
  let n := h.beats
  let mvm := ((boundTiles h l).map fun t => t.2.2.1 * n * d.eMvm t.2.1 * 1000).sum
  let dmu := (ss.map fun s => s.fig.dmuCycles * n * d.adm.eDmu * 1000).sum
  let vec := (ss.map fun s => s.fig.vecCycles * n * d.adm.eDmu * 250).sum
  let hbm := ([0, 1].map fun st =>
    hbmPerFrame (((hbmWants l ss).map fun e => if e.1 = st then e.2.1 + e.2.2 else 0).sum) n * d.adm.eHbm).sum
  let out := ((claimEgress l).map fun e => e.frames * e.largest * n * d.adm.ePort).sum
  let inn := (l.map fun x => match x with | .ingress _ _ b _ => b * n * d.adm.ePort | _ => 0).sum
  ceilDiv (mvm + dmu + vec + hbm + out + inn) 10000000000

/-- The checks of a claim, in order (R330). Admission closed refuses first (R338, R343). (DEDUCED, assumption log 71.) -/
def Device.checkClaim (d : Device) (c : ClaimConv) : Option ClaimRefusal :=
  let h := c.header
  let l := c.records
  let ss := d.startPlans c
  let held := d.ledgerReserved
  firstRefusal
    [unless_ (!d.adm.closed) (refuse stPower 0x10),
     d.check1 c h,
     unless_ (decide (d.tb.st = .locked) || decide (d.tb.st = .localTime)) (refuse stWrongState 0x02),
     d.check3 h l, check4 ss,
     unless_ (d.placePrograms (progWants l) []).isSome
       (refuse stNoCapacity 0x05 (need := ((progWants l).map fun p => p.2).sum)),
     d.check6 h l, d.check7 h ss, d.check8 h l, check9 l ss, d.check10 h l ss, d.check11 h l ss, d.check12 h l,
     unless_ (decide (held + d.ledgerNeed h l ss ≤ 131072))
       (refuse stNoCapacity 0x0D (need := d.ledgerNeed h l ss) (have_ := 131072 - held)),
     unless_ (decide (d.ctxReserved + h.ctxQuota ≤ 2097152))
       (refuse stNoCapacity 0x0E (need := h.ctxQuota) (have_ := 2097152 - d.ctxReserved)),
     d.check15 h l ss,
     unless_ (decide (d.powerUsed + d.price h l ss ≤ d.admCap))
       (refuse stPower 0x10 (need := d.price h l ss) (have_ := d.admCap - d.powerUsed))]

end Sys2Proof.Machine
end

