-- ==== Sys2Proof/Machine/Check.lean ====
section
/-! DEFINITION. The checksum check (R409 to R419), redundancy (R426) and the suspicion of tiles (R428). Residuals are
exact; windows are compared by squares. -/
namespace Sys2Proof.Machine

/-- `u_c` of a logical column of an MVM, exact (R411). -/
def Mvm.uCol (m : Mvm) (t : Tile) (c : Nat) : Int := tget 0 m.u (t.slotOf c)

/-- The residual Δ0 (R411). -/
def delta0 (t : Tile) (m : Mvm) : Rat :=
  (((List.range 512).map fun c => m.uCol t c).sum - (2 ^ t.check.a0 : Nat) * m.uCol t 512 : Int) / uDen

/-- The residual Δ1 (R411). -/
def delta1 (t : Tile) (m : Mvm) : Rat :=
  (((List.range 512).map fun (c : Nat) => (2 * (c : Int) - 511) * m.uCol t c).sum
    - 512 * (2 ^ t.check.a1 : Nat) * m.uCol t 513 : Int) / (512 * uDen)

/-- The bound b of a class (R412): A8, A7, A6. -/
def classB (cls : Nat) : Rat := if cls = 0 then 1 / 200 else if cls = 1 then 1 / 100 else 1 / 50

/-- b × FS of an MVM, squared (R412). -/
def unitBase (m : Mvm) : Rat := (classB m.cls * ((2 ^ (16 + m.range) : Nat) : Rat)) ^ 2

/-- The squares of the check units U0 and U1 (R412). -/
def unit0Sq (t : Tile) (m : Mvm) : Rat := unitBase m * (512 + (4 ^ t.check.a0 : Nat))
def unit1Sq (t : Tile) (m : Mvm) : Rat := unitBase m * (87381 / 512 + (4 ^ t.check.a1 : Nat))

/-- |Δ| / U in 1/16, to the nearest with ties away from zero. -/
def sixteenths (delta unitSq : Rat) : Nat :=
  (Nat.sqrt (1024 * (delta * delta) / unitSq).floor.toNat + 1) / 2

/-- z of R416 in 1/16: clamped to ±CK_K and rounded. -/
def zOf (k : Nat) (delta unitSq : Rat) : Int :=
  let v : Nat := min (sixteenths delta unitSq) (16 * k)
  if delta < 0 then -(v : Int) else v

/-- One accumulator's update (R416). -/
def cusum (c : Nat) (z : Int) (k : Nat) : Nat := (max 0 ((c : Int) + z - k)).toNat

/-- The accumulators after an MVM (R416). -/
def Check.update (k : Check) (z0 z1 : Int) (cusumK : Nat) : Check :=
  { k with c0p := cusum k.c0p z0 cusumK, c0m := cusum k.c0m (-z0) cusumK, c1p := cusum k.c1p z1 cusumK,
           c1m := cusum k.c1m (-z1) cusumK }

/-- Some accumulator has reached a value, or lies above it. -/
def Check.reaches (k : Check) (h : Nat) : Bool := h ≤ k.c0p || h ≤ k.c0m || h ≤ k.c1p || h ≤ k.c1m

/-- The column estimate of R415, when Δ0 is not zero. -/
def columnEstimate (d0 d1 : Rat) : Option Nat :=
  if d0 = 0 then none else some (clampI 0 511 (rna ((512 * d1 / d0 + 511) / 2))).toNat

/-- LAST_FAIL (R415, R448). -/
def lastFailWord (d0 d1 : Rat) (f0 f1 : Bool) (mag : Nat) : Nat :=
  (match columnEstimate d0 d1 with | some j => j + 2 ^ 9 | none => 0) + b2n f0 * 2 ^ 10 + b2n f1 * 2 ^ 11
    + min mag 65535 * 2 ^ 16

/-- Clip marks among the weight and CK slots (R414). -/
def Mvm.clipMarks (m : Mvm) (t : Tile) : Nat := ((List.range 514).filter fun c => m.clips.contains (t.slotOf c)).length

/-- A FAIL verdict is counted in the tile and for TILE.CHK (R305, R412), and taints the stream (R420). -/
def Device.countFail (d : Device) (p : Nat) (m : Mvm) : Device :=
  let d := d.updTile p fun t => { t with check := { t.check with failF := true, failCount := satInc t.check.failCount } }
  let d := d.updCluster (ltCluster m.logical) fun c =>
    { c with failCounts := tupd 0 c.failCounts (256 * ltTile m.logical + m.stream) fun n => min (n + 1) 65535 }
  d.taint m.stream m.at_

/-- A check FAIL joins the tile's merge window (R447). -/
def Device.mergeFail (d : Device) (p : Nat) : Device :=
  d.updTile p fun t =>
    let k := t.check
    { t with check := { k with mergeCount := some (k.mergeCount.getD 0 + 1), mergeAt := if k.mergeCount.isSome then k.mergeAt else d.real } }

/-- An MVM of a withdrawn twin: the stream runs on the primary alone (R427). -/
def Device.loneTwin (d : Device) (p : Nat) (m : Mvm) : Bool :=
  m.twin && m.pair.isSome && decide ((d.tile p).check.health = .withdrawn)

/-- The pair of a redundant MVM has both verdicts: the comparator's result (R426), while the twin takes part (R427). -/
def Device.compare (d : Device) (p q : Nat) (m n : Mvm) : Device :=
  let prim := if m.twin then q else p
  let mp := if m.twin then n else m
  let mt := if m.twin then m else n
  let tp := d.tile prim
  let tt := d.tile (if m.twin then p else q)
  let lim := ((d.flt.redK * d.flt.redK : Nat) : Rat) * 2 * unitBase mp
  let bad := (List.range mp.outs).any fun c =>
    let e : Int := tget 0 mp.ys (tp.slotOf c) - tget 0 mt.ys (tt.slotOf c)
    decide (lim < ((e * e : Int) : Rat))
  if !bad || d.loneTwin (if m.twin then p else q) mt then d
  else
    let d := if mp.judged = some false then d else d.countFail prim mp
    let one (x : Nat) (d : Device) : Device :=
      let (l, hit) := pushEvent (d.tile x).check.missTimes d.real d.flt.suspectFails
      let d := d.updTile x fun t =>
        { t with check := { t.check with mismatchF := true, mismatchCount := satInc t.check.mismatchCount, missTimes := l } }
      if hit then d.suspectTile x 0x03 0 else d.faultTile x 0x03 0 0
    one q (one p d)

/-- An MVM leaves flight once its verdict, and its pair's, is given. -/
def Device.retire (d : Device) (p : Nat) (m : Mvm) : Device :=
  let drop (x no : Nat) (d : Device) : Device :=
    d.updTile x fun t => { t with flight := t.flight.filter fun y => y.no ≠ no }
  match m.pair with
  | none => drop p m.no d
  | some q =>
    match (d.tile q).flight.find? fun y => y.pair = some p && y.dst = m.dst && y.at_ = m.at_ with
    | none => drop p m.no d
    | some n => if n.judged = none then d else drop q n.no (drop p m.no (d.compare p q m n))

/-- The verdict of a complete MVM (R412 to R417, R428, R443, R447), ready 168 ns after its strobe (R413). -/
def Device.verdict (d : Device) (p no : Nat) : Device :=
  match (d.tile p).flight.find? fun m => m.no = no && m.complete && m.judged = none && d.came (m.at_ + nsTc 168) with
  | none => d
  | some m =>
    let t := d.tile p
    let d0 := delta0 t m
    let d1 := delta1 t m
    let u0 := unit0Sq t m
    let u1 := unit1Sq t m
    let kk : Rat := ((d.flt.ckK * d.flt.ckK : Nat) : Rat)
    let f0 := decide (kk * u0 < d0 * d0)
    let f1 := decide (kk * u1 < d1 * d1)
    let withdrawn := decide (t.check.health = .withdrawn)
    let marks := m.clipMarks t
    let sums := marks = 0 && !withdrawn
    let acc := if sums then t.check.update (zOf d.flt.ckK d0 u0) (zOf d.flt.ckK d1 u1) d.flt.cusumK else t.check
    let alarm := sums && acc.reaches d.flt.cusumH
    let half := sums && !alarm && acc.reaches (d.flt.cusumH / 2 + 1) && !t.check.reaches (d.flt.cusumH / 2 + 1)
    let window := f0 || f1
    let forced := m.forced || withdrawn
    let fail := (window || alarm || forced) && !d.loneTwin p m
    let est := (columnEstimate d0 d1).getD 0
    let mag := max (sixteenths d0 u0) (sixteenths d1 u1)
    let m' := { m with judged := some (!fail) }
    let d := d.updTile p fun t =>
      let acc := if alarm then acc.restart else acc
      { (t.setMvm m') with check :=
        { acc with alarmF := acc.alarmF || alarm, alarmCount := if alarm then satInc acc.alarmCount else acc.alarmCount,
                   clipFailCount := if fail && 2 ≤ marks then satInc acc.clipFailCount else acc.clipFailCount,
                   lastFail := if (window || alarm) && !forced then lastFailWord d0 d1 f0 f1 mag else acc.lastFail } }
    let d := if m.hold then
        d.updCluster (ltCluster m.logical) fun c =>
          { c with holds := tmap c.holds fun k h => if k = ltTile m.logical then { h with pass := h.pass && !fail } else h }
      else d
    let d := if half then d.postTileTest p 1 else d
    let d := if fail then d.countFail p m' else d
    let d :=
      if alarm then d.suspectTile p 0x02 est
      else if withdrawn || !fail then d
      else if forced || 2 ≤ marks then d.mergeFail p
      else
        let (l, hit) := pushEvent (d.tile p).check.failTimes d.real d.flt.suspectFails
        let d := d.updTile p fun t => { t with check := { t.check with failTimes := l } }
        if hit then d.suspectTile p 0x01 est else d.mergeFail p
    d.retire p m'

/-- The merge window of a tile ends 1 ms after its first FAIL (R447): one record with the number of FAILs. -/
def Device.mergeEnd (d : Device) (p : Nat) : Device :=
  match (d.tile p).check.mergeCount with
  | none => d
  | some n =>
    if !d.ranOut (d.tile p).check.mergeAt (msTc 1) then d
    else
      let d := d.updTile p fun t => { t with check := { t.check with mergeCount := none } }
      d.faultRec (match d.logicalOf p with | some l => unitLt l | none => 0) (unitPt p) 0x01 0 (min n 65535)
        (bits (d.tile p).check.lastFail 8 0) 0x1FF

/-- CHECK_VERDICT (R412). -/
def execCheckVerdict (pt no : Nat) (s : State) : Host.Outcome State Fault Refusal :=
  .next (s.upd fun d => d.verdict pt no)

/-- FAULT_MERGE_WINDOW_END (R447). -/
def execFaultMergeWindowEnd (pt : Nat) (s : State) : Host.Outcome State Fault Refusal :=
  .next (s.upd fun d => d.mergeEnd pt)

end Sys2Proof.Machine
end

