-- ==== Sys2Proof/Machine/Dress.lean ====
section
/-! DEFINITION. Dressing and rolling re-dress (R117 to R126, R152 to R157, R409). -/
namespace Sys2Proof.Machine

/-! ### Targets (R121, R409) -/

/-- Target code of logical row and weight column. -/
def target (t : Table Int) (row col : Nat) : Int := tget 0 t (512 * row + col)

/-- `S0_r`, and 512 × `S1_r` (R409). -/
def rowS0 (t : Table Int) (row : Nat) : Int := ((t.filter fun e => e.1 / 512 = row).map fun e => e.2).sum
def rowS1 (t : Table Int) (row : Nat) : Int :=
  ((t.filter fun e => e.1 / 512 = row).map fun e => (2 * ((e.1 % 512 : Nat) : Int) - 511) * e.2).sum

/-- The least exponent with `max ≤ 127 × scale × 2^a`, up to a limit (R409). -/
def leastExp (limit top scale : Nat) : Nat :=
  ((List.range (limit + 1)).find? fun a => decide (top ≤ 127 * scale * 2 ^ a)).getD limit

/-- A0 and A1 of a tile's targets (R409). -/
def scaleA0 (t : Table Int) : Nat := leastExp 9 (((List.range 512).map fun r => (rowS0 t r).natAbs).foldl max 0) 1
def scaleA1 (t : Table Int) : Nat := leastExp 8 (((List.range 512).map fun r => (rowS1 t r).natAbs).foldl max 0) 512

/-- Fractional targets of CK0 and CK1 on a row, in 1/16 code (R409). -/
def ckTarget (t : Table Int) (a0 a1 row k : Nat) : Int :=
  if k = 0 then rna ((16 * rowS0 t row : Int) / ((2 ^ a0 : Nat) : Rat))
  else rna ((16 * rowS1 t row : Int) / ((512 * 2 ^ a1 : Nat) : Rat))

/-- The fixed-star codes (R121). -/
def starCode (k : Nat) : Int := lget 0 [0, 16, 48, 80, 127, -16, -64, -127] k

/-- A physical tile is asked to dress a logical tile with targets (R121, R123). -/
def Device.queueDressing (d : Device) (p lt : Nat) (targets : Table Int) (model version epoch : Nat) : Device :=
  let order := (d.tiles.map fun e => e.2.dress.order).foldl max 0 + 1
  d.updTile p fun t =>
    let ck := (List.range 512).flatMap fun r =>
      [(2 * r, ckTarget targets (scaleA0 targets) (scaleA1 targets) r 0),
       (2 * r + 1, ckTarget targets (scaleA0 targets) (scaleA1 targets) r 1)]
    { t with logModel := model, logVersion := version, logEpoch := epoch,
             dress := { t.dress with st := .queued, order := order, logical := lt, rowsDone := 0, targets := targets,
                                     ckTargets := ck.filter fun e => e.2 ≠ 0 } }

/-! ### Allowance and temperature (R123, R124, R595) -/

/-- Physical tiles of a region by a test of their dressing. -/
def Device.dressing (d : Device) (r : Nat) (f : DressSt → Bool) : List Nat :=
  (d.tiles.filter fun e => ptRegion e.1 = r && f e.2.dress.st).map fun e => e.1

/-- Tiles a region may dress at once (R123). -/
def Device.dressSlots (d : Device) (r : Nat) : Nat := min 4 ((d.region r).dressAllow / 600)

/-- A tile of the die is paused for temperature (R124). -/
def Device.tempPausedTiles (d : Device) (n : Nat) : Bool :=
  d.tiles.any fun e => ptDie e.1 = n && e.2.dress.st = .pausedTemp

/-- Bytes of the model byte space that a tile record's codes take: from OFFSET to the end of the last row (R382). -/
def TileRecord.codes (t : TileRecord) : Nat × Nat := (t.offset, t.offset + t.rows * t.stride + t.cols + 1)

/-- Tile records of an epoch that are dressed on a logical tile, or name it (R394, R395). -/
def Area.recordsOn (a : Area) (m : ModelSlot) (lt : Nat) : List (Nat × TileRecord) :=
  match a.manifest with
  | none => []
  | some x => ((List.range x.tiles.length).zip x.tiles).filter fun e => m.place e.2.tile = lt || a.dressedOn e.1 = lt

/-- The store areas of every model slot, each with its slot. -/
def Device.storeAreas (d : Device) : List (ModelSlot × Area) :=
  d.mm.slots.flatMap fun e => [(e.2, e.2.area0), (e.2, e.2.area1)]

/-- First and last shard that hold the codes dressed on a logical tile for a model's epoch (R126, R379, R528); 0 and 0 where the
model manager holds no such record. -/
def Device.shardsOf (d : Device) (lt model epoch : Nat) : Nat × Nat :=
  let held := d.storeAreas.filter fun e => e.1.model = model && e.2.epoch = epoch
  match held.flatMap fun e => e.2.recordsOn e.1 lt with
  | (_, t) :: _ => (t.codes.1 / 4194304, (t.codes.2 - 1) / 4194304)
  | [] => (0, 0)

/-- A placement record (R126, R528): the physical and the logical tile, model, shards, epoch and dressing count. -/
def Device.logPlacement (d : Device) (kind p lt : Nat) : Device :=
  let t := d.tile p
  let (first, last) := d.shardsOf lt t.logModel t.logEpoch
  let rec_ : PlacementRecord :=
    { lseq := d.placement.length + 1, kind := kind, pt := p, lt := lt, model := t.logModel, version := t.logVersion,
      epoch := t.logEpoch, count := t.dress.count, shardFirst := first, shardLast := last, debugKey := d.sec.mode = .debug }
  { d with placement := d.placement ++ [rec_] }.emit (.placement kind p lt t.logModel t.logEpoch t.dress.count)

/-- A repair of a tile's maps is recorded in the die OTP while it has room, and in the placement log after that, and is reported
(R18, R20, R120, R528) with the EVENT of its cause, the logical row or column in F_DETAIL. `kind` is 0 for a row and 1 for a column,
in the entry's layout (R608). (DEDUCED, assumption log 64, DESIGN CHOICE, assumption log 99.) -/
def Device.recordRepair (d : Device) (p kind logical spare event : Nat) : Device :=
  let n := ptDie p
  let code := p % 864 + logical * 2 ^ 10 + spare * 2 ^ 20 + kind * 2 ^ 30 + 2 ^ 31
  let d := if (d.die n).repairs.length < 8096 then d.updDie n fun x => { x with repairs := x.repairs ++ [code] }
    else d.logPlacement 0 p (d.tile p).dress.logical
  d.faultTile p event 0 logical

/-- An unused spare physical row, and an unused spare column slot (R120). -/
def Tile.spareRow (t : Tile) : Option Nat := ((List.range 4).map fun i => 512 + i).find? t.rowSpare
def Tile.spareSlot (t : Tile) : Option Nat := ((List.range 6).map fun i => 522 + i).find? t.slotSpare

/-- The logical column of a column slot. -/
def Tile.colOf (t : Tile) (slot : Nat) : Nat :=
  ((List.range 522).find? fun c => t.slotOf c = slot).getD slot

/-- Map a logical row, or a logical column, to a spare, which is used from then on whatever becomes of it (R29, R120). -/
def Tile.mapRow (t : Tile) (row spare : Nat) : Tile :=
  { t with rowRepair := tset t.rowRepair row spare, spentRows := spare :: t.spentRows }
def Tile.mapCol (t : Tile) (col spare : Nat) : Tile :=
  { t with colRepair := tset t.colRepair col spare, spentSlots := spare :: t.spentSlots }

/-- Map a logical row to an unused spare physical row. -/
def Tile.repairRow (t : Tile) (row : Nat) : Option Tile := t.spareRow.map fun x => t.mapRow row x

/-- Map the logical columns of failed slots to spare slots. -/
def Tile.repairCols (t : Tile) (slots : List Nat) : Option Tile :=
  slots.foldl (fun acc s => match acc with
    | none => none
    | some t => t.spareSlot.map fun x => t.mapCol (t.colOf s) x) (some t)

/-- The tile of a failed dressing is faulty (R120): reported, its re-dress abandoned (R155), and a substitution that has no
other spare quarantines the region (R433). (DEDUCED, assumption log 64.) -/
def Device.dressFailed (d : Device) (p event : Nat) : Device :=
  let d := d.updTile p fun t => t.undress.setHealth .faulty
  let d := (d.faultTile p event 0x0 0).logPlacement 4 p (d.tile p).dress.logical
  let running := (d.cluster (ptCluster p)).redress.filter fun x => decide (2 ≤ x.stage)
  let d := if (d.logicalOf p).isSome then d
    else forEach (running.map fun x => x.logical) (fun lt d => d.abandonRedress lt) d
  if (d.logicalOf p).isNone && running.any (fun x => decide (x.cause.rank ≤ 1)) then
    d.quarantine (ptRegion p) 0x18 0x5 0
  else d.failDressing p

/-- Rows parked by a trip are remapped to spare rows at the start of a dressing (R94). -/
def Tile.remapParked (t : Tile) : Option Tile :=
  (List.range 512).foldl (fun acc row => match acc with
    | none => none
    | some t => if t.parked.contains (t.rowOf row) then t.repairRow row else some t) (some t)

/-- The rows that a start of a dressing has remapped are recorded (R94, R120). -/
def Device.recordRemaps (d : Device) (p : Nat) (before : Tile) : Device :=
  forEach ((List.range 512).filter fun r => decide ((d.tile p).rowOf r ≠ before.rowOf r))
    (fun r d => d.recordRepair p 0 r ((d.tile p).rowOf r) 0x05) d

/-- A tile paused at a row boundary is the next of its region to resume: paused tiles resume in ascending number (R123). -/
def Device.resumesNext (d : Device) (p : Nat) : Bool :=
  (d.dressing (ptRegion p) fun s => s = .pausedAllowance || s = .pausedTemp).all fun q => decide (p ≤ q)

/-- A paused tile resumes. -/
def Device.dressResume (d : Device) (p : Nat) : Device :=
  d.updTile p fun t => { t with dress := { t.dress with st := .active } }

/-- Start, or resume, the dressing of a physical tile (R117 step 1, R123 to R125, R595): a tile paused for temperature resumes
below 90 °C, and none dresses a row above 95 °C. -/
def Device.dressStart (d : Device) (p : Nat) : Device :=
  let r := ptRegion p
  let n := ptDie p
  let t := d.tile p
  let active := (d.dressing r fun s => s = .active).length
  let temp := d.dieTemp n
  let room := decide (active < d.dressSlots r)
  match t.dress.st with
  | .pausedTemp => if temp < 1440 ∧ room ∧ d.resumesNext p then d.dressResume p else d
  | .pausedAllowance => if temp ≤ 1520 ∧ room ∧ d.resumesNext p then d.dressResume p else d
  | .queued =>
    if (d.region r).dressAllow < 600 ∨ d.pins.vppLow then d.faultTile p 0x15 0 0
    else if 1520 < temp ∨ d.tempPausedTiles n ∨ ¬ room
        ∨ (d.dressing r fun s => s = .pausedAllowance) ≠ []
        ∨ (d.dressing r fun s => s = .queued).any (fun q => decide ((d.tile q).dress.order < t.dress.order))
        ∨ ¬ t.flight.isEmpty ∨ ¬ t.bursts.isEmpty ∨ ¬ d.tileOpen p then d
    else match t.remapParked with
      | none => d.dressFailed p 0x16
      | some t' =>
        (d.updTile p fun _ =>
          { t'.clearRoles with st := .parked, cells := [],
                               dress := { t'.dress with st := .active, dressed := false, rowsDone := 0 } }).recordRemaps p t
  | _ => d

/-- Target code, in 1/16, of a logical column on a row of the tile's dressing: weight columns, CK and fixed stars (R121, R409). -/
def Tile.code16 (t : Tile) (row c : Nat) : Int :=
  if c < 512 then 16 * target t.dress.targets row c
  else if c < 514 then tget 0 t.dress.ckTargets (2 * row + (c - 512))
  else 16 * starCode (c - 514)

/-- A dressed row (R119, R121): dress_weight on each slot in use, with the conductances that its pulses leave; the cells it leaves
and the slots that FAILED. -/
def Tile.dressSlots (t : Tile) (row : Nat) (reads : List (Nat × List Nat)) : List (Nat × Cells × Bool) :=
  (List.range 522).map fun c =>
    let (run, ok) := dressWeight (t.code16 row c) (tget [] reads (t.slotOf c))
    (t.slotOf c, run.cells, ok)

/-- The cells of a row, once its slots have been dressed. -/
def Tile.setRow (t : Tile) (row : Nat) (l : List (Nat × Cells × Bool)) : Tile :=
  let base := 528 * t.rowOf row
  { t with cells := l.foldl (fun cs e => if e.2.1 = .floor then tdel cs (base + e.1) else tset cs (base + e.1) e.2.1) t.cells }

/-- A row dressed at its first pulses, each cell where the algorithm asks for it. -/
def Tile.dressCells (t : Tile) (row : Nat) : Tile := t.setRow row (t.dressSlots row [])

/-- A row boundary (R123, R124): a tile pauses above 95 °C, or, with the allowance for fewer tiles than lie below it in number. -/
def Device.rowBoundary (d : Device) (p : Nat) : Device :=
  let r := ptRegion p
  let below := (d.dressing r fun s => s = .active).filter fun q => decide (q < p)
  if 1520 < d.dieTemp (ptDie p) then
    (d.updTile p fun t => { t with dress := { t.dress with st := .pausedTemp } }).faultTile p 0x15 0 0
  else if d.dressSlots r ≤ below.length then
    (d.updTile p fun t => { t with dress := { t.dress with st := .pausedAllowance } }).faultTile p 0x15 0 0
  else d

/-- One row of a dressing (R117 to R120, R125), started only when the access of R22 lasts 340 µs more. `reads` gives, by slot,
the conductances in nS, projected to the target time, that the pulses leave on the cell pulsed. A row with a FAILED weight is
mapped to a spare row and dressed again; without a spare row, the columns are mapped to spare slots and every row is dressed again.
(DESIGN CHOICE, assumption log 25.) -/
def Device.dressRow (d : Device) (p : Nat) (reads : List (Nat × List Nat)) : Device :=
  let t := d.tile p
  if t.dress.st ≠ .active ∨ 512 ≤ t.dress.rowsDone ∨ !d.accessLasts p 340 then d
  else
    let row := t.dress.rowsDone
    let done := t.dressSlots row reads
    let failed := (done.filter fun e => !e.2.2).map fun e => e.1
    let d := d.updTile p fun t => t.setRow row done
    if failed = [] then
      (d.updTile p fun t => { t with dress := { t.dress with rowsDone := row + 1 } }).rowBoundary p
    else
      let d := d.updDie (ptDie p) fun x => { x with dressFailCount := satAdd x.dressFailCount failed.length }
      match (d.tile p).repairRow row with
      | some t' => ((d.updTile p fun _ => t').recordRepair p 0 row (t'.rowOf row) 0x16).rowBoundary p
      | none => match (d.tile p).repairCols failed with
        | some t' =>
          let d := d.updTile p fun _ => { t' with dress := { t'.dress with rowsDone := 0 } }
          (forEach failed (fun s d => d.recordRepair p 1 (t.colOf s) (t'.slotOf (t.colOf s)) 0x16) d).rowBoundary p
        | none => d.dressFailed p 0x16

/-- The trim entries dressing writes (R121, R410). -/
def Tile.dressTrims (t : Tile) : Tile :=
  let entry (colsum : Int) (role : Nat) : TrimEntry := { TrimEntry.reset with colsum := colsum, role := role }
  let colsum (c : Nat) : Int := ((t.dress.targets.filter fun e => e.1 % 512 = c).map fun e => e.2).sum
  let ck (k : Nat) : Int := rna (((t.dress.ckTargets.filter fun e => e.1 % 2 = k).map fun e => e.2).sum / 16 : Rat)
  let trims := (List.range 522).foldl (fun ts c =>
    tset ts (t.slotOf c)
      (if c < 512 then entry (colsum c) 1 else if c < 514 then entry (ck (c - 512)) 2
       else entry (512 * starCode (c - 514)) 3)) []
  { t with trims := trims }

/-- The dressing of a tile ends with the verify of its last row (R121, R126, R157, R419). -/
def Device.dressComplete (d : Device) (p : Nat) : Device :=
  let t := d.tile p
  if t.dress.st ≠ .active ∨ t.dress.rowsDone < 512 then d
  else
    let temp := d.dieTemp (ptDie p)
    let d := d.updTile p fun t =>
      let t := t.dressTrims
      let k := t.check.restart
      { t with tripFail := false,
               check := { k with a0 := scaleA0 t.dress.targets, a1 := scaleA1 t.dress.targets },
               sight := { t.sight with kappa := 32768, tk := temp, loops := 0, free := true },
               dress := { t.dress with st := .idle, dressed := true, dressedAt := some d.real, count := t.dress.count + 1 } }
    let lt := (d.tile p).dress.logical
    let d := d.logPlacement 1 p lt
    let d := d.updCluster (ptCluster p) fun c =>
      { c with redress := c.redress.map fun x => if x.logical = lt && x.stage = 2 then { x with stage := 3 } else x }
    if 20000 ≤ (d.tile p).dress.count then (d.faultTile p 0x17 0 0).dressFailed p 0x17 else d.stageEpochs

/-! ### Rolling re-dress (R152 to R155) -/

/-- A range of the byte space touches a shard (R379). -/
def touches (rng : Nat × Nat) (i : Nat) : Bool := decide (rng.1 < (i + 1) * 4194304) && decide (i * 4194304 < rng.2)

/-- The codes that an epoch dressed on a logical tile lie in verified shards of its area: one corrupt shard among them, and the
digital copy counts as absent (R153, R395, R405). -/
def Area.copyOf (a : Area) (m : ModelSlot) (lt : Nat) : Bool :=
  a.st ≠ .empty && a.st ≠ .failed && (a.recordsOn m lt).any fun e =>
    a.dressed.contains e.1 && a.dressedOn e.1 = lt && ((List.range a.shards.length).zip a.shards).all fun h =>
      !touches e.2.codes h.1 || (h.2.verified && !h.2.corrupt)

/-- A digital copy of the logical tile's weights is in the HBM model store (R153, R158). -/
def Device.digitalCopy (d : Device) (p : Nat) : Bool :=
  let t := d.tile p
  t.logModel ≠ 0 && d.storeAreas.any fun e =>
    e.1.model = t.logModel && e.2.epoch = t.logEpoch && e.2.copyOf e.1 t.dress.logical

/-- The re-dress of a cluster that the queue takes next (R152): by cause, then the highest KAPPA in the near zone, then
the lower logical tile. -/
def Device.nextRedress (d : Device) (c : Nat) : Option Redress :=
  let kap (x : Redress) : Nat := match d.physOf x.logical with | some p => (d.tile p).sight.kappa | none => 0
  (d.cluster c).redress.foldl (fun best x => match best with
    | none => some x
    | some b =>
      if x.cause.rank < b.cause.rank then some x
      else if x.cause.rank = b.cause.rank ∧ x.cause = .near ∧ kap b < kap x then some x
      else if x.cause.rank = b.cause.rank ∧ (x.cause ≠ .near ∨ kap x = kap b) ∧ x.logical < b.logical then some x
      else best) none

/-- Copy the sighting settings of the old tile to the spare (R153 step 2). -/
def copySight (old spare : Tile) : Tile :=
  let slotMap (v : Nat) : Nat :=
    if seSlot v < slotCount then v - seSlot v + spare.slotOf (old.colOf (seSlot v)) else v
  { spare with sight := { spare.sight with table := tmap old.sight.table fun _ v => slotMap v, trig := old.sight.trig,
                                           len := old.sight.len, code := old.sight.code, every := old.sight.every,
                                           period := old.sight.period, delay := old.sight.delay,
                                           ktemp := old.sight.ktemp, pos := 0, readsLeft := 0, loopStart := none,
                                           pendCtrl := none, pendTable := [], trigAt := [], fires := [], lastTrig := old.sight.lastTrig } }

/-- A re-dress of a logical tile begins (R152, R153 steps 1 and 2), or waits and reports the wait once. -/
def Device.redressStart (d : Device) (lt : Nat) : Device :=
  let c := ltCluster lt
  match d.nextRedress c, d.physOf lt with
  | some x, some old =>
    if x.logical ≠ lt ∨ (d.cluster c).redress.any (fun y => decide (2 ≤ y.stage)) then d
    else
      let stageTo (n : Nat) (d : Device) : Device := d.updCluster c fun k =>
        { k with redress := k.redress.map fun y => if y.logical = lt then { y with stage := n } else y }
      let wait := if x.stage = 0 then (stageTo 1 d).fault (unitLt lt) (unitPt old) 0x15 0 0 else d
      match d.spareOf c with
      | none => wait
      | some p =>
        if (d.tile p).check.health = .faulty ∨ (d.tile p).dress.st ≠ .idle ∨ ¬ d.digitalCopy old
            ∨ d.dressSlots (ptRegion p) = 0 then wait
        else
          let o := d.tile old
          let d := d.updTile p fun t => copySight o t
          stageTo 2 (d.queueDressing p lt o.dress.targets o.logModel o.logVersion o.logEpoch)
  | _, _ => d

/-- The strictest class of the streams bound to a logical tile; A8 when none is (R153 step 3). -/
def Device.strictest (d : Device) (lt : Nat) : Nat :=
  ((d.liveStreams.filter fun s => d.bound s lt).map fun s => (d.stream s).cls).foldl min
    (if d.liveStreams.any fun s => d.bound s lt then 2 else 0)

/-- A spare's first loop is done and the interval since its dressing has passed (R111, R153 step 3). -/
def Device.switchReady (d : Device) (p cls : Nat) : Bool :=
  1 ≤ (d.tile p).sight.loops && d.dressedFor p (if cls = 0 then 10 else if cls = 1 then 1 else 0)

/-- The next instant after now at which a start of a stream falls due. -/
def Device.nextStart (d : Device) (s : Nat) (st : StreamStart) : Nat :=
  let n := (d.stream s).almanac
  let k := beatNo n d.clk.now
  let t := beatStartNo n k + st.offTc
  if d.clk.now < t then t else beatStartNo n (k + 1) + st.offTc

/-- An activation of a stream runs in a region, or waits to begin there, or something it issued is not complete (R225, R260). -/
def Device.runsIn (d : Device) (s r : Nat) : Bool :=
  let g := d.region r
  let runs (slot : Nat) : Bool := (tget ProgSlot.reset g.ps slot).stream = s
  (g.active && runs g.regs.slot) || (g.kept.any fun e => runs e.1) || g.xfers.any fun x => x.stream = s

/-- A stream is at a batch boundary in a region (R323): nothing of it runs there, and no other start of it falls due before its
next BATCH start. -/
def Device.atBatchBoundary (d : Device) (s r : Nat) : Bool :=
  let x := d.stream s
  let here := x.starts.filter fun st => (x.programs[st.prog]?.map fun p => p.region) = some r
  let next (batch : Bool) : List Nat := (here.filter fun st => st.batch = batch).map fun st => d.nextStart s st
  !d.runsIn s r && match next true with
    | [] => true
    | t :: rest => (next false).all fun u => decide (rest.foldl min t ≤ u)

/-- The switch instant of a logical tile has come (R28): every stream bound to it is at a batch boundary in its region, and no MVM
is in flight, or still to be applied, on the physical tile that serves it. -/
def Device.switchInstant (d : Device) (lt old : Nat) : Bool :=
  ((d.liveStreams.filter fun s => d.bound s lt).all fun s => d.atBatchBoundary s (ltRegion lt)) &&
    (d.tile old).bursts.isEmpty && (d.tile old).flight.all fun m => m.complete

/-- A physical tile whose map entry has gone to the spare becomes the cluster's spare (R153 step 5): its sighting stops, waiting
writes with it, its trim entries are ROLE 0, and it waits for the next dressing. A withdrawn one is faulty from then on (R432).
(DEDUCED, assumption log 65.) -/
def Tile.freed (t : Tile) : Tile :=
  let t := t.undress
  { t with tripFail := false,
           sight := { t.sight with trig := 0, loopStart := none, readsLeft := 0, pendCtrl := none, pendTable := [], trigAt := [],
                                   intervals := [], fires := [] },
           check := { t.check with health := if t.check.health = .withdrawn then .faulty else t.check.health } }

/-- The EVENT of a re-dress's completion record is that of its cause (R447); a re-dress by command has no EVENT in R446. (DESIGN
CHOICE, assumption log 99.) -/
def Device.redressDone (d : Device) (lt p : Nat) (x : Redress) : Device :=
  let (event, d) := if x.cause = .command then takeFree 8 d else (x.event, d)
  d.fault (unitLt lt) (unitPt p) event 0x4 0

/-- The tile map of a cluster changes (R28, R153 steps 4 and 5), and the completed re-dress is reported (R20, R447). -/
def Device.mapSwitch (d : Device) (lt : Nat) : Device :=
  let c := ltCluster lt
  match (d.cluster c).redress.find? fun x => x.logical = lt, d.physOf lt, d.spareOf c with
  | some x, some old, some p =>
    if x.stage ≠ 3 ∨ ¬ d.switchReady p (d.strictest lt) ∨ ¬ d.switchInstant lt old then d
    else
      let d := d.updCluster c fun k =>
        { k with map := lset k.map (ltTile lt) (ptTile p), redress := k.redress.filter fun y => y.logical ≠ lt }
      let d := d.updTile p fun t => { t with check := t.check.restart }
      let d := d.updTile old Tile.freed
      (d.logPlacement 2 p lt).redressDone lt p x
  | _, _, _ => d

/-- The dressed physical tiles of a die (R158, R438). -/
def Device.dressedTiles (d : Device) (n : Nat) : List Nat :=
  (d.tiles.filter fun e => e.2.dress.dressed && decide (ptDie e.1 = n)).map fun e => e.1

/-- DRESS_ALLOW of a region is written (R123, R127, R339): raising it must fit ADM_CAP. -/
def Device.dressAllowWrite (d : Device) (r v : Nat) : Nat × Device :=
  let old := (d.region r).dressAllow
  if 2 ^ 13 ≤ v then (stReserved, d)
  else if 4000 < v then (stFieldRange, d)
  else if old < v ∧ d.admCap < d.powerUsed + (v - old) then (stPower, d)
  else (stOK, d.updRegion r fun g => { g with dressAllow := v })

/-- DRESSING_START (R117, R122 to R124). -/
def execDressingStart (pt : Nat) (s : State) : Host.Outcome State Fault Refusal := .next (s.upd fun d => d.dressStart pt)

/-- DRESS_ROW (R117 to R120, R122, R125). (DESIGN CHOICE, assumption log 25.) -/
def execDressRow (pt : Nat) (reads : List (Nat × List Nat)) (s : State) : Host.Outcome State Fault Refusal :=
  .next (s.upd fun d => d.dressRow pt reads)

/-- DRESSING_COMPLETE (R121, R126). -/
def execDressingComplete (pt : Nat) (s : State) : Host.Outcome State Fault Refusal :=
  .next (s.upd fun d => d.dressComplete pt)

/-- DRESS_ALLOW_WRITE (R123, R127). -/
def execDressAllowWrite (who r value : Nat) (s : State) : Host.Outcome State Fault Refusal :=
  .next (s.upd fun d => d.dieWrite who (r / 6) .operator fun d => d.dressAllowWrite r value)

/-- REDRESS_START (R152, R153). -/
def execRedressStart (lt : Nat) (s : State) : Host.Outcome State Fault Refusal := .next (s.upd fun d => d.redressStart lt)

/-- TILE_MAP_SWITCH (R28, R153). -/
def execTileMapSwitch (lt : Nat) (s : State) : Host.Outcome State Fault Refusal := .next (s.upd fun d => d.mapSwitch lt)

end Sys2Proof.Machine
end

