-- ==== Sys2Proof/Machine/Retire.lean ====
section
/-! DEFINITION. The exchange of epochs and the retirement of the old one (R398 to R403), and the fencing of a die
(R437), which a pending switch meets. -/
namespace Sys2Proof.Machine

/-- Change the model manager. -/
def Device.updMm (d : Device) (f : ModelMgr → ModelMgr) : Device := { d with mm := f d.mm }

/-- Set the rescale entries of a logical tile to S_MIN, their reset value (R165, R403). -/
def Device.clearRescale (d : Device) (lt : Nat) : Device :=
  d.updCluster (ltCluster lt) fun c =>
    { c with rescale := c.rescale.filter fun e => e.1 / 512 ≠ ltTile lt, zrange := tdel c.zrange (ltTile lt) }

/-- The epoch dressed on a logical tile is retired (R155, R403): sighting stops, the trim entries are ROLE 0, the tile
waits to be dressed again, its rescale entries are S_MIN, a re-dress of it is abandoned. -/
def Device.retireTile (d : Device) (lt : Nat) : Device :=
  let d := d.abandonRedress lt
  let d := match d.physOf lt with
    | none => d
    | some p => d.updTile p fun t =>
        let t := t.undress
        { t with sight := { t.sight with trig := 0, loopStart := none, readsLeft := 0, pendCtrl := none, pendTable := [],
                                         trigAt := [], fires := [] } }
  d.clearRescale lt

/-- The area of an epoch that is gone: area 0 keeps its range, area 1 is freed (R386, R403). -/
def Area.emptied (x : Area) (a : Nat) : Area :=
  if a = 0 then { Area.reset with base := x.base, allocated := x.allocated } else Area.reset

/-- Retire the epoch of an area (R403). -/
def Device.retireArea (d : Device) (n a : Nat) : Device :=
  let d := forEach ((d.area n a).partner.map fun e => e.2) (fun lt d => d.retireTile lt) d
  d.updArea n a fun x => x.emptied a

/-- Exchange one tile of a model with its bench partner in a cluster (R400): tile-map entries, and rescale entries with the count of
their all-zero columns (R183). -/
def Cluster.exchange (c : Cluster) (a b : Nat) : Cluster :=
  let mark (k : Nat) : Nat := if k = a then b else if k = b then a else k
  let swap (k : Nat) : Nat := if k / 512 = a then 512 * b + k % 512 else if k / 512 = b then 512 * a + k % 512 else k
  { c with map := lset (lset c.map a (lget 9 c.map b)) b (lget 9 c.map a),
           rescale := c.rescale.foldl (fun t e => tset t (swap e.1) e.2) [],
           zrange := c.zrange.foldl (fun t e => tset t (mark e.1) e.2) [] }

/-- The new epoch starts in a region from the adapter shipped in its package (R220): the bytes of the old epoch's matrices there are
no longer its own, and no rule says where the package holds the new ones: free bytes until its program loads them. (DESIGN CHOICE,
assumption log 79.) -/
def Device.dropAdapters (d : Device) (l : List AdapterImage) (r : Nat) : Device :=
  (l.filter fun x => x.region = r).foldl (fun d x => x.rows.foldl (fun d e =>
    forEach (List.range e.2.length) (fun i d =>
      let (v, d) := takeFree 8 d
      d.updRegion r fun g => { g with fw := memWrite g.fw (e.1 + i) [BitVec.ofNat 8 v] }) d) d) d

/-- The exchange of a region (R400, R402): every tile of the model there, and the epoch selects of its streams. A
re-dress of such a tile is abandoned, and the accumulators of both physical tiles restart (R419). -/
def Device.exchangeRegion (d : Device) (n r : Nat) : Device :=
  let m := d.modelSlot n
  let new := m.activeEpoch % 2
  let tiles := match (d.area n new).manifest with | some x => x.tiles | none => []
  let d := forEach (List.range tiles.length) (fun i d =>
    match (tiles[i]? : Option TileRecord) with
    | none => d
    | some t =>
      let a := m.place t.tile
      let b := (d.area n new).dressedOn i
      if ltRegion a ≠ r ∨ a = b then d
      else
        let d := d.abandonRedress a
        let d := d.updCluster (ltCluster a) fun c => c.exchange (ltTile a) (ltTile b)
        let name (lt : Nat) (d : Device) : Device := match d.physOf lt with
          | some p => (d.updTile p fun (y : Tile) =>
            { y with dress := { y.dress with logical := lt }, check := y.check.restart }).logPlacement 2 p lt
          | none => d
        let d := name b (name a d)
        let set (k : Nat) (x : Area) : Area := { x with partner := x.partner.map fun e => if e.1 = i then (i, k) else e }
        (d.updArea n new (set a)).updArea n (1 - new) (set b)) d
  let d := d.dropAdapters (d.area n (1 - new)).adapters r
  let here := d.liveStreams.filter fun s => decide ((d.stream s).model = m.model) && (d.stream s).programs.any fun p => p.region = r
  d.updModelSlot n fun m => { m with
    sel := here.foldl (fun t s => tset t (64 * s + r) new) m.sel,
    plan := m.plan.map fun (p : SwitchPlan) => { p with regions := p.regions.map fun e => if e.1 = r then (e.1, e.2.1, true) else e } }

/-- Streams of a plan cross once the instant has passed in each of their regions; with none left to cross the old epoch
is retired and the switch ends (R398, R400, R403). Regions whose streams have all left are exchanged first. -/
def Device.settleSwitch (d : Device) (n : Nat) : Device :=
  match (d.modelSlot n).plan with
  | none => d
  | some p =>
    let waits := (p.regions.filter fun e => !e.2.2).map fun e => e.1
    let crossed := p.streams.map fun e =>
      (e.1, e.2.1, e.2.2 || !((d.stream e.1).programs.any fun q => waits.contains q.region))
    if crossed.all fun e => e.2.2 then
      let d := forEach waits (fun r d => d.exchangeRegion n r) d
      let d := d.retireArea n (1 - (d.modelSlot n).activeEpoch % 2)
      let d := d.updModelSlot n fun m => { m with plan := none }
      (d.updMm fun m => { m with switchDoneF := true }).glb 6
    else d.updModelSlot n fun m => { m with plan := some { p with streams := crossed } }

/-- A region reaches its instant (R400): once, and only for a pending switch. -/
def Device.reachInstant (d : Device) (n r : Nat) : Device :=
  match (d.modelSlot n).plan with
  | none => d
  | some p =>
    if p.regions.any fun e => e.1 = r && !e.2.2 then (d.exchangeRegion n r).settleSwitch n else d

/-- The instant of a region that a pending switch has reached and not yet passed (R399, R400). -/
def Device.dueInstant (d : Device) (n r : Nat) : Option Nat :=
  (d.modelSlot n).plan.bind fun p => (p.regions.find? fun e => e.1 = r && !e.2.2 && d.came e.2.1).map fun e => e.2.1

/-- SWITCH_INSTANT (R53, R55, R400, R402): at X_r. -/
def execSwitchInstant (slot r : Nat) (s : State) : Host.Outcome State Fault Refusal :=
  .next (s.upd fun d => match d.dueInstant slot r with
    | some x => (d.onTime x (unitRegion r) (unitRegion r) 0x1FF).reachInstant slot r
    | none => d)

/-- Regions of a die that is fenced count as switched (R402). -/
def Device.switchDie (d : Device) (n : Nat) : Device :=
  forEach (List.range 16) (fun k d => forEach ((List.range 6).map fun g => 6 * n + g) (fun r d => d.reachInstant k r) d) d

/-- A hub restart makes the exchange at once wherever a switch is pending, then retires the old epoch (R402). (DEDUCED,
assumption log 78.) -/
def Device.switchAll (d : Device) : Device :=
  forEach (List.range 16) (fun k d => forEach d.allRegions (fun r d => d.reachInstant k r) d |>.settleSwitch k) d

/-- A stream that leaves drops out of every pending switch (R398). -/
def Device.leaveSwitch (d : Device) (s : Nat) : Device :=
  let slots := tmap d.mm.slots fun _ m =>
    { m with sel := m.sel.filter fun e => e.1 / 64 ≠ s,
             plan := m.plan.map fun (p : SwitchPlan) => { p with streams := p.streams.filter fun e => e.1 ≠ s } }
  let d := d.updMm fun m => { m with slots := slots }
  forEach (List.range 16) (fun k d => d.settleSwitch k) d

/-- An output on a die or on its hub link: what it holds is lost with the die (R437). -/
def FabLink.onDie (n : Nat) : FabLink → Bool
  | .mesh die _ _ | .gate die _ _ | .hub die _ | .ring die _ => decide (die = n)
  | .cross _ _ => false

/-- Fence a die (R437): the hub accepts nothing more from it, its compute side resets, its results in flight are
discarded, its streams are breached and their re-placement begins. A pending switch counts its regions as switched
(R402). -/
def Device.fenceDie (d : Device) (n event : Nat) : Device :=
  if ¬ n < d.dieCount ∨ d.flt.fenced.contains n then d
  else
    let d := d.faultDie n event 0x6 0
    let d := d.updFlt fun f =>
      { f with fenced := n :: f.fenced, fenceF := true, fenceCause := tset f.fenceCause n event }
    let d := ((d.abandonNetwork n event).resetCompute n).updDie n fun x => { x with dm := .fenced, wdogRow := 0, replicaBad := 0 }
    let d := d.updLink n fun l => { l with st := .fenced }
    let d := forEach ((List.range 6).map fun g => 6 * n + g) (fun r d => d.updRegion r fun g => { g with router := .reset }) d
    let kept := d.fab.lostSlots.filter fun e => e.1 / 6 ≠ n
    let gone := d.fab.egress.filter fun e => e.region / 6 ≠ n
    let entries := d.adm.ledger.filter fun e => e.region / 6 ≠ n
    let d := { d with be := d.be.filter (fun a => !a.out.onDie n), adm := { d.adm with ledger := entries }, fab := { d.fab with egress := gone, lostSlots := kept } }
    let ss := d.streamsOfDie n
    let d := d.breach 0x01 (unitDie n) ss
    let d := d.capacityNotice
    let d := d.switchDie n
    forEach ((List.range 6).map fun g => 6 * n + g) (fun r d =>
      if d.streamsOfRegion r = [] then d else d.openReplacements r event) d

end Sys2Proof.Machine
end

