-- ==== Sys2Proof/Machine/Admit.lean ====
section
/-! DEFINITION. Admission (chapter 10, R314 to R347) and its conversations (R470, R471): the engine's evaluation, the
Almanac's exchange, the end of a stream, shedding, power and dark slots. -/
namespace Sys2Proof.Machine

/-! ### Loading a program (R222, R223, R263 to R265, R322) -/

/-- A slot enters LOADING with its registers written (R223, R264). -/
def Region.beginLoad (g : Region) (n : Nat) (f : ProgSlot → ProgSlot) : Region :=
  { g with ps := tupd .reset g.ps n fun p => { f p with st := .loading } }

/-- STATE is written as VALID, last of all (R265). -/
def Region.endLoad (g : Region) (n : Nat) : Region := { g with ps := tupd .reset g.ps n fun p => { p with st := .valid } }

/-- A receive window not set. -/
def noWindow : Window := { base := 0, size := 0, read := false, write := false }

/-- The admission engine opens or moves a receive window: EN is cleared before the base changes, and set after the size is written
(R265). -/
def Region.openWindow (g : Region) (w : Nat) (x : Window) : Region :=
  let put (g : Region) (f : Window → Window) : Region :=
    let l := (List.range 8).map fun i => g.rxwin.getD i noWindow
    { g with rxwin := lset l w (f (lget noWindow l w)) }
  let g := put g fun y => { y with read := false }
  let g := put g fun y => { y with base := x.base }
  let g := put g fun y => { y with size := x.size }
  put g fun y => { y with read := x.read }

/-- A program of an admitted stream goes into its slot: registers, image, initial bank and windows while the slot is LOADING, and
VALID at the end (R265, R322). -/
def Device.loadProgram (d : Device) (c : ClaimConv) (h : ClaimHeader) (ss : List StartPlan) (stream index : Nat)
    (recd : ClaimRecord) (x : StreamProgram) : Device :=
  match recd with
  | .program _ _ _ _ esc win rx =>
    let span := ((ss.filter fun s => s.prog = index).map fun s => s.fig.span).foldl max 0
    d.updRegion x.region fun g =>
      let g := g.beginLoad x.slot fun p =>
        { p with stream := stream, base := x.base, len := x.len, hold := max 1 (ceilDiv (span * 8) 10000),
                 fabBound := psFabBound, hbmBound := psHbmBound (hbmWants c.records ss) win h.beats, win := win }
      let g := g.putImage x
      let g := { g with dmu := g.dmu.reserve stream esc }
      let g := ((List.range 8).zip rx).foldl (fun g e => if e.2.read then g.openWindow e.1 e.2 else g) g
      g.endLoad x.slot
  | _ => d

/-- A partner a record names takes a place in the table (R495, R496). -/
def Device.takePartner (d : Device) (port mac : Nat) : Device :=
  if d.dp.partners.any fun e => decide (e.2.st ≠ 0) && decide (e.2.port = port) && decide (e.2.mac = mac) then d
  else match (List.range 64).find? fun n => decide ((tget Partner.reset d.dp.partners n).st = 0) with
    | some n => { d with dp := { d.dp with partners := tset d.dp.partners n { Partner.reset with port := port, st := 1, mac := mac } } }
    | none => d

/-- The batch lag of a stream in each of its regions (R399): 1 where its input arrives, and along a flow one more where the
data arrives after the BATCH start of its destination. (DEDUCED, assumption log 70.) -/
def lagsOf (h : ClaimHeader) (inRegion : Option Nat) (ss : List StartPlan) (flows : List FlowPlan) : List (Nat × Nat) :=
  let regions := (ss.map fun s => s.region).eraseDups
  let beat := shortBeat h.beats
  let start : Nat → Nat := fun r => ((ss.find? fun s => s.batch && s.region = r).map fun s => s.offTc).getD beat
  let first := regions.map fun r => (r, if inRegion = some r then 1 else 0)
  regions.foldl (fun (acc : List (Nat × Nat)) _ => flows.foldl (fun (acc : List (Nat × Nat)) (f : FlowPlan) =>
    if f.kind = 0 then
      let from_ := ((acc.find? fun e => e.1 = f.src).map fun e => e.2).getD 0
      acc.map fun e => if e.1 = f.dest then (e.1, max e.2 (from_ + if start f.dest < f.arrival then 1 else 0)) else e
    else acc) acc) first

/-- The stream that an accepted claim becomes (R314, R322). -/
def Device.makeStream (d : Device) (c : ClaimConv) (h : ClaimHeader) (ss : List StartPlan)
    (places : List (Nat × Nat × Nat × Nat)) (startFrame : Nat) : Stream :=
  let l := c.records
  let flows := claimFlows l ss
  let inReg := if l.any fun x => match x with | .ingress .. => true | _ => false then some (d.bindRegion c.stream) else none
  let lags := lagsOf h inReg ss flows
  let idx := progIdx l
  { Stream.reset with
    st := .admitted, almanac := h.beats, almanacNo := (d.almanacFor h.beats).getD 0, prio := h.prio, guarantee := true,
    cls := h.cls, cutThrough := h.cutThrough, redundant := h.redundant, startFrame := startFrame,
    ctxQuota := h.ctxQuota, model := h.model, tag := h.tag, order := d.adm.nextOrder, power := d.price h l ss,
    ledger := d.ledgerNeed h l ss,
    programs := (List.range idx.length).filterMap fun k => match l[idx.getD k 0]?, places[k]? with
      | some (.program _ imgOff len bankOff esc _ _), some (r, n, b, _) =>
        some { region := r, slot := n, base := b, len := len, esc := esc,
               bank := if bankOff = 0 then [] else c.bytes bankOff 4096,
               image := (List.range len).map fun i => leValue (c.bytes (imgOff + 16 * i) 16) }
      | _, _ => none,
    starts := ss.map fun s =>
      { prog := idx.idxOf s.prog, offTc := s.offTc, entry := s.entry, batch := s.batch, w := s.fig.w,
        lag := ((lags.find? fun e => e.1 = s.region).map fun e => e.2).getD 0 },
    tiles := boundTiles h l, flows := flows, hbm := hbmWants l ss,
    egress := (claimEgress l).map fun (e : EgressSlot) =>
      { e with line := d.slotLine e, rel := ((feedsEgress h ss e.offTc).map fun f => f.2.1).foldl max e.offTc },
    ingress := l.filterMap fun x => match x with | .ingress p k b m => some (p, k, b, m) | _ => none,
    channels := l.filterMap fun x => match x with | .channel ch m r w => some (ch, m, unitRegionOf r, w) | _ => none,
    lagMax := (lags.map fun e => e.2).foldl max 0 }

/-- The first frame that begins at least 20 ms from now (R322). -/
def Device.earliestFrame (d : Device) : Nat := ceilDiv (d.clk.now + 2 * tcPerFrame) tcPerFrame

/-- A stream starts on the active epoch of its model in each of its regions (R387, R397). -/
def Device.selectEpoch (d : Device) (s : Nat) : Device :=
  match d.slotOf (d.stream s).model with
  | none => d
  | some n => d.updModelSlot n fun m =>
      { m with sel := (d.stream s).programs.foldl (fun t p => tset t (64 * s + p.region) (m.activeEpoch % 2)) m.sel }

/-- Accept a claim (R322). -/
def Device.acceptClaim (d : Device) (c : ClaimConv) : Device :=
  let h := c.header
  let l := c.records
  let ss := d.startPlans c
  let start := max h.startFrame d.earliestFrame
  let places := (d.placePrograms (progWants l) []).getD []
  let x := d.makeStream c h ss places start
  let idx := progIdx l
  let d := forEach (List.range idx.length) (fun k d => match l[idx.getD k 0]?, x.programs[k]? with
    | some y, some p => d.loadProgram c h ss c.stream (idx.getD k 0) y p
    | _, _ => d) d
  let d := forEach (List.range l.length) (fun i d => match l[i]? with
    | some (.ingress p _ _ m) => d.takePartner p m
    | some (.channel _ m _ _) => d.takePartner 0 m
    | _ => d) d
  let d := (d.updStream c.stream fun _ => x).placeSightings
  let d := d.selectEpoch c.stream
  { d with adm := { d.adm with
    nextOrder := d.adm.nextOrder + 1, exchangeFrame := some start,
    convs := d.adm.convs.map fun y => if y.stream = c.stream ∧ y.tag = c.tag then
      { y with st := .accepted, startFrame := start } else y } }

/-! ### The engine (R316, R330) -/

/-- STATE codes of a claim conversation (R471). -/
def ClaimState.code : ClaimState → Nat
  | .opened => 1 | .queued => 2 | .evaluating => 3 | .accepted => 4 | .refused => 5

/-- Sessions that OUTCOME messages go to (R471): every open Owner and Operator session. -/
def Device.outcome (d : Device) (stream tag st : Nat) : Device :=
  forEach d.noticeSessions (fun s d => d.emit (.outcome s stream tag st)) d

/-- The engine takes the request at the head of its queue (R316, R330, R314, R471). (DEDUCED, assumption log 72.) -/
def Device.engineStep (d : Device) : Device :=
  match d.adm.queue with
  | [] => d
  | q :: rest =>
    let d := { d with adm := { d.adm with queue := rest } }
    match q with
    | .release _ stream tag =>
      if (d.stream stream).st ≠ .free ∧ (d.stream stream).tag = tag then d.toReleasing stream else d
    | .claim stream tag =>
      match d.adm.convs.find? fun c => c.stream = stream && c.tag = tag && c.st = .queued with
      | none => d
      | some c =>
        match d.checkClaim c with
        | none => (d.acceptClaim c).outcome stream tag ClaimState.accepted.code
        | some why =>
          ({ d with adm := { d.adm with convs := d.adm.convs.map fun (y : ClaimConv) => if y.stream = stream ∧ y.tag = tag then
              { y with st := .refused, refusal := some why, touchedAt := d.real } else y } }).outcome stream tag
            ClaimState.refused.code

/-- CLAIM_EVALUATION (R316, R330). (DEDUCED, assumption log 72.) -/
def execClaimEvaluation (s : State) : Host.Outcome State Fault Refusal := .next (s.upd fun d => d.engineStep)

/-- The banks exchange at TC 0 of a frame (R314, R321): accepted streams whose START_FRAME has come are ACTIVE, and the
entries of released ones go. -/
def Device.bankExchange (d : Device) : Device :=
  let f := d.clk.frame
  let d := forEach d.liveStreams (fun s d =>
    let x := d.stream s
    if x.st = .admitted ∧ x.startFrame ≤ f then
      let d := d.updStream s fun x => { x with st := .active }
      { d with dp := { d.dp with batches := tset d.dp.batches s { Batch.reset with beat := x.startFrame * x.almanac } } }
    else if x.st = .releasing ∧ x.removeFrame ≤ f then d.updStream s fun x => { x with entriesGone := true }
    else d) d
  { d with adm := { d.adm with exchangeFrame := match d.adm.exchangeFrame with
    | some k => if k ≤ f then none else some k
    | none => none } }

/-- ALMANAC_BANK_EXCHANGE (R321). -/
def execAlmanacBankExchange (s : State) : Host.Outcome State Fault Refusal := .next (s.upd fun d => d.bankExchange)

/-- An activation of the stream runs somewhere. -/
def Device.streamRuns (d : Device) (s : Nat) : Bool :=
  (d.stream s).programs.any fun p =>
    (d.region p.region).active && decide ((d.region p.region).regs.slot = p.slot)

/-- Partners that no live stream, channel or model source names any more are unused (R495). -/
def Device.dropPartners (d : Device) : Device :=
  let inUse (p : Partner) : Bool := d.liveStreams.any fun s =>
    let x := d.stream s
    (x.ingress.any fun i => i.1 = p.port && i.2.2.2 = p.mac) || (x.channels.any fun c => p.port = 0 && c.2.1 = p.mac)
  let isSource (p : Partner) : Bool := d.mm.slots.any fun e => [e.2.area0, e.2.area1].any fun (x : Area) =>
    decide (x.st ≠ .empty) && decide (x.source ≠ 0) && decide (x.sourceId = p.mac * 16 + p.port)
  let l := tmap d.dp.partners fun _ p => if p.st = 1 ∧ ¬ inUse p ∧ ¬ isSource p then { p with st := 0 } else p
  { d with dp := { d.dp with partners := l } }

/-- The first frame boundary at or after an instant. -/
def boundaryFrom (t : Nat) : Nat := ceilDiv t tcPerFrame * tcPerFrame

/-- Q of a drain is known once every stream is FREE (R540). -/
def Device.settleDrain (d : Device) : Device :=
  match d.sec.activation with
  | some a =>
    if a.q.isNone ∧ d.noStream then
      { d with sec := { d.sec with activation := some { a with q := some (boundaryFrom d.clk.now) } } }
    else d
  | none => d

/-- What a stream held goes when it becomes FREE: program slots, reserves, contexts, its conversation, its place in a
pending switch and in re-placement (R223, R314, R398, R471). (DEDUCED, assumption log 71.) -/
def Device.freeStream (d : Device) (s : Nat) : Device :=
  let x := d.stream s
  let d := x.programs.foldl (fun d p => d.updRegion p.region fun g =>
    { g with ps := tupd .reset g.ps p.slot fun q => { ProgSlot.reset with actCount := q.actCount },
             dmu := { g.dmu with escBal := tdel g.dmu.escBal s, escPriced := tdel g.dmu.escPriced s } }) d
  let d := { d with
    hbm := { d.hbm with contexts := d.hbm.contexts.filter fun e => e.1 ≠ s },
    adm := { d.adm with streams := tdel d.adm.streams s, convs := d.adm.convs.filter fun c => !(c.stream = s && c.tag = x.tag) },
    flt := { d.flt with replacements := d.flt.replacements.filter fun y => y.stream ≠ s } }
  (d.leaveSwitch s).dropPartners.placeSightings.settleDrain

/-- A VALID slot may become FREE: its program does not run, and no Almanac entry names it (R223). -/
def Device.slotIdle (d : Device) (r n : Nat) : Bool :=
  !((d.region r).active && decide ((d.region r).regs.slot = n)) &&
    d.liveStreams.all fun s => (d.stream s).entriesGone || (d.stream s).programs.all fun p => p.region ≠ r || p.slot ≠ n

/-- A RELEASING stream is FREE once its entries are removed, its last activation has ended and its ledger entries are
freed (R314). -/
def Device.tryFree (d : Device) (s : Nat) : Device :=
  let x := d.stream s
  if x.st = .releasing ∧ x.entriesGone ∧ ¬ d.streamRuns s ∧ d.ledgerOf s = 0 then d.freeStream s else d

/-- STREAM_FREE (R314). -/
def execStreamFree (stream : Nat) (s : State) : Host.Outcome State Fault Refusal :=
  .next (s.upd fun d => d.tryFree stream)

/-! ### Power (R337 to R339, R343) -/

/-- Smallest PKG_LIMIT of a grade (R3). -/
def pkgMinOf (grade : Nat) : Nat := if grade ≤ 2 then 30 else if grade ≤ 4 then 40 else if grade ≤ 6 then 50 else 60

/-- PKG_LIMIT_WRITE (R339, R347). -/
def Device.pkgLimitWrite (d : Device) (v : Nat) : Nat × Device :=
  if bits v 31 10 ≠ 0 then (stReserved, d)
  else if v < pkgMinOf d.sec.grade ∨ pkgMaxOf d.sec.grade < v then (stFieldRange, d)
  else
    let d' := { d with adm := { d.adm with pkgLimit := v } }
    if d'.admCap < d.powerUsed then (stPower, d) else (stOK, d')

/-- PKG_LIMIT_WRITE (R339). -/
def execPkgLimitWrite (who value : Nat) (s : State) : Host.Outcome State Fault Refusal :=
  .next (s.upd fun d => d.rowWrite who .operator fun d => d.pkgLimitWrite value)

/-- Streams to shed, in the order of R338: lowest priority first, then the most recently accepted. -/
def Device.shedOrder (d : Device) : List Nat :=
  (d.liveStreams.filter fun s => (d.stream s).st ≠ .releasing).insertionSort fun a b =>
    (d.stream b).prio < (d.stream a).prio ∨ ((d.stream a).prio = (d.stream b).prio ∧ (d.stream b).order ≤ (d.stream a).order)

/-- The streams that must go for the rest to fit: a stream that is leaving no longer counts here. (DEDUCED, assumption log
71.) -/
def Device.shedList (d : Device) (l : List Nat) (used : Nat) : List Nat :=
  match l with
  | [] => []
  | s :: rest => if used ≤ d.admCap then [] else s :: d.shedList rest (used - (d.stream s).power)

/-- Entering step 15 (R338, R342): admission closes and streams are shed with THERMAL_CRITICAL. (DEDUCED, assumption log
71.) -/
def Device.shedThermal (d : Device) : Device :=
  let d := { d with adm := { d.adm with closed := true } }
  let leaving := (d.liveStreams.map fun s => if (d.stream s).st = .releasing then (d.stream s).power else 0).sum
  let l := d.shedList d.shedOrder (d.powerUsed - leaving)
  if l = [] then d
  else
    let d := { d with adm := { d.adm with shedF := true } }
    (forEach l (fun s d => d.toReleasing s) d).breach 0x02 unitPackage l

/-! ### Dark slots (R325) -/

/-- REGION_DARK_WRITE (R325, R347). -/
def Device.regionDarkWrite (d : Device) (r word v : Nat) : Nat × Device :=
  let (len, dv, ph) := tget (0, 0, 0) d.adm.dark r
  if ¬ r < 48 ∨ ¬ word < 2 ∨ d.dieCount ≤ r / 6 then (stFieldRange, d)
  else if word = 1 then
    if bits v 31 7 ≠ 0 then (stReserved, d)
    else if v ≠ 0 ∧ dv ≤ v then (stFieldRange, d)
    else (stOK, { d with adm := { d.adm with dark := tset d.adm.dark r (len, dv, v) } })
  else if bits v 31 27 ≠ 0 then (stReserved, d)
  else
    let len' := bits v 19 0
    let dv' := bits v 26 20
    if len' ≠ 0 ∧ (dv' = 0 ∨ 100 < dv') then (stFieldRange, d)
    else
      let d' := { d with adm := { d.adm with dark := tset d.adm.dark r (len', dv', ph) } }
      if (d.regionWindows r).any fun a => d'.meetsDark r a then (stNoCapacity, d) else (stOK, d')

/-- REGION_DARK_WRITE (R325). -/
def execRegionDarkWrite (who r word value : Nat) (s : State) : Host.Outcome State Fault Refusal :=
  .next (s.upd fun d => d.rowWrite who .operator fun d => d.regionDarkWrite r word value)

/-- Start and end of the slot of a unit's dark grant that the present frame lies in or after, and of the first slot before any has
begun, in Tc from frame 0 (R325): length in µs, frame divisor and phase as REGION_DARK or UNBOUND_DARK sets them. -/
def Device.darkSpan (d : Device) (u : Nat) : Nat × Nat :=
  let (len, div, phase) := if unitLevel u = 2 then tget (0, 0, 0) d.adm.dark (unitRegionOf u) else (d.adm.unboundLen, d.adm.unboundPeriod, 0)
  let f := d.clk.frame
  let start := (if f < phase then phase else f - (f - phase) % max 1 div) * tcPerFrame
  (start, start + usTc len)

/-- A dark slot of a unit may be granted: a region with a region dark slot, or a physical tile whose logical tile no
stream binds (R325). -/
def Device.mayBeDark (d : Device) (u : Nat) : Bool :=
  decide (unitCheck d u = stOK) &&
    (if unitLevel u = 2 then decide ((tget (0, 0, 0) d.adm.dark (unitRegionOf u)).1 ≠ 0)
     else decide (unitLevel u = 0) && unitPhys u &&
       match d.logicalOf (unitPtOf u) with | some lt => decide (d.boundTo lt = []) | none => true)

/-- DARK_SLOT_START (R53 to R55, R325): at its instant the unit belongs to the die manager, to the end of the slot. -/
def execDarkSlotStart (unit : Nat) (s : State) : Host.Outcome State Fault Refusal :=
  .next (s.upd fun d =>
    let (start, stop) := d.darkSpan unit
    if d.mayBeDark unit && !d.adm.darkNow.contains unit && decide (d.clk.now < stop) then
      d.event start unit unit ordDark 0x1FF fun d => { d with adm := { d.adm with darkNow := unit :: d.adm.darkNow } }
    else d)

/-- DARK_SLOT_END (R53 to R55, R325): at the end of the slot. -/
def execDarkSlotEnd (unit : Nat) (s : State) : Host.Outcome State Fault Refusal :=
  .next (s.upd fun d =>
    if d.adm.darkNow.contains unit then
      d.event (d.darkSpan unit).2 unit unit ordDark 0x1FF fun d =>
        { d with adm := { d.adm with darkNow := d.adm.darkNow.filter fun u => u ≠ unit } }
    else d)

/-! ### Claim conversations (R465, R470, R471) -/

def Device.conv (d : Device) (stream tag : Nat) : Option ClaimConv := d.adm.convs.find? fun c => c.stream = stream && c.tag = tag
def Device.updConv (d : Device) (stream tag : Nat) (f : ClaimConv → ClaimConv) : Device :=
  { d with adm := { d.adm with convs := d.adm.convs.map fun c => if c.stream = stream ∧ c.tag = tag then f c else c } }

/-- ADMIT_OPEN (R470, R471). -/
def Device.admitOpen (d : Device) (who stream tag length : Nat) : Device :=
  d.cmd who 0x0030 .operator fun d =>
    if 255 < stream then (stFieldRange, [], d)
    else match d.conv stream tag with
      | some c => (stOK, [c.st.code, c.received], d)
      | none =>
        if length < 64 ∨ 1048576 < length then (stLength, [], d)
        else if (d.stream stream).st ≠ .free ∨ (d.adm.convs.any fun c => c.stream = stream) then (stWrongState, [], d)
        else
          let c : ClaimConv :=
            { st := .opened, stream := stream, tag := tag, length := length, session := who, blocks := [],
              records := [], refusal := none, startFrame := 0, touchedAt := d.real }
          (stOK, [1, 0], { d with adm := { d.adm with convs := c :: d.adm.convs } })

/-- ADMIT_BLOCK (R465, R471). `length` is the block header's LENGTH. -/
def Device.admitBlock (d : Device) (who stream tag offset length : Nat) (data : List Byte) : Device :=
  d.cmd who 0x0031 .operator fun d =>
    if 255 < stream then (stFieldRange, [], d)
    else if length = 0 ∨ length = 0xFFFF ∨ (d.session who).blockSize < length + 64 ∨ length ≠ data.length then (stLength, [], d)
    else match d.conv stream tag with
      | none => (stWrongState, [], d)
      | some c =>
        if c.length < offset + length then (stLength, [], d)
        else if c.st ≠ .opened then (stWrongState, [], d)
        else (stOK, [], d.updConv stream tag fun c => { c with blocks := (offset, data) :: c.blocks, touchedAt := d.real })

/-- ADMIT_COMMIT (R316, R471): the claim takes a place in the engine's queue. (DESIGN CHOICE, assumption
log 3.) -/
def Device.admitCommit (d : Device) (who stream tag : Nat) (records : List ClaimRecord) : Device :=
  d.cmd who 0x0032 .operator fun d =>
    if 255 < stream then (stFieldRange, [], d)
    else match d.conv stream tag with
      | none => (stWrongState, [], d)
      | some c =>
        if c.st = .queued then (stOK, [c.st.code], d)
        else if c.st ≠ .opened then (stWrongState, [], d)
        else if c.received < c.length then (stWrongState, [c.received], d)
        else if 4 ≤ d.adm.queue.length then (stBusy, [], d)
        else
          let d := d.updConv stream tag fun c =>
            { c with st := .queued, records := records, touchedAt := d.real }
          (stOK, [2], { d with adm := { d.adm with queue := d.adm.queue ++ [.claim stream tag] } })

/-- The words of R331. (DEDUCED, assumption log 14.) -/
def ClaimRefusal.words (r : ClaimRefusal) : List Nat :=
  [r.status, r.resource * 2 ^ 56 + r.record * 2 ^ 32 + r.unit, r.tc * 2 ^ 32 + r.need, r.have_]

/-- Instant, deadline and latency of each EGRESS record (R334): the latency is from the start of the beat in which the
batch was taken, in ns. -/
def Device.egressWords (d : Device) (x : Stream) : List Nat :=
  x.egress.flatMap fun e =>
    let dl := e.offTc + d.slotLine e
    [e.offTc, dl, tcNs (e.rel + d.slotLine e + x.lagMax * shortBeat x.almanac)]

/-- The words of a claim record: its KIND and its fields in the order of R318, windows as base, size and rights. (DESIGN CHOICE,
assumption log 3.) -/
def ClaimRecord.words (x : ClaimRecord) : List Nat :=
  let win (w : Window) : List Nat := [w.base, w.size, b2n w.read + 2 * b2n w.write]
  match x with
  | .program u off len bank esc hw rw => [1, u, off, len, bank, esc] ++ hw.flatMap win ++ rw.flatMap win
  | .start p off entry batch => [2, p, off, entry, b2n batch]
  | .tile u span ranges mvms sight => [3, u, span, ranges, mvms, sight]
  | .flow src kind dest bytes arrival => [4, src, kind, dest, bytes, arrival]
  | .hbm stack rd wr => [5, stack, rd, wr]
  | .egress port off frames largest => [6, port, off, frames, largest]
  | .ingress port kind bytes partner => [7, port, kind, bytes, partner]
  | .channel ch partner region window => [8, ch, partner, region, window]
  | .bound p b n => [9, p, b, n]
  | .wait p b t => [10, p, b, t]
  | .unknown k => [k]
  | .unusedBits k => [k]

/-- The record names a region (R436). -/
def ClaimRecord.names (x : ClaimRecord) (r : Nat) : Bool :=
  match x with
  | .program u _ _ _ _ _ _ | .channel _ _ u _ => decide (unitRegionOf u = r)
  | .tile u _ _ _ _ => decide (ltRegion (unitLtOf u) = r)
  | .flow src kind dest _ _ => decide (unitRegionOf src = r) || (decide (kind = 0) && decide (unitRegionOf dest = r))
  | _ => false

/-- The records that re-placement has rewritten, each after its index (R25, R436). -/
def Device.rewritten (d : Device) (c : ClaimConv) : List Nat :=
  let moved := (d.stream c.stream).moved.map fun e => e.2
  (((List.range c.records.length).zip c.records).filter fun e => moved.any fun t => e.2.names t).flatMap fun e => e.1 :: e.2.words

/-- ADMIT_STATUS (R25, R436, R471). -/
def Device.admitStatus (d : Device) (who stream : Nat) : Device :=
  d.cmd who 0x0033 .observer fun d =>
    if 255 < stream then (stFieldRange, [], d)
    else match d.adm.convs.find? fun c => c.stream = stream with
      | none => (stOK, [0, 0], d)
      | some c =>
        let tail := match c.st with
          | .refused => (c.refusal.map ClaimRefusal.words).getD []
          | .accepted => c.startFrame :: d.egressWords (d.stream stream) ++ d.rewritten c
          | _ => []
        (stOK, [c.st.code, c.received] ++ tail, d)

/-- RELEASE (R314, R316, R471): an unfinished claim goes; a release of an admitted stream takes its place in the
engine's queue. -/
def Device.release (d : Device) (who stream tag : Nat) : Device :=
  d.cmd who 0x0034 .operator fun (d : Device) =>
    if 255 < stream then (stFieldRange, [], d)
    else
      let gone : Bool := (d.conv stream tag).any fun c =>
        decide (c.st = ClaimState.opened) || decide (c.st = ClaimState.queued)
      if gone then
        (stOK, [0], { d with adm := { d.adm with
          convs := d.adm.convs.filter fun c => !(c.stream = stream && c.tag = tag),
          queue := d.adm.queue.filter fun q => q ≠ .claim stream tag } })
      else if (d.stream stream).st = .free ∨ (d.stream stream).tag ≠ tag then (stWrongState, [], d)
      else if (d.stream stream).st = .releasing then (stOK, [3], d)
      else if 4 ≤ d.adm.queue.length then (stBusy, [], d)
      else (stOK, [(d.stream stream).st.code],
        { d with adm := { d.adm with queue := d.adm.queue ++ [.release who stream tag] } })

/-- ADMIT_OPEN (R471). -/
def execAdmitOpen (session stream tag length : Nat) (s : State) : Host.Outcome State Fault Refusal :=
  .next (s.upd fun d => d.admitOpen session stream tag length)

/-- ADMIT_BLOCK (R465, R471). -/
def execAdmitBlock (session stream tag offset length : Nat) (data : List Byte) (s : State) : Host.Outcome State Fault Refusal :=
  .next (s.upd fun d => d.admitBlock session stream tag offset length data)

/-- ADMIT_COMMIT (R471). -/
def execAdmitCommit (session stream tag : Nat) (records : List ClaimRecord) (s : State) :
    Host.Outcome State Fault Refusal :=
  .next (s.upd fun d => d.admitCommit session stream tag records)

/-- ADMIT_STATUS (R25, R436, R471). -/
def execAdmitStatus (session stream : Nat) (s : State) : Host.Outcome State Fault Refusal :=
  .next (s.upd fun d => d.admitStatus session stream)

/-- RELEASE (R314, R316). -/
def execRelease (session stream tag : Nat) (s : State) : Host.Outcome State Fault Refusal :=
  .next (s.upd fun d => d.release session stream tag)

/-! ### Notices sent again (R469) -/

/-- A notice not acknowledged is due again, 250 ms after its last send. -/
def NoticeSend.due (x : NoticeSend) (now : Nat) : Bool := decide (x.sentAt + msTc 250 ≤ now)

/-- The notices a session has not acknowledged for 250 ms go out again; after 8 sends they stay in the log alone. -/
def Device.resendNotices (d : Device) (n : Nat) : Device :=
  let now := d.real
  let l := (d.session n).notices.filter fun x => !x.due now || decide (x.sends < 8)
  let d := d.updSession n fun x =>
    { x with notices := l.map fun y => if y.due now then { y with sends := y.sends + 1, sentAt := now } else y }
  (l.filter fun x => x.due now).foldl (fun d y => d.emit (.notice n y.nSeq)) d

/-- NOTICE_RESEND (R469). -/
def execNoticeResend (session : Nat) (s : State) : Host.Outcome State Fault Refusal :=
  .next (s.upd fun d => if d.served session then d.resendNotices session else d)

end Sys2Proof.Machine
end

