-- ==== Sys2Proof/Machine/Model.lean ====
section
/-! DEFINITION. The model manager (chapter 12): manifests, shards, the dressing of an epoch, switching, re-hash and audit,
and the commands of the model family. -/
namespace Sys2Proof.Machine

/-! ### Areas and shards (R378, R379, R386) -/

/-- Codes of the area states (R407). -/
def AreaSt.code : AreaSt → Nat
  | .empty => 0 | .receiving => 1 | .staging => 2 | .staged => 3 | .active => 4 | .retiring => 5 | .failed => 6

/-- Bytes of a shard, and of a store unit. -/
abbrev shardBytes : Nat := 4194304

/-- Shard `i` of an area; an area holds no shard beyond its manifest's. -/
def Area.shard (x : Area) (i : Nat) : Shard :=
  x.shards.getD i { units := [], verified := false, corrupt := false, attempts := 0, requested := false, askedAt := 0 }

/-- Change shard `i` of an area. -/
def Area.updShard (x : Area) (i : Nat) (f : Shard → Shard) : Area := { x with shards := x.shards.modify i f }

/-- BYTES of the epoch's manifest, and LENGTH and digest of a shard (R380, R381). -/
def Area.bytes (x : Area) : Nat := match x.manifest with | some m => m.bytes | none => 0
def Area.shardLength (x : Area) (i : Nat) : Nat := match x.manifest with | some m => (m.shards.getD i (0, 0)).2 | none => 0
def Area.shardDigest (x : Area) (i : Nat) : Nat := match x.manifest with | some m => (m.shards.getD i (0, 0)).1 | none => 0

/-- Every 64-byte unit of a shard is written (R390). -/
def Area.shardFull (x : Area) (i : Nat) : Bool :=
  decide (i < x.shards.length) && decide ((x.shard i).units.length = ceilDiv (x.shardLength i) 64)

/-- Every shard is verified. -/
def Area.allVerified (x : Area) : Bool := x.shards.all fun h => h.verified

/-- The shards verified, in order. -/
def Area.verifiedShards (x : Area) : List Nat := (List.range x.shards.length).filter fun i => (x.shard i).verified

/-- Slot and area that hold an epoch of a model and version (R385). -/
def Device.areaOf (d : Device) (model version : Nat) : Option (Nat × Nat) :=
  match d.slotOf model with
  | none => none
  | some n => ([0, 1].find? fun a => decide ((d.area n a).st ≠ .empty) && decide ((d.area n a).version = version)).map
      fun a => (n, a)

/-- Ask the source of an epoch for its shards (R391): ascending, 8 outstanding at most. No request goes to a partner
under quarantine (R496), nor to a package without MACsec (R498): those wait for their timeout. -/
def Device.requestShards (d : Device) (n a : Nat) : Device :=
  let x := d.area n a
  if x.source = 0 then d
  else
    let open_ := ((List.range x.shards.length).filter fun i => (x.shard i).requested).length
    let due := (List.range x.shards.length).filter fun i =>
      !(x.shard i).requested && !(x.shard i).verified && decide ((x.shard i).attempts < 5) &&
        (decide (x.st = .receiving) || (x.shard i).corrupt)
    let mac := x.sourceId / 16
    let reach := !d.partnerQuarantined mac && (if x.source = 2 then (d.securePort mac).isSome else (d.port (x.sourceId % 16)).up)
    forEach (due.take (8 - open_)) (fun i d =>
      let d := d.updArea n a fun x => x.updShard i fun h => { h with requested := true, askedAt := d.real }
      if reach then d.emit (.shardReq mac (d.modelSlot n).model x.version i) else d) d

/-- With every shard verified a RECEIVING epoch is STAGING (R395). -/
def Device.toStaging (d : Device) (n a : Nat) : Device :=
  let x := d.area n a
  if x.st = .receiving ∧ x.allVerified then (d.updArea n a fun x => { x with st := .staging }).stageEpochs else d

/-- Replies to the blocks that completed a shard carry its verdict (R390). -/
def Device.answerBlocks (d : Device) (n a i st : Nat) : Device :=
  let mine := ((d.area n a).replyTo.filter fun e => e.2 = i).map fun e => e.1
  let d := d.updArea n a fun x => { x with replyTo := x.replyTo.filter fun e => e.2 ≠ i }
  forEach mine (fun s d => if d.served s then d.reply s 0x0041 st [i] else d) d

/-- Verified shards go once, in ascending order, to the packages that follow the model (R393). `was` is how many
shards at the front were verified before. -/
def Device.forwardShards (d : Device) (n a was : Nat) : Device :=
  let x := d.area n a
  let now := (x.shards.takeWhile fun (h : Shard) => h.verified).length
  let model := (d.modelSlot n).model
  let macs := (d.mm.followers.filter fun e => e.2 = model).map fun e => e.1
  forEach ((List.range now).filter fun i => was ≤ i) (fun i d =>
    forEach macs (fun m d => if (d.securePort m).isSome then d.emit (.shardData m model x.version i) else d) d) d

/-- An attempt to fetch a shard failed (R390 to R392): a RECEIVING epoch fails with the fifth. -/
def Device.attemptFailed (d : Device) (n a i status : Nat) : Device :=
  let d := (d.updMm fun m => { m with shardRetryCount := satInc m.shardRetryCount }).updArea n a fun x =>
    x.updShard i fun h => { h with units := [], attempts := h.attempts + 1, requested := false }
  let x := d.area n a
  if x.st = .receiving ∧ 5 ≤ (x.shard i).attempts then d.failEpoch n a status i else d.requestShards n a

/-- The hub has computed the digest of a complete shard (R390, R405). -/
def Device.shardComplete (d : Device) (n a i digest : Nat) : Device :=
  let x := d.area n a
  if !x.shardFull i || (x.shard i).verified then d
  else if digest = x.shardDigest i then
    let was := (x.shards.takeWhile fun (h : Shard) => h.verified).length
    let d := d.updArea n a fun x => x.updShard i fun h => { h with verified := true, corrupt := false, requested := false }
    let d := (d.answerBlocks n a i stOK).forwardShards n a was
    (d.requestShards n a).toStaging n a
  else (d.answerBlocks n a i stDigest).attemptFailed n a i stDigest

/-- SHARD_COMPLETE (R390). -/
def execShardComplete (slot area shard digest : Nat) (s : State) : Host.Outcome State Fault Refusal :=
  .next (s.upd fun d => d.shardComplete slot area shard digest)

/-- SHARD_TIMEOUT_EXPIRY (R391, R392): a shard asked for has not come within SHARD_TIMEOUT. -/
def execShardTimeoutExpiry (slot area shard : Nat) (s : State) : Host.Outcome State Fault Refusal :=
  .next (s.upd fun d =>
    let h := (d.area slot area).shard shard
    if h.requested && !h.verified && d.ranOut h.askedAt (msTc d.mm.shardTimeout) then d.attemptFailed slot area shard stMissing else d)

/-- IDLE_LIMIT_EXPIRY (R392): a pushed epoch that takes no block for IDLE_LIMIT fails. -/
def execIdleLimitExpiry (slot area : Nat) (s : State) : Host.Outcome State Fault Refusal :=
  .next (s.upd fun d =>
    let x := d.area slot area
    if x.st = .receiving ∧ x.source = 0 ∧ d.ranOut x.touchedAt (msTc (1000 * d.mm.idleLimit)) then
      d.failEpoch slot area stMissing (((List.range x.shards.length).find? fun i => !(x.shard i).verified).getD 0)
    else d)

/-- Write a block of the byte space into its area (R389, R390). -/
def Device.putBlock (d : Device) (n a off : Nat) (data : List Byte) : Device :=
  let i := off / shardBytes
  let us := (List.range (ceilDiv data.length 64)).map fun k => off % shardBytes / 64 + k
  let mem := memWrite d.hbm.mem ((d.area n a).base * shardBytes + off) data
  let d := { d with hbm := { d.hbm with mem := mem } }
  d.updArea n a fun x => { x.updShard i fun h => { h with units := h.units ++ us.filter fun u => !h.units.contains u } with
    touchedAt := d.real }

/-- The checks of a block in their order (R389); none when it is written, OK when it is ignored. -/
def Area.blockCheck (x : Area) (room off length : Nat) : Option Nat :=
  let i := off / shardBytes
  if length = 0 ∨ length = 0xFFFF ∨ room < length ∨ x.bytes < off + length then some stLength
  else if (off + length - 1) / shardBytes ≠ i then some stLength
  else if off % 64 ≠ 0 ∨ (length % 64 ≠ 0 ∧ off + length ≠ x.bytes) then some stAlignment
  else if x.st ≠ .receiving ∧ ¬ (x.shard i).corrupt then some stWrongState
  else if (x.shard i).verified ∧ ¬ (x.shard i).corrupt then some stOK
  else none

/-! ### Manifests (R380 to R386, R394, R396) -/

/-- Bytes of the byte space that the rescale entries of a tile record take (R382). -/
def TileRecord.scales (t : TileRecord) : Nat × Nat := (t.rescale, t.rescale + 4 * (t.cols + 1))

/-- Logical tiles that a model holds: those its epochs name, and those they are dressed on (R394). -/
def ModelSlot.holdsTiles (m : ModelSlot) : List Nat :=
  [m.area0, m.area1].flatMap fun x =>
    if x.st = .empty then []
    else (match x.manifest with | some k => k.tiles.map fun t => m.place t.tile | none => []) ++ x.partner.map fun e => e.2

/-- Logical tiles held by the models of other slots. -/
def Device.heldElsewhere (d : Device) (n : Nat) : List Nat :=
  d.mm.slots.flatMap fun e => if e.1 = n then [] else e.2.holdsTiles

/-- Free logical tiles of a cluster: no stream binds them, no model holds them (R394). -/
def Device.freeTiles (d : Device) (c : Nat) : List Nat :=
  let held := d.mm.slots.flatMap fun e => e.2.holdsTiles
  ((List.range 8).map fun t => 8 * c + t).filter fun lt => decide (d.boundTo lt = []) && !held.contains lt && d.tileLive lt

/-- The bench partners of a list of tiles by record index: in each cluster the tiles in ascending order take the lowest
free tiles. A tile for which none is left is not listed (R394). -/
def Device.bench (d : Device) (tiles : List Nat) : List (Nat × Nat) :=
  (List.range tiles.length).filterMap fun i =>
    let lt := tiles.getD i 0
    let rank := (tiles.filter fun x => decide (ltCluster x = ltCluster lt) && decide (x < lt)).length
    ((d.freeTiles (ltCluster lt))[rank]?).map fun b => (i, b)

/-- The placement log matches a manifest for every tile it names (R396). -/
def Device.logMatches (d : Device) (m : Manifest) : Bool :=
  m.tiles.all fun t => match d.physOf t.tile with
    | none => false
    | some p => (d.tile p).dress.dressed && decide ((d.tile p).logModel = m.model) && decide ((d.tile p).logVersion = m.version)

/-- The first index of a list that fails a test. -/
def firstBad {α : Type} (l : List α) (ok : α → Bool) : Option Nat :=
  (List.range l.length).find? fun i => match l[i]? with | some x => !ok x | none => false

/-- Ranges of a tile record (R382), in a grade of some dies. (DEDUCED, assumption log 79.) -/
def TileRecord.ok (t : TileRecord) (dies : Nat) : Bool :=
  decide (t.tile < 768 * dies) && decide (t.rows < 512) && decide (t.cols < 512) && decide (t.cols + 1 ≤ t.stride) &&
    decide (t.stride < 2 ^ 24) && decide (t.offset < 2 ^ 40) && decide (t.rescale < 2 ^ 40) && decide (t.rescale % 4 = 0)

/-- No index to name. -/
abbrev noIndex : Nat := 0xFFFFFFFF

/-- The ranges of the header and the shard entries (R380, R381). -/
def Manifest.headerOk (m : Manifest) : Bool :=
  decide (m.format = 1) && decide (m.anchor < 4) && decide (m.model ≠ 0) && decide (m.model < 2 ^ 32) &&
    decide (m.version < 2 ^ 32) && decide (1 ≤ m.area) && decide (m.area ≤ 4096) && decide (1 ≤ m.bytes) &&
    decide (m.bytes ≤ m.area * shardBytes) && decide (m.shardCount = ceilDiv m.bytes shardBytes) &&
    decide (m.shards.length = m.shardCount) && decide (m.tileCount ≤ 6144) && decide (m.tiles.length = m.tileCount) &&
    (List.range m.shardCount).all fun i =>
      decide ((m.shards.getD i (0, 0)).2 = if i + 1 < m.shardCount then shardBytes else m.bytes - shardBytes * (m.shardCount - 1))

/-- The checks of a manifest from its second on, in order (R384): status and what it names. -/
def Device.checkManifest (d : Device) (m : Manifest) (signatureOk : Bool) : Option (Nat × Nat) :=
  let ran := firstBad m.tiles fun t => decide (t.codes.2 ≤ m.bytes) && decide (t.scales.2 ≤ m.bytes)
  let slot := d.slotOf m.model
  let sm := match slot with | some n => d.modelSlot n | none => ModelSlot.reset
  let held := [sm.area0, sm.area1].filter fun x => decide (x.st ≠ .empty)
  let old := held.head?.bind fun x => x.manifest
  let places := m.tiles.map fun t => sm.place t.tile
  let first := decide (held = [])
  let used := d.mm.slots.flatMap fun e => [e.2.area0, e.2.area1].filterMap fun x =>
    if x.allocated then some (x.base - d.mm.storeBase, e.2.areaUnits) else none
  let bad := firstBad m.tiles fun t => t.ok d.dieCount
  let twice := (List.range m.tiles.length).find? fun i => match (m.tiles[i]? : Option TileRecord) with
    | some x => (m.tiles.take i).any fun t => decide (t.tile = x.tile)
    | none => false
  let anchor := d.sec.anchors.getD m.anchor Anchor.reset
  let short := (List.range places.length).find? fun i => !((d.bench places).any fun e => e.1 = i)
  let e := (match held with | [] => 0 | x :: _ => x.epoch + 1) % 2
  let room := decide (!first && (if e = 0 then sm.area0 else sm.area1).allocated) || (firstFit used m.area d.mm.storeSize).isSome
  if m.objLength ≠ 64 + 64 * m.shardCount + 32 * m.tileCount + 256 then some (stLength, noIndex)
  else if ran.isSome then some (stLength, ran.getD 0)
  else if !m.reservedZero then some (stReserved, noIndex)
  else if !m.headerOk then some (stFieldRange, noIndex)
  else if bad.isSome then some (stFieldRange, bad.getD 0)
  else if twice.isSome then some (stFieldRange, twice.getD 0)
  else if !anchor.present || anchor.revoked || decide (anchor.hash ≠ m.keyHash) then some (stNotAuthorised, noIndex)
  else if !signatureOk then some (stSignature, noIndex)
  else if held.length = 2 ∨ held.any (fun x => decide (x.version = m.version)) then some (stWrongState, noIndex)
  else if !first && decide (m.area ≠ sm.areaUnits) then some (stFieldRange, noIndex)
  else if !first && decide ((old.map fun o => o.tiles) ≠ some m.tiles) then
    some (stFieldRange, ((List.range (m.tiles.length + 1)).find? fun i =>
      decide ((old.bind fun (o : Manifest) => (o.tiles[i]? : Option TileRecord)) ≠ (m.tiles[i]? : Option TileRecord))).getD 0)
  else if slot.isNone && decide (d.mm.slots.length = 16) then some (stNoCapacity, noIndex)
  else if !room then some (stNoCapacity, noIndex)
  else if !first && short.isSome then some (stNoCapacity, ltCluster (places.getD (short.getD 0) 0))
  else
    let n := slot.getD 16
    let taken := firstBad places fun lt => decide (d.boundTo lt = []) && !(d.heldElsewhere n).contains lt
    let dressOn := if first then places else (d.bench places).map fun b => b.2
    let dead := firstBad dressOn fun lt => d.dieLive (ltDie lt) && (d.physOf lt).isSome
    if first ∧ taken.isSome then some (stNoCapacity, unitLt (places.getD (taken.getD 0) 0))
    else if dead.isSome ∧ ¬ (first ∧ d.logMatches m) then some (stFenced, unitLt (dressOn.getD (dead.getD 0) 0))
    else none

/-- The checks of a manifest of a key (R384, R472). An object of another MODEL or VERSION has a field outside its range. (DEDUCED,
assumption log 77.) -/
def Device.checkObject (d : Device) (m : Manifest) (model version : Nat) (signatureOk : Bool) : Option (Nat × Nat) :=
  match d.checkManifest m signatureOk with
  | some r => some r
  | none => if m.model ≠ model ∨ m.version ≠ version then some (stFieldRange, noIndex) else none

/-- A model source is a partner of its port (R495). -/
def Device.takeSource (d : Device) (source sourceId : Nat) : Device :=
  if source = 0 then d else d.takePartner (sourceId % 16) (sourceId / 16)

/-- A manifest that passes opens an epoch in RECEIVING (R378, R384, R386, R394, R396). (DEDUCED, assumption log 77.) -/
def Device.openEpoch (d : Device) (m : Manifest) (source sourceId : Nat) : Device × Nat × Nat :=
  let n := (d.slotOf m.model).getD (((List.range 16).find? fun k => decide ((d.modelSlot k).model = 0)).getD 0)
  let sm := d.modelSlot n
  let held := [sm.area0, sm.area1].filter fun x => decide (x.st ≠ .empty)
  let epoch := match held with | [] => 0 | x :: _ => x.epoch + 1
  let a := epoch % 2
  let used := d.mm.slots.flatMap fun e => [e.2.area0, e.2.area1].filterMap fun x =>
    if x.allocated then some (x.base - d.mm.storeBase, e.2.areaUnits) else none
  let was := d.area n a
  let base := if was.allocated then was.base else d.mm.storeBase + (firstFit used m.area d.mm.storeSize).getD 0
  let places := m.tiles.map fun t => sm.place t.tile
  let first := decide (held = [])
  let partner := if first then (List.range places.length).map fun i => (i, places.getD i 0) else d.bench places
  let fresh : Shard := { units := [], verified := false, corrupt := false, attempts := 0, requested := false, askedAt := 0 }
  let area : Area :=
    { Area.reset with
      st := .receiving, version := m.version, epoch := epoch, manifest := some m,
      shards := List.replicate m.shardCount fresh, partner := partner, source := source, sourceId := sourceId,
      base := base, allocated := true, touchedAt := d.real, matched := first && d.logMatches m }
  let d := d.updModelSlot n fun x =>
    { (x.setArea a fun _ => area) with model := m.model, areaUnits := m.area, nextEpoch := epoch + 1 }
  (d.requestShards n a, n, a)

/-! ### Commands (R385, R389, R392, R403, R472) -/

/-- The manifest buffer of a model and version (R472). -/
def Device.bufferOf (d : Device) (model version : Nat) : Option ManifestBuf :=
  d.mm.buffers.find? fun b => b.model = model && b.version = version

/-- MODEL_OPEN (R470, R472). -/
def Device.modelOpen (d : Device) (who model version length source sourceId : Nat) : Device :=
  d.cmd who 0x0040 .operator fun d =>
    if model = 0 ∨ 2 < source then (stFieldRange, [], d)
    else match d.areaOf model version, d.bufferOf model version with
      | some (n, a), _ => (stOK, [(d.area n a).st.code], d)
      | none, some _ => (stOK, [0], d)
      | none, none =>
        if length = 0 ∨ 459072 < length then (stLength, [], d)
        else if 4 ≤ d.mm.buffers.length then (stNoCapacity, [], d)
        else
          let b : ManifestBuf :=
            { session := who, model := model, version := version, length := length, source := source, sourceId := sourceId,
              blocks := [], data := [], touchedAt := d.real }
          (stOK, [0], d.updMm fun m => { m with buffers := m.buffers ++ [b] })

/-- Every byte of a manifest buffer is written. -/
def ManifestBuf.full (b : ManifestBuf) : Bool :=
  (List.range b.length).all fun i => b.blocks.any fun e => decide (e.1 ≤ i) && decide (i < e.1 + e.2)

/-- The logical tile that a TILE field names (R30, R382). A word that names none, with another LEVEL, PHYS set, or a region or tile
that no die has, reads as a tile beyond every grade. -/
def readTile (u : Nat) : Nat :=
  if unitLevel u = 0 ∧ unitPhys u = false ∧ bits u 12 10 < 6 ∧ bits u 3 0 < 8 then unitLtOf u else 768 * 8

/-- A tile record of a manifest, at a byte offset of the object (R382). -/
def readTileRecord (m : List (Nat × Byte)) (off : Nat) : TileRecord :=
  let w1 := beWord m (off + 8)
  let w2 := beWord m (off + 16)
  { tile := readTile (beValue (memRead m off 4)), offset := bits w1 63 24, stride := bits w1 23 0, rows := bits w2 63 55, cols := bits w2 54 46,
    rescale := bits w2 39 0 }

/-- The reserved fields of a tile record, its R30 word among them, and of a shard entry are zero (R30, R381, R382). -/
def tileRecordZero (m : List (Nat × Byte)) (off : Nat) : Bool :=
  decide (bits (beWord m off) 31 0 = 0) && decide (bits (beWord m off) 59 48 = 0) && decide (bits (beWord m off) 37 36 = 0) &&
    decide (bits (beWord m (off + 16)) 45 40 = 0) && decide (beWord m (off + 24) = 0)
def shardEntryZero (m : List (Nat × Byte)) (off : Nat) : Bool := decide (beValue (memRead m (off + 52) 12) = 0)

/-- A manifest, read from the bytes of its object, all fields big-endian (R12, R380 to R383); the two digests are what hashing the
object and the signer's key gives. -/
def ManifestBuf.read (b : ManifestBuf) (digest keyHash : Nat) : Manifest :=
  let m := b.data
  let w0 := beWord m 0
  let w1 := beWord m 8
  let w2 := beWord m 16
  let w3 := beWord m 24
  let n := bits w3 63 48
  let t := bits w3 47 32
  let tiles := (List.range (min t 6144)).map fun i => 64 + 64 * n + 32 * i
  let shards := (List.range (min n 4096)).map fun i => 64 + 64 * i
  let sig := b.length - 256
  { format := bits w0 63 56, anchor := bits w0 55 54, model := bits w1 63 32, version := bits w1 31 0, bytes := bits w2 63 24,
    shardCount := n, tileCount := t, area := bits w3 31 16,
    shards := shards.map fun o => (beValue (memRead m o 48), beValue (memRead m (o + 48) 4)),
    tiles := tiles.map (readTileRecord m),
    reservedZero := decide (bits w0 53 0 = 0) && decide (bits w2 23 0 = 0) && decide (bits w3 15 0 = 0) &&
      ((List.range 4).all fun i => decide (beWord m (32 + 8 * i) = 0)) && shards.all (shardEntryZero m) && tiles.all (tileRecordZero m) &&
      decide (beValue (memRead m (sig + 97) 31) = 0) && decide (beValue (memRead m (sig + 224) 32) = 0),
    objLength := b.length, digest := digest, keyHash := keyHash }

/-- MODEL_BLOCK (R389, R390, R465, R472). The reply to a block that completes a shard waits for the shard's
verdict. -/
def Device.modelBlock (d : Device) (who model version offset length : Nat) (manifest : Bool) (data : List Byte) : Device :=
  let answer (st : Nat) (d : Device) : Device := d.reply who 0x0041 st []
  if !d.served who then d
  else if !d.hasRole who .operator then answer stNotAuthorised d
  else match d.modeCheck 0x0041 with
    | some st => answer st d
    | none =>
      let room := (d.session who).blockSize
      if length ≠ data.length then answer stLength d
      else if manifest then
        if length = 0 ∨ length = 0xFFFF ∨ room < length then answer stLength d
        else match d.bufferOf model version with
          | none => answer stWrongState d
          | some b =>
            if b.length < offset + length then answer stLength d
            else answer stOK (d.updMm fun m => { m with buffers := m.buffers.map fun (x : ManifestBuf) =>
              if x.model = model ∧ x.version = version then { x with blocks := (offset, length) :: x.blocks, data := memWrite x.data offset data, touchedAt := d.real }
              else x })
      else match d.areaOf model version with
        | none => answer stWrongState d
        | some (n, a) =>
          match (d.area n a).blockCheck room offset length with
          | some st => answer st d
          | none =>
            let d := d.putBlock n a offset data
            let i := offset / shardBytes
            if (d.area n a).shardFull i then d.updArea n a fun x => { x with replyTo := x.replyTo ++ [(who, i)] }
            else answer stOK d

/-- MODEL_MANIFEST (R384, R385, R472): the object is read from the buffer of the key. An object that carries another MODEL or
VERSION than its key is refused. (DEDUCED, assumption log 77.) -/
def Device.modelManifest (d : Device) (who model version digest keyHash : Nat) (signatureOk : Bool) : Device :=
  d.cmd who 0x0042 .operator fun d =>
    let drop (d : Device) : Device := d.updMm fun k => { k with buffers := k.buffers.filter fun (b : ManifestBuf) =>
      !(b.model = model && b.version = version) }
    match d.bufferOf model version with
    | none =>
      match d.areaOf model version with
      | some (n, a) =>
        let x := d.area n a
        if (x.manifest.map fun k => k.digest) = some digest ∧ x.st ≠ .active ∧ x.st ≠ .retiring then
          (stOK, [x.epoch, a, x.st.code], d)
        else (stWrongState, [], d)
      | none => (stWrongState, [], d)
    | some b =>
      let m := b.read digest keyHash
      if !b.full then (stWrongState, [], d)
      else match d.areaOf model version with
        | some (n, a) =>
          let x := d.area n a
          if ((x.manifest.map fun k => k.digest) = some digest) ∧ x.st ≠ .active ∧ x.st ≠ .retiring then
            (stOK, [x.epoch, a, x.st.code], drop d)
          else match d.checkManifest m signatureOk with
            | some (st, i) => (st, [i], d)
            | none => (stWrongState, [], d)
        | none =>
          match d.checkObject m model version signatureOk with
          | some (st, i) => (st, [i], d)
          | none =>
            let (d, n, a) := (drop (d.takeSource b.source b.sourceId)).openEpoch m b.source b.sourceId
            (stOK, [(d.area n a).epoch, a, (d.area n a).st.code], d)

/-- The reply of MODEL_STATUS (R472): area states, epoch, shards verified as a count and a bitmap, tiles dressed; in
FAILED the status and the bitmap of shards not verified; then the batch lags of the streams bound to the model
(R399). -/
def Device.modelWords (d : Device) (n a : Nat) : List Nat :=
  let m := d.modelSlot n
  let x := d.area n a
  let lags := (d.liveStreams.filter fun s => (d.stream s).model = m.model).flatMap fun s =>
    (d.stream s).starts.map fun t => s * 2 ^ 32 + t.lag
  [m.area0.st.code + 16 * m.area1.st.code, x.epoch, x.verifiedShards.length, maskOf x.verifiedShards, x.dressed.length] ++
    (if x.st = .failed then
      [x.failStatus, x.failIndex, maskOf ((List.range x.shards.length).filter fun i => !(x.shard i).verified)]
     else []) ++ lags

/-- MODEL_STATUS (R472). -/
def Device.modelStatus (d : Device) (who model version : Nat) : Device :=
  d.cmd who 0x0043 .observer fun d =>
    match d.areaOf model version, d.bufferOf model version with
    | some (n, a), _ => (stOK, d.modelWords n a, d)
    | none, some _ => (stOK, [0], d)
    | none, none => (stWrongState, [], d)

/-- MODEL_RESUME (R392): a FAILED epoch is RECEIVING again, with fresh retry counts. -/
def Device.modelResume (d : Device) (who model version : Nat) : Device :=
  d.cmd who 0x0044 .operator fun d =>
    match d.areaOf model version with
    | none => (stWrongState, [], d)
    | some (n, a) =>
      if (d.area n a).st ≠ .failed then (stWrongState, [], d)
      else
        let d := d.updArea n a fun x =>
          { x with st := .receiving, failStatus := 0, failIndex := 0, touchedAt := d.real,
                   shards := x.shards.map fun (h : Shard) => { h with attempts := 0, requested := false } }
        let d := (d.requestShards n a).toStaging n a
        (stOK, [(d.area n a).st.code], d)

/-- Streams bound to a model. -/
def Device.streamsOfModel (d : Device) (model : Nat) : List Nat :=
  if model = 0 then [] else d.liveStreams.filter fun s => (d.stream s).model = model

/-- MODEL_DISCARD (R392, R402, R403). (DEDUCED, assumption log 77.) -/
def Device.modelDiscard (d : Device) (who model version : Nat) : Device :=
  d.cmd who 0x0045 .operator fun d =>
    match d.areaOf model version with
    | none => (stWrongState, [], d)
    | some (n, a) =>
      if (d.modelSlot n).plan.isSome then (stBusy, [], d)
      else if (d.area n a).st = .active then
        if d.streamsOfModel model ≠ [] then (stWrongState, [], d)
        else
          let d := (d.retireArea n a).retireArea n (1 - a)
          (stOK, [0], d.updMm fun m => { m with slots := tdel m.slots n })
      else
        let d := d.retireArea n a
        let other := d.area n (1 - a)
        let d := if other.st = .empty then d.updMm fun m => { m with slots := tdel m.slots n }
          else d.updModelSlot n fun m => { m with nextEpoch := other.epoch + 1 }
        (stOK, [0], d)

/-! ### Dressing an epoch (R183, R395, R396) -/

/-- The code of a weight of a tile record (R382), and the pattern of a scale. -/
def Device.weightCode (d : Device) (x : Area) (t : TileRecord) (row col : Nat) : Nat :=
  (memGet d.hbm.mem (x.base * shardBytes + t.offset + row * t.stride + col)).toNat
def Device.scaleOf (d : Device) (x : Area) (t : TileRecord) (col : Nat) : Nat :=
  leValue (memRead d.hbm.mem (x.base * shardBytes + t.rescale + 4 * col) 4)

/-- The byte offset of the first weight code 0x80 or of the first scale that is not a positive normal FP32 value
(R395). -/
def Device.badByte (d : Device) (x : Area) (t : TileRecord) : Option Nat :=
  let code := (List.range (t.rows + 1)).findSome? fun r => (List.range (t.cols + 1)).findSome? fun c =>
    if d.weightCode x t r c = 128 then some (t.offset + r * t.stride + c) else none
  match code with
  | some o => some o
  | none => ((List.range (t.cols + 1)).find? fun c => !posNormal (d.scaleOf x t c)).map fun c => t.rescale + 4 * c

/-- The targets of a tile record: its codes, zero beyond its rows and columns (R382). -/
def Device.targetsOf (d : Device) (x : Area) (t : TileRecord) : Table Int :=
  (List.range (t.rows + 1)).flatMap fun r => (List.range (t.cols + 1)).filterMap fun c =>
    let v := sx 8 (d.weightCode x t r c)
    if v = 0 then none else some (512 * r + c, v)

/-- Write the rescale entries of a logical tile, S_MIN for an all-zero column, and count these columns in the loading report (R182,
R183). -/
def Device.writeRescale (d : Device) (x : Area) (t : TileRecord) (lt : Nat) : Device :=
  let zero (c : Nat) : Bool := (List.range (t.rows + 1)).all fun r => d.weightCode x t r c = 0
  let zeros := ((List.range (t.cols + 1)).filter zero).length
  let cols := (List.range (t.cols + 1)).map fun c => (512 * ltTile lt + c, if zero c then 0x00800000 else d.scaleOf x t c)
  (d.clearRescale lt).updCluster (ltCluster lt) fun c =>
    { c with rescale := cols.foldl (fun m e => if e.2 = 0x00800000 then m else tset m e.1 e.2) c.rescale,
             zrange := if zeros = 0 then c.zrange else tset c.zrange (ltTile lt) zeros }

/-- The trims of a tile taken as dressed are restored, and the tile serves the epoch loaded (R158, R396): COLSUM and ROLE of the
weight and CK slots from the targets, GAIN from level reads under R142, with FREE set. `reads` are the analogue errors of the
conversions of each level read. (DESIGN CHOICE, assumption log 25.) -/
def Device.restoreTrims (d : Device) (p lt epoch : Nat) (targets : Table Int) (reads : List (List Int)) : Device :=
  let temp := d.dieTemp (ptDie p)
  let park := (d.die (ptDie p)).park
  d.updTile p fun t =>
    let ck := (List.range 512).flatMap fun r =>
      [(2 * r, ckTarget targets (scaleA0 targets) (scaleA1 targets) r 0),
       (2 * r + 1, ckTarget targets (scaleA0 targets) (scaleA1 targets) r 1)]
    let u := { t with dress := { t.dress with targets := targets, ckTargets := ck.filter (fun e => e.2 ≠ 0), logical := lt } }
    let fresh := u.dressTrims.trims
    let put (ts : Table TrimEntry) (c : Nat) : Table TrimEntry :=
      let new := tget TrimEntry.reset fresh (u.slotOf c)
      tupd .reset ts (u.slotOf c) fun e => { e with colsum := new.colsum, role := new.role }
    let u := { u with logEpoch := epoch, trims := (List.range 522).foldl put u.trims, sight := { u.sight with free := true },
                      check := { u.check with a0 := scaleA0 targets, a1 := scaleA1 targets } }
    let mean := u.means park temp true reads
    (List.range 514).foldl (fun (t : Tile) c =>
      let s := t.slotOf c
      let e := tget TrimEntry.reset t.trims s
      let x : Compared := { slot := s, entry := e, mean := mean s, exp := expected true t.sight.code e }
      if 262144 ≤ x.exp.natAbs then (t.gainUpdate d.clk.cycles x).1 else t) u

/-- The next tile record of an epoch is dressed (R395, R396): in record order, once every shard it touches is
verified. -/
def Device.epochTileDress (d : Device) (n a i : Nat) (reads : List (List Int)) : Device :=
  let m := d.modelSlot n
  let x := d.area n a
  match x.manifest.bind fun k => k.tiles[i]? with
  | none => d
  | some t =>
    let ready := (List.range x.shards.length).all fun j =>
      !(touches t.codes j || touches t.scales j) || (x.shard j).verified
    if ¬ (x.st = .receiving ∨ x.st = .staging) ∨ i ≠ x.dressed.length ∨ ¬ ready then d
    else match d.badByte x t with
      | some o => d.failEpoch n a stFieldRange (i * 2 ^ 40 + o)
      | none =>
        let lt := x.dressedOn i
        match d.physOf lt with
        | none => d.failEpoch n a stInternal i
        | some p =>
          let targets := d.targetsOf x t
          let d := (d.writeRescale x t lt).updArea n a fun x => { x with dressed := x.dressed ++ [i] }
          let d := if x.matched then d.restoreTrims p lt x.epoch targets reads else d.queueDressing p lt targets m.model x.version x.epoch
          d.stageEpochs

/-- EPOCH_TILE_DRESS (R158, R395, R396). -/
def execEpochTileDress (slot area : Nat) (dressing : TileDressing) (s : State) : Host.Outcome State Fault Refusal :=
  .next (s.upd fun d => d.epochTileDress slot area dressing.record dressing.reads)

/-! ### SWITCH (R397 to R401) -/

/-- The batch boundary of a stream in a region that ends at the BATCH start of a batch (R323, R399): from the end of the
last activation before it, to it. (DEDUCED, assumption log 78.) -/
def Stream.boundary (x : Stream) (r b : Nat) : Nat × Nat :=
  let here := x.starts.filter fun s => (x.programs[s.prog]?.map fun p => p.region) = some r
  let first := match here.find? fun s => s.batch with | some s => s.offTc | none => (here.map fun s => s.offTc).foldl min (shortBeat x.almanac)
  let lag := (here.map fun s => s.lag).foldl max 0
  let stop := beatStartNo x.almanac (b + lag) + first
  let ends := here.map fun s =>
    let k := if s.offTc < first then b + lag else b + lag - 1
    beatStartNo x.almanac k + s.offTc + cycTc s.w
  (ends.foldl max 0, stop)

/-- The window of a region under a choice of switch batches: not before the lead ends (R399). -/
def Device.switchWindow (d : Device) (lead r : Nat) (bs : List (Nat × Nat)) : Nat × Nat :=
  let here := bs.filter fun e => (d.stream e.1).programs.any fun p => p.region = r
  let ws := here.map fun e => (d.stream e.1).boundary r e.2
  ((ws.map fun w => w.1).foldl max lead, match ws with | [] => lead + 1 | w :: rest => (rest.map fun y => y.2).foldl min w.2)

/-- Move on the batches that end before their region's window opens, until every region has a window. -/
def Device.switchSearch (d : Device) (lead horizon : Nat) (rs : List Nat) (bs : List (Nat × Nat)) (fuel : Nat) :
    Option (List (Nat × Nat)) :=
  match fuel with
  | 0 => none
  | k + 1 =>
    match rs.find? fun r => let w := d.switchWindow lead r bs; decide (w.2 ≤ w.1) with
    | none => if rs.all fun r => (d.switchWindow lead r bs).1 ≤ horizon then some bs else none
    | some r =>
      let lo := (d.switchWindow lead r bs).1
      if horizon < lo then none
      else
        let late (e : Nat × Nat) : Bool := ((d.stream e.1).programs.any fun p => p.region = r) &&
          decide (((d.stream e.1).boundary r e.2).2 ≤ lo)
        d.switchSearch lead horizon rs (bs.map fun e => if late e then (e.1, e.2 + 1) else e) k

/-- The plan of a switch (R399): switch batches and instants; none within the horizon. -/
def Device.switchPlan (d : Device) (m : ModelSlot) : Option SwitchPlan :=
  let lead := d.clk.now + usTc d.mm.switchLead
  let horizon := d.clk.now + d.mm.switchHorizon * tcPerFrame
  let ss := d.streamsOfModel m.model
  let rs := (ss.flatMap fun s => (d.stream s).programs.map fun p => p.region).eraseDups
  let b0 (s : Nat) : Nat := beatNo (d.stream s).almanac lead - (d.stream s).lagMax
  let fuel := ((ss.map fun s => (d.stream s).almanac).sum + 1) * (d.mm.switchHorizon + 3)
  (d.switchSearch lead horizon rs (ss.map fun s => (s, b0 s)) fuel).map fun bs =>
    { streams := bs.map fun e => (e.1, e.2, false),
      regions := rs.map fun r => (r, (d.switchWindow lead r bs).1, false) }

/-- Words of an accepted plan: B_s of each stream, X_r of each region, TO_CROSS (R397). -/
def SwitchPlan.words (p : SwitchPlan) : List Nat :=
  (p.streams.flatMap fun e => [e.1, e.2.1]) ++ (p.regions.flatMap fun e => [e.1, merOf e.2.1]) ++ [p.streams.length]

/-- SWITCH (R397, R399, R402). Regions that run no stream of the model change at once. (DEDUCED, assumption log 78.) -/
def Device.switchModel (d : Device) (who n : Nat) : Device :=
  d.cmd who 0x0046 .operator fun d =>
    let m := d.modelSlot n
    if 15 < n then (stFieldRange, [], d)
    else if m.plan.isSome then (stBusy, [], d)
    else match [0, 1].find? fun a => decide ((m.area a).st = .staged) with
      | none => (stWrongState, [], d)
      | some a =>
        let x := m.area a
        if x.partner.any fun e => d.flt.fenced.contains (ltDie e.2) then (stFenced, [], d)
        else if (m.area (1 - a)).st ≠ .active then
          (stOK, [0], d.updModelSlot n fun m => { (m.setArea a fun x => { x with st := .active }) with activeEpoch := x.epoch })
        else match d.switchPlan m with
          | none => (stDeadline, [], d)
          | some p =>
            let quiet := ((x.manifest.map fun k => k.tiles.map fun t => ltRegion (m.place t.tile)).getD []).eraseDups.filter
              fun r => !(p.regions.any fun e => e.1 = r)
            let d := d.updModelSlot n fun m =>
              { ((m.setArea a fun x => { x with st := .active }).setArea (1 - a) fun x => { x with st := .retiring }) with
                activeEpoch := x.epoch, plan := some p }
            (stOK, p.words, (forEach quiet (fun r d => d.exchangeRegion n r) d).settleSwitch n)

/-! ### Integrity (R404, R406) -/

/-- A shard is re-hashed (R404): a digest that no longer matches marks it corrupt. -/
def Device.rehash (d : Device) (n a i digest : Nat) : Device :=
  let x := d.area n a
  if ¬ (x.st = .staging ∨ x.st = .staged ∨ x.st = .active ∨ x.st = .retiring) ∨ ¬ (x.shard i).verified
      ∨ digest = x.shardDigest i then d
  else
    let d := d.updArea n a fun x =>
      x.updShard i fun h => { h with units := [], verified := false, corrupt := true, attempts := 0, requested := false }
    let d := (d.updMm fun m => { m with rehashFailCount := satInc m.rehashFailCount, rehashFailF := true }).glb 6
    (d.modelNotice (d.modelSlot n).model x.version stDigest i [i]).requestShards n a

/-- SHARD_REHASH (R404). -/
def execShardRehash (slot area shard digest : Nat) (s : State) : Host.Outcome State Fault Refusal :=
  .next (s.upd fun d => d.rehash slot area shard digest)

/-- TILE_AUDIT (R406): an audit of a dressed tile with too many deviations makes it suspect. -/
def execTileAudit (pt deviations : Nat) (s : State) : Host.Outcome State Fault Refusal :=
  .next (s.upd fun d =>
    if (d.tile pt).dress.dressed ∧ ¬ d.pins.vppLow ∧ d.mm.auditMax < deviations then
      let d := (d.updMm fun m => { m with auditFailCount := satInc m.auditFailCount, auditFailF := true }).glb 6
      d.suspectTile pt 0x04 deviations
    else d)

/-! ### Adapters and re-dress by command (R152, R220) -/

/-- The two matrices of an adapter of an epoch, by its index: in the order in which VADAPT first changed them. (DESIGN CHOICE,
assumption log 79.) -/
def Area.adapter (x : Area) (k : Nat) : List AdapterImage := (x.adapters.drop (2 * k)).take 2

/-- ADAPTER_RESTORE (R220): an adapter of the active epoch is as shipped again, in the fast-weight SRAM of its region. (DESIGN CHOICE,
assumption log 79.) -/
def Device.adapterRestore (d : Device) (who n adapter : Nat) : Device :=
  d.cmd who 0x0047 .operator fun d =>
    if 15 < n then (stFieldRange, [], d)
    else match [0, 1].find? fun a => decide (((d.modelSlot n).area a).st = .active) with
      | none => (stWrongState, [], d)
      | some a =>
        let d := (((d.modelSlot n).area a).adapter adapter).foldl (fun d m =>
          d.updRegion m.region fun g => { g with fw := m.rows.foldl (fun w e => memWrite w e.1 e.2) g.fw }) d
        (stOK, [], d.updArea n a fun x => { x with adaptersRestored := if x.adaptersRestored.contains adapter then x.adaptersRestored else adapter :: x.adaptersRestored })

/-- REDRESS (R152): the reply is the place in the cluster's queue. -/
def Device.redressCommand (d : Device) (who unit : Nat) : Device :=
  d.cmd who 0x0048 .maintainer fun d =>
    let st := unitCheck d unit
    let lt := unitLtOf unit
    if st ≠ stOK then (st, [], d)
    else if unitLevel unit ≠ 0 ∨ unitPhys unit then (stFieldRange, [], d)
    else if d.flt.fenced.contains (ltDie lt) ∨ (d.physOf lt).isNone then (stFenced, [], d)
    else
      let d := d.queueRedress lt .command 0
      (stOK, [((d.cluster (ltCluster lt)).redress.takeWhile fun x => x.logical ≠ lt).length + 1], d)

end Sys2Proof.Machine
end

