-- ==== Sys2Proof/Machine/Timebase.lean ====
section
/-! DEFINITION. The timebase (chapter 02): one cycle of the counter, the references and their qualification, the
lock states and holdover, and the commands of the timebase family. Offsets of references are in 1/196,608 ns, so
that 1 Tc is 100,000 and 1 ns is 196,608. -/
namespace Sys2Proof.Machine

/-- A count of Tc, and of ns, in the units of reference offsets. -/
def offTc (t : Int) : Int := t * 100000
def offNs (n : Int) : Int := n * 196608

/-- The offset lies within ± a number of ns. -/
def within (o : Int) (ns : Nat) : Bool := o.natAbs ≤ ns * 196608

/-- An offset in whole Tc, ties away from zero (R49). -/
def toTc (o : Int) : Int := rna (o / 100000 : Rat)

/-! ### The counter (R46) -/

/-- The rate of the slew under way, in 2^-8 × 10^-9 (R63). -/
def Device.slewRate (d : Device) : Int :=
  if d.clk.slew = 0 ∨ ¬ d.tb.st.slews then 0 else d.clk.slew.sign * (d.tb.slewMax * 256000 : Nat)

/-- The rate correction in force, in 2^-8 × 10^-9: the frequency estimate plus the slew under way, at most
±100 ppm in all (R46, R63, R66, R67). -/
def Device.rateCorrection (d : Device) : Int := clampI (-25600000) 25600000 (d.tb.freqEst + d.slewRate)

/-- A Tc in the units of `acc` and `slewAcc`. -/
abbrev tcUnit : Int := 256000000000

/-- The slew after one cycle: what the slew's own part of the rate moves is taken off the phase to be slewed away, Tc by
Tc, and nothing that the frequency estimate moves (R63, R66). -/
def Device.slewed (d : Device) : Clock :=
  let acc := d.clk.slewAcc + 4 * (d.rateCorrection - d.tb.freqEst)
  if tcUnit ≤ acc.natAbs then
    let slew := d.clk.slew - acc.sign
    { d.clk with slew := slew, slewAcc := if slew = 0 then 0 else acc - acc.sign * tcUnit }
  else { d.clk with slewAcc := if d.clk.slew = 0 then 0 else acc }

/-- One cycle of the timebase: 3, 4 or 5 Tc (R46), with FRAME carried at the end of the frame (R44). (DESIGN CHOICE,
assumption log 8.) -/
def Device.tick (d : Device) : Device :=
  let c := d.slewed
  let acc := c.acc + 4 * d.rateCorrection
  let step : Int := if tcUnit ≤ acc then 1 else if acc ≤ -tcUnit then -1 else 0
  let tc := c.tc + (4 + step).toNat
  let carry := tcPerFrame ≤ tc
  { d with be := beCycle d.be,
           clk := { c with cycles := c.cycles + 1, acc := acc - step * tcUnit, since := d.clk.now + 1, done := [],
                           tc := if carry then tc - tcPerFrame else tc,
                           frame := if carry then (c.frame + 1) % 2 ^ 39 else c.frame } }

/-- Meridian steps to a value in Tc (R50, R62); FRAME never goes below 0 (R48). A slew under way ends; an event whose
instant a forward step passes is late (R53). -/
def Device.setMeridian (d : Device) (t : Int) : Device :=
  let n := (max 0 t).toNat
  { d with clk := { d.clk with frame := n / tcPerFrame % 2 ^ 39, tc := n % tcPerFrame, slew := 0, slewAcc := 0, since := n } }

/-- Move Meridian by a signed count of Tc (R50). -/
def Device.stepMeridian (d : Device) (by_ : Int) : Device := d.setMeridian ((d.clk.now : Int) + by_)

/-! ### The reference time (R49) -/

/-- Units of 1/196,608 ns in 0.01 s: one frame. -/
abbrev offFrame : Nat := 1966080000000

/-- FRAME_OFFSET in force: a write that waits for its frame boundary is not (R49, R50). -/
def Timebase.offsetNow (t : Timebase) : Int := t.frameOffset - t.stepPending.getD 0

/-- The Meridian value of a reference time T, in Tc (R49): FRAME from the whole frames of T and FRAME_OFFSET, TC rounded to
the nearest Tc, ties away from zero; a TC rounded up to a whole frame is TC 0 of the next. (DESIGN CHOICE, assumption log
98.) -/
def meridianOf (t : Nat) (offset : Int) : Int := (t / offFrame + offset) * tcPerFrame + rna (t % offFrame / 100000 : Rat)

/-- The offset of Meridian, `ahead` Tc ago, from the reference time T of that instant. -/
def Device.offsetFrom (d : Device) (ahead t : Nat) : Int := offTc ((d.clk.now : Int) - ahead) - ((t : Int) + d.tb.offsetNow * offFrame)

/-! ### References (R57 to R60) -/

def Device.source (d : Device) (i : Nat) : Source := lget .reset d.tb.sources i
def Device.setSource (d : Device) (i : Nat) (s : Source) : Device :=
  { d with tb := { d.tb with sources := lset d.tb.sources i s } }

/-- REF_PRIO of a source (R57, R76). -/
def Device.prio (d : Device) (i : Nat) : Nat := bits d.tb.refPrio (4 * i + 3) (4 * i)

/-- A source that is enabled: its kind switched on in TB_CTRL and its priority below 15 (R57, R76). -/
def Device.enabled (d : Device) (i : Nat) : Bool :=
  decide (d.prio i < 15) && (if i < 4 then d.tb.ptpEn else d.tb.ppsEn)

/-- Exchanges or edges in a row that qualification needs (R62). -/
def qualCount (i : Nat) : Nat := if i < 4 then 16 else 4

/-- The qualified source that R57 selects: lowest priority value, then lowest number, among those that pass a test. -/
def Device.bestSource (d : Device) (p : Nat → Bool) : Option Nat :=
  ((List.range 5).filter fun i => d.enabled i && (d.source i).qualified && p i).foldl
    (fun best i => match best with
      | none => some i
      | some b => if d.prio i < d.prio b then some i else some b) none

/-- A time reference event, EVENT 0x1A, with source and offset in F_DETAIL (R59, R73, R77, R446): the source stands in
[31:28], the offset in Tc, signed, in [27:0]. (DESIGN CHOICE, assumption log 98.) -/
def Device.reportSource (d : Device) (i : Nat) (o : Int) : Device :=
  d.fault unitPackage unitPackage 0x1A 0 (i * 2 ^ 28 + ux 28 (toTc o))

/-- The servo takes a measurement: PHASE_OFFSET, the slew to come and, from PTP, a new frequency estimate. The
spec fixes no filter for the estimate: it is a free value within ±100 ppm (R46, R63, R68, assumption log 7). With
1PPS only the phase is steered (R60). -/
def Device.servo (d : Device) (i : Nat) (o : Int) : Device :=
  let d := { d with tb := { d.tb with phaseOffset := toTc o, lastGoodAt := d.real, lastGoodOff := o },
                    clk := { d.clk with slew := -toTc o, slewAcc := 0 } }
  if 4 ≤ i then d
  else
    let (v, d) := takeFree 26 d
    let est := clampI (-25600000) 25600000 (sx 26 v)
    let changes := ((est - d.tb.freqEst).natAbs :: d.tb.freqChanges).take 16
    { d with tb := { d.tb with freqEst := est, freqChanges := changes, freqUnc := changes.foldl max 0 } }

/-- The holdover length L in Tc at the nominal rate (R68); none when it is zero or less. The last measured offset is that of
the last good measurement, not of one beyond STEP_THRESHOLD that caused the loss. (DESIGN CHOICE, assumption log 98.) -/
def Device.holdoverLength (d : Device) : Option Nat :=
  let num : Int := (d.tb.teLimit * 196608 : Nat) - ((d.tb.lastGoodOff.natAbs : Int) + 20 * 196608)
  let f256 := d.tb.oscStab * 256 + max 2560 d.tb.freqUnc
  if num ≤ 0 then none else some (min (4 * 1966080000) (num.toNat * 2560000 / f256))

/-- Streams a change of the time reference names: every admitted stream (R342). -/
def Device.expire (d : Device) : Device :=
  let d := ({ d with tb := { d.tb with expired := true } }.glb 4).tbEnter .unreferenced 15
  d.breach 0x03 unitPackage d.liveStreams

/-- Enter HOLDOVER with L counted from the last good measurement, or go straight to UNREFERENCED (R68). -/
def Device.enterHoldover (d : Device) : Device :=
  match d.holdoverLength with
  | some l =>
    if d.tb.lastGoodAt + l ≤ d.real then (d.tbEnter .holdover 15).expire
    else { (d.tbEnter .holdover 15) with tb := { (d.tbEnter .holdover 15).tb with holdLen := l } }
  | none => (d.tbEnter .holdover 15).expire

/-- Clear the qualification counts when the timebase changes the bounds under which sources are measured (R62). -/
def Device.restartCounts (d : Device) : Device :=
  { d with tb := { d.tb with sources := d.tb.sources.map fun s => { s with count := 0, qualified := false } } }

/-- A source that gives nothing more: its run of measurements and its qualification end with it (R62, R64). -/
def Source.stopped (s : Source) : Source := { s with live := false, qualified := false, count := 0 }

/-- Loss of the selected reference (R64, R65): move to another qualified source within STEP_THRESHOLD, or enter
HOLDOVER; in ACQUIRING, go back to FREERUN (R61). -/
def Device.loseReference (d : Device) : Device :=
  let i := d.tb.refSrc
  let d := d.setSource i (d.source i).stopped
  match d.tb.st with
  | .locked =>
    let d := { d with tb := { d.tb with loss := true } }.glb 4
    match d.bestSource (fun j => decide (j ≠ i) && within (d.source j).last d.tb.stepThreshold) with
    | some j => (d.tbEnter .locked j).setSlew (-toTc (d.source j).last)
    | none => d.restartCounts.enterHoldover
  | .acquiring => ({ d with tb := { d.tb with loss := true } }.glb 4).restartCounts.tbEnter .freerun 15
  | _ => d

/-- A source is lost: if it is the selected one, the timebase loses its reference (R64). -/
def Device.loseSource (d : Device) (i : Nat) : Device :=
  if d.tb.refSrc = i then d.loseReference else d.setSource i (d.source i).stopped

/-- Sources that a setting has switched off stop; the selected one among them is lost (R57, R64, R77). -/
def Device.dropDisabled (d : Device) : Device :=
  forEach (List.range 5) (fun i d => if d.enabled i then d else d.loseSource i) d

/-- Enter ACQUIRING on a source and step Meridian to the value `m` that this measurement gives it (R49, R61, R62, R73). -/
def Device.acquire (d : Device) (i : Nat) (o m : Int) : Device :=
  let d := { d with tb := { d.tb with phaseOffset := toTc o, blockedSrc := none, lastGoodAt := d.real, lastGoodOff := 0 } }
  let d := (d.setMeridian m).restartCounts.tbEnter .acquiring i
  d.setSource i { d.source i with live := true, last := 0 }

/-- While LOCKED, move to the source that R57 selects when its offset lies within ±STEP_THRESHOLD; otherwise keep the
present one and set STEP_BLOCKED (R62, R77). -/
def Device.reselect (d : Device) : Device :=
  if d.tb.st = .locked then
    match d.bestSource (fun _ => true) with
    | none => d
    | some j =>
      if j = d.tb.refSrc ∨ (d.enabled d.tb.refSrc ∧ ¬ d.prio j < d.prio d.tb.refSrc ∧ ¬ (d.prio j = d.prio d.tb.refSrc ∧ j < d.tb.refSrc)) then d
      else if within (d.source j).last d.tb.stepThreshold then (d.tbEnter .locked j).setSlew (-toTc (d.source j).last)
      else { d with tb := { d.tb with stepBlocked := true } }.glb 4
  else d

/-- Count a measurement of a source under bounds: inside them the run grows, outside it restarts from the next one
(R62). A source stays qualified until it is lost or the counts restart: one that is measured beyond ±STEP_THRESHOLD while
another is selected can still be chosen, and blocked (R77). -/
def Device.countSource (d : Device) (i : Nat) (o : Int) (ok : Bool) (first : Int) : Device :=
  let s := d.source i
  let n := if ok then s.count + 1 else 0
  d.setSource i { s with live := true, last := o, count := n, first := if n = 1 then o else first,
                         qualified := s.qualified || decide (qualCount i ≤ n) }

/-- The timebase qualifies and enters LOCKED without a step (R62, R72). Leaving HOLDOVER or UNREFERENCED, the other sources
count again, under the bounds of a second source; leaving UNREFERENCED restores the streams: the notice names every stream
still admitted. -/
def Device.lock (d : Device) (i : Nat) (o : Int) : Device :=
  let from_ := d.tb.st
  let s := d.source i
  let d := if from_ = .acquiring then d else d.restartCounts.setSource i s
  let d := (d.servo i o).tbEnter .locked i
  let d := { d with tb := { d.tb with blockedSrc := none } }
  if from_ = .unreferenced then d.restoreAll 0x03 unitPackage d.liveStreams else d

/-- A measurement of a second source while another is selected (R62, R77): its qualification is reported. -/
def Device.countSecond (d : Device) (i : Nat) (o : Int) : Device :=
  let was := (d.source i).qualified
  let d := d.countSource i o (within o d.tb.lockTe) o
  if (d.source i).qualified && !was then d.reportSource i o else d

/-- A measurement from an enabled source (R62 to R65, R72, R73), with its offset and the Meridian value the reference gives
now. In FREERUN no source is qualified, and the first enabled source that gives a measurement is selected, whatever its
priority. (DESIGN CHOICE, assumption log 98.) -/
def Device.measure (d : Device) (i : Nat) (o m : Int) : Device :=
  match d.tb.st with
  | .localTime => d
  | .freerun => d.acquire i o m
  | .acquiring =>
    if i = d.tb.refSrc then
      if !within o d.tb.stepThreshold then
        let d := { d with tb := { d.tb with phaseOffset := toTc o, lastGoodAt := d.real, lastGoodOff := 0 } }
        let d := d.setMeridian m
        d.setSource i { d.source i with live := true, last := 0, count := 0, qualified := false }
      else
        let d := (d.servo i o).countSource i o (within o d.tb.lockTe) o
        if (d.source i).qualified then (d.reportSource i o).lock i o |>.reselect else d
    else d.countSecond i o
  | .locked =>
    if i = d.tb.refSrc then
      if !within o d.tb.stepThreshold then ({ d with tb := { d.tb with phaseOffset := toTc o } }).loseReference
      else (d.servo i o).setSource i { d.source i with live := true, last := o, qualified := true }
    else (d.countSecond i o).reselect
  | .holdover | .unreferenced =>
    if d.noStream && (d.tb.blockedSrc == some i || !within o d.tb.stepThreshold) then d.acquire i o m
    else if !within o d.tb.stepThreshold then
      let was := d.tb.blockedSrc = some i
      let d := { d with tb := { d.tb with stepBlocked := true, blockedSrc := some i, phaseOffset := toTc o } }.glb 4
      let d := d.countSource i o false o
      if was then d else d.reportSource i o
    else
      let s := d.source i
      let ok := decide (s.count = 0) || within (o - s.first) d.tb.lockTe
      let d := d.countSource i o ok s.first
      if (d.source i).qualified then (d.reportSource i o).lock i o else d

/-- A PTP message that the SX8 does not take: discarded and counted (R58). -/
def Device.ptpDiscard (d : Device) : Device := { d with tb := { d.tb with ptpDiscards := satInc d.tb.ptpDiscards } }

/-- A completed PTP exchange: the reference time T of this instant in 1/196,608 ns, TAI, and the master's Sync rate. The
asymmetry correction is added to T, which is what taking it off the measured offset means (R49, R76). A master too slow or
too fast is refused and reported, and lost if it was selected (R59); one above CLASS_MAX gives no reference, and a message
of another domain is discarded and counted (R58). -/
def Device.ptpExchange (d : Device) (quad domain time rate : Nat) : Device :=
  if quad < 4 ∧ d.enabled quad then
    let t := ((time : Int) + offNs (lget 0 d.tb.asym quad)).toNat
    let o := d.offsetFrom 0 t
    let s := d.source quad
    if domain ≠ d.tb.ptpDomain then d.ptpDiscard
    else if rate < 16 ∨ 128 < rate then
      let d := d.loseSource quad
      let d := d.setSource quad { d.source quad with live := true, refused := true, last := o }
      if s.refused then d else d.reportSource quad o
    else if d.tb.classMax < s.clockClass then d
    else (d.setSource quad { s with refused := false, exchangeAt := d.real, rate := rate }).measure quad o (meridianOf t d.tb.offsetNow)
  else d

/-- One REFCLK_IN-counted second, in Tc at the nominal rate. -/
def tcPerSecond : Nat := 1966080000

/-- The distance of a real time from the second that follows the last good edge, in Tc (R60). -/
def ppsDeviation (last now : Nat) : Int := (now : Int) - last - tcPerSecond

/-- An edge on 1PPS_IN, `ahead` Tc before the present count (R46, R60): it marks the TAI second the host supplied, or the
one after the last; outside ±200 ns of the expected second, the reference is lost. -/
def Device.ppsEdge (d : Device) (ahead : Nat) : Device :=
  if d.enabled 4 then
    let at_ := d.real - ahead
    let rest := d.tb.ppsTai.drop 1
    let good := match d.tb.ppsAt with | some t => within (offTc (ppsDeviation t at_)) 200 | none => true
    if good then
      let named : Option Nat := d.tb.ppsTai.head?.bind fun e => e
      let tai := named.or (d.tb.ppsLast.map fun t => t + 1)
      let d : Device := { d with tb := { d.tb with ppsTai := rest, ppsLast := tai, ppsAt := some at_ } }
      match tai with
      | some sec =>
        let t := sec * (100 * offFrame)
        d.measure 4 (d.offsetFrom ahead t) (meridianOf t d.tb.offsetNow + ahead)
      | none => d
    else ({ d with tb := { d.tb with ppsTai := rest, ppsLast := none, ppsAt := none } }).loseSource 4
  else d

/-- PPS_EDGE_MISSING (R60): the window of the expected edge has ended without it; the TAI second supplied for it goes with
it. -/
def Device.ppsMissing (d : Device) : Device :=
  match d.tb.ppsAt with
  | some t =>
    if 200 * 196608 < offTc (ppsDeviation t d.real) then
      ({ d with tb := { d.tb with ppsTai := d.tb.ppsTai.drop 1, ppsLast := none, ppsAt := none } }).loseSource 4
    else d
  | none => d

/-! ### Best master selection (R58) -/

/-- What the alternate BMCA of G.8275.1 compares of two masters on one port, most significant first; localPriority is a
port's own and the same for both. (PRESUMED, assumption log 98.) -/
def PtpAnnounce.rank (a : PtpAnnounce) : List Nat :=
  [a.clockClass, a.accuracy, a.variance, a.priority2, if a.clockClass ≤ 127 then 0 else a.identity, a.stepsRemoved, a.identity]

/-- One data set is better than another: the first value that differs is lower. -/
def betterRank : List Nat → List Nat → Bool
  | a :: as, b :: bs => decide (a < b) || (decide (a = b) && betterRank as bs)
  | _, _ => false

/-- The master of a source after an Announce: its own last Announce, or a better one. -/
def Source.best (s : Source) (a : PtpAnnounce) : Bool :=
  match s.master with
  | none => true
  | some m => decide (m.identity = a.identity) || betterRank a.rank m.rank

/-- PTP_ANNOUNCE (R58, R64): an Announce of the domain takes part in the best master selection; one of the master above
CLASS_MAX loses the reference, and one of another master above it is not considered. Messages of other domains and
management messages are discarded and counted. -/
def Device.announce (d : Device) (quad : Nat) (m : PtpMsg) : Device :=
  if quad < 4 ∧ d.enabled quad then
    match m with
    | .management _ => d.ptpDiscard
    | .announce a =>
      let s := d.source quad
      let same := match s.master with | some x => decide (x.identity = a.identity) | none => true
      if a.domain ≠ d.tb.ptpDomain then d.ptpDiscard
      else if d.tb.classMax < a.clockClass then
        if same then (d.setSource quad { s with clockClass := a.clockClass, master := some a, announceAt := d.real }).loseSource quad
        else d
      else if s.best a then d.setSource quad { s with clockClass := a.clockClass, master := some a, announceAt := d.real }
      else d
  else d

/-! ### Writes of the timebase registers -/

/-- TB_CTRL as its register reads (R76). -/
def Timebase.ctrl (t : Timebase) : Nat :=
  t.mode + b2n t.ptpEn * 8 + b2n t.ppsEn * 16 + t.ptpDomain * 2 ^ 8 + t.classMax * 2 ^ 16

/-- Enter the state that a MODE gives (R66). -/
def Device.setMode (d : Device) (mode : Nat) : Device :=
  if mode = d.tb.mode then d
  else
    let d := { d with tb := { d.tb with mode := mode } }
    d.restartCounts.tbEnter (if mode = 1 then .localTime else .freerun) 15

/-- The settings of TB_CTRL other than MODE take effect; disabling the selected source loses it (R64, R77). -/
def Device.setTbFields (d : Device) (v : Nat) : Device :=
  ({ d with tb := { d.tb with ptpEn := bit v 3, ppsEn := bit v 4, ptpDomain := bits v 15 8,
                              classMax := bits v 23 16 } }).dropDisabled

/-- Status of a write of TB_CTRL (R16, R66, R76). -/
def Device.tbCtrlCheck (d : Device) (v : Nat) : Nat :=
  if bits v 7 5 ≠ 0 ∨ bits v 31 24 ≠ 0 then stReserved
  else if 1 < bits v 2 0 ∨ bits v 15 8 < 24 ∨ 43 < bits v 15 8 then stFieldRange
  else if bits v 2 0 ≠ d.tb.mode ∧ ¬ d.noStream then stWrongState
  else stOK

/-- A write of TB_CTRL (R66, R76). One that switches the selected source off and changes MODE first loses the reference, with
LOSS set and the loss's change of state reported, and then changes MODE. (DESIGN CHOICE, assumption log 98.) -/
def Device.tbCtrlWrite (d : Device) (v : Nat) : Nat × Device :=
  let st := d.tbCtrlCheck v
  if st = stOK then (st, (d.setTbFields v).setMode (bits v 2 0)) else (st, d)

/-- A write of REF_PRIO (R77): reselects; disabling the selected source loses it. -/
def Device.refPrioWrite (d : Device) (v : Nat) : Nat × Device :=
  if 2 ^ 20 ≤ v then (stReserved, d)
  else
    (stOK, ({ d with tb := { d.tb with refPrio := v } }).dropDisabled.reselect)

/-- Twos-complement value of the FRAME_OFFSET pair (R49). -/
def frameOffsetOf (hi lo : Nat) : Int := sx 64 (hi % 2 ^ 32 * 2 ^ 32 + lo % 2 ^ 32)

/-- The FRAME that a new offset would give at the next frame boundary (R48): T there comes from the reference that Meridian
is slewed to, ahead of it by the slew to come, or from Meridian itself; `offsetNow` is the offset that T went with. -/
def Device.frameAfter (d : Device) (off : Int) : Int :=
  ((d.clk.frame + 1) * tcPerFrame + d.clk.slew) / tcPerFrame + (off - d.tb.offsetNow)

/-- A write of FRAME_OFFSET_HI (R48, R50): both halves are committed, and Meridian steps at the next frame boundary. -/
def Device.frameOffsetHiWrite (d : Device) (v : Nat) : Nat × Device :=
  let off := frameOffsetOf v d.tb.frameOffsetLo
  if ¬ d.noStream then (stWrongState, d)
  else if d.frameAfter off < 0 ∨ (2 ^ 39 - 2 ^ 32 : Int) ≤ d.frameAfter off then (stFieldRange, d)
  else (stOK, { d with tb := { d.tb with frameOffsetHi := v % 2 ^ 32, frameOffset := off,
                                         stepPending := some (off - d.tb.offsetNow),
                                         stepAt := (d.clk.frame + 1) * tcPerFrame } })

/-- A write of FRAME_OFFSET_LO (R50): held until the write of the high half. -/
def Device.frameOffsetLoWrite (d : Device) (v : Nat) : Nat × Device :=
  if d.noStream then (stOK, { d with tb := { d.tb with frameOffsetLo := v % 2 ^ 32 } }) else (stWrongState, d)

/-! ### Meanings -/

/-- MERIDIAN_LO_READ (R46, R47): the latch takes all 64 bits, with TC[1:0] cleared. -/
def Device.latchMeridian (d : Device) : Device :=
  { d with clk := { d.clk with latch := merOf (d.clk.now / 4 * 4) } }

/-- FRAME_OFFSET_STEP (R50): at the frame boundary, FRAME moves by the change the write made. -/
def Device.frameOffsetStep (d : Device) : Device :=
  match d.tb.stepPending with
  | some k =>
    if d.came d.tb.stepAt then
      let d := d.stepMeridian (k * tcPerFrame)
      { d with tb := { d.tb with stepPending := none } }
    else d
  | none => d

/-- The length L of a holdover has ended: the cycle on which it ends is past, so that a reference qualifying on that cycle
prevails (R71, R72). -/
def Device.holdoverOver (d : Device) : Bool := decide (d.tb.lastGoodAt + d.tb.holdLen + 4 ≤ d.real)

/-- HOLDOVER_EXPIRY (R71). -/
def Device.holdoverExpiry (d : Device) : Device := if d.tb.st = .holdover ∧ d.holdoverOver then d.expire else d

/-- What a hub restart does to the timebase (R74): the counter, its rate and FRAME_OFFSET stay. -/
def Device.tbRestart (d : Device) : Device :=
  match d.tb.st with
  | .locked => d.restartCounts.enterHoldover
  | .holdover | .unreferenced => d.restartCounts
  | .localTime => d
  | .freerun | .acquiring => d.restartCounts.tbEnter .freerun 15

/-- HOLD_REMAIN in µs (R68). -/
def Device.holdRemain (d : Device) : Nat :=
  if d.tb.st = .holdover then (d.tb.lastGoodAt + d.tb.holdLen - d.real) * 100 / 196608 else 0

/-- MERIDIAN_LO_READ (R47): a read latches all 64 bits and returns the low word. -/
def execMeridianLoRead (who : Nat) (s : State) : Host.Outcome State Fault Refusal :=
  .next (s.upd fun d => d.rowRead who .observer fun d =>
    let d := d.latchMeridian
    (stOK, [d.clk.latch % 2 ^ 32], d))

/-- FRAME_OFFSET_HI_WRITE (R48, R50). -/
def execFrameOffsetHiWrite (who value : Nat) (s : State) : Host.Outcome State Fault Refusal :=
  .next (s.upd fun d => d.rowWrite who .owner fun d => d.frameOffsetHiWrite value)

/-- FRAME_OFFSET_STEP (R50). -/
def execFrameOffsetStep (s : State) : Host.Outcome State Fault Refusal := .next (s.upd Device.frameOffsetStep)

/-- TB_CTRL_MODE_WRITE (R66, R76): MODE belongs to an Owner, the other fields to an Operator (R580). -/
def execTbCtrlModeWrite (who value : Nat) (s : State) : Host.Outcome State Fault Refusal :=
  .next (s.upd fun d =>
    d.rowWrite who (if bits value 2 0 = d.tb.mode then .operator else .owner) fun d => d.tbCtrlWrite value)

/-- REF_PRIO_WRITE (R77). -/
def execRefPrioWrite (who value : Nat) (s : State) : Host.Outcome State Fault Refusal :=
  .next (s.upd fun d => d.rowWrite who .operator fun d => d.refPrioWrite value)

/-- PTP_SYNC_EXCHANGE (R49, R58, R59, R62, R63, R72, R73): the two-way exchange gives the reference's time now. -/
def execPtpSyncExchange (quad : Nat) (time : SyncTime) (rate : Nat) (s : State) : Host.Outcome State Fault Refusal :=
  .next (s.upd fun d => d.ptpExchange quad time.domain time.time rate)

/-- PTP_ANNOUNCE (R58, R64). -/
def execPtpAnnounce (quad : Nat) (msg : PtpMsg) (s : State) : Host.Outcome State Fault Refusal :=
  .next (s.upd fun d => d.announce quad msg)

/-- The Announce receipt timeout: three intervals of an eighth of a second (R58). -/
abbrev announceTimeout : Nat := msTc 375

/-- ANNOUNCE_RECEIPT_TIMEOUT (R58, R64): no Announce of the master came for three intervals, and the source has no master more. -/
def execAnnounceReceiptTimeout (quad : Nat) (s : State) : Host.Outcome State Fault Refusal :=
  .next (s.upd fun d =>
    if quad < 4 ∧ d.ranOut (d.source quad).announceAt announceTimeout then
      (d.setSource quad { d.source quad with master := none }).loseSource quad
    else d)

/-- Four Sync intervals at the rate of the last exchange (R59, R64). -/
def Source.syncTimeout (x : Source) : Nat := ceilDiv (4 * 1966080000) (max 1 x.rate)

/-- SYNC_EXCHANGE_TIMEOUT (R64): no exchange completed within four Sync intervals. -/
def execSyncExchangeTimeout (quad : Nat) (s : State) : Host.Outcome State Fault Refusal :=
  .next (s.upd fun d =>
    if quad < 4 ∧ d.ranOut (d.source quad).exchangeAt (d.source quad).syncTimeout then d.loseSource quad else d)

/-- PPS_EDGE (R60): only a rising edge marks a second. -/
def execPpsEdge (ahead : Nat) (rising : Bool) (s : State) : Host.Outcome State Fault Refusal :=
  .next (s.upd fun d => if rising then d.ppsEdge ahead else d)

/-- PPS_EDGE_MISSING (R60). -/
def execPpsEdgeMissing (s : State) : Host.Outcome State Fault Refusal := .next (s.upd Device.ppsMissing)

/-- HOLDOVER_EXPIRY (R71). (DEDUCED, assumption log 26.) -/
def execHoldoverExpiry (s : State) : Host.Outcome State Fault Refusal := .next (s.upd Device.holdoverExpiry)

end Sys2Proof.Machine
end

