-- ==== Sys2Proof/Machine/Ports.lean ====
section
/-! DEFINITION. Data ports, ingress, partners, MACsec, ports A and B and the management reports (chapter 15). -/
namespace Sys2Proof.Machine

/-! ### Quads and training (R476 to R481) -/

/-- PORT_STATUS.STATE codes and the whole register (R503). -/
def PortSt.code : PortSt → Nat
  | .off => 0 | .down => 1 | .training => 2 | .up => 3 | .upDegraded => 4

def Port.status (p : Port) : Nat := p.st.code + p.lanes * 8 + p.rate * 32

/-- Configured width of a port, as a lanes code (R476, R503). -/
def Device.widthOf (d : Device) (p : Nat) : Nat := lget 0 d.dp.quadCfg (p / 4) % 4 - 1

/-- The PHY types DEGRADE permits (R477, R478): 25.78125 Gb/s on two lanes is not supported. -/
def Device.typeAllowed (d : Device) (p lanes rate : Nat) : Bool :=
  let g := bits (lget 0 d.dp.quadCfg (p / 4)) 3 2
  decide (rate ≤ 2) && !(decide (rate = 2) && decide (lanes = 1)) &&
    (if g = 0 then decide (lanes = d.widthOf p) && decide (rate = 0)
     else if g = 1 then decide (lanes = d.widthOf p)
     else decide (lanes ≤ d.widthOf p))

/-- Streams with INGRESS or EGRESS records on a port (R342, R480). -/
def Device.streamsOnPort (d : Device) (p : Nat) : List Nat :=
  d.liveStreams.filter fun s =>
    ((d.stream s).ingress.any fun i => i.1 = p) || ((d.stream s).egress.any fun e => e.port = p)

/-- The ports of a stream serve it as its acceptance stated (R480): checks 12 and 15 pass with no deadline moved. -/
def Device.portsServe (d : Device) (s : Nat) : Bool :=
  match d.adm.convs.find? fun c => c.stream = s && c.tag = (d.stream s).tag with
  | none => false
  | some c =>
    let e : Device := { d with adm := { d.adm with streams := tdel d.adm.streams s } }
    let h : ClaimHeader := c.header
    let ss : List StartPlan := e.startPlans c
    (e.check12 h c.records).isNone && (e.check15 h c.records ss).isNone &&
      (d.stream s).egress.all fun z => decide (d.slotLine z ≤ z.line)

def Device.updDp (d : Device) (f : DataPorts → DataPorts) : Device := { d with dp := f d.dp }

/-- Training of a port ends (R478 to R480). (DEDUCED, assumption log 87.) -/
def Device.portTrained (d : Device) (p lanes rate : Nat) (trained : Bool) : Device :=
  let was := d.port p
  if was.st ≠ .training then d
  else if !trained then
    let d := d.updPort p fun x => { x with st := .down, lanes := 0, rate := 0, downAt := d.real }
    if was.retry then d else d.portEvent p 3 (d.port p).status 0
  else if !d.typeAllowed p lanes rate then d
  else
    let full := decide (lanes = d.widthOf p) && decide (rate = 0)
    let d := d.updPort p fun x => { x with st := if full then .up else .upDegraded, lanes := lanes, rate := rate, retry := false }
    let d := d.portEvent p (if full then 1 else 2) (d.port p).status 0
    let d := if full then d else (d.updDp fun x => { x with degradedF := true }).capacityNotice
    d.restore 0x04 p ((d.streamsOnPort p).filter fun s => d.portsServe s)

/-- PORT_TRAINING_COMPLETE (R478, R479, R480). -/
def execPortTrainingComplete (port lanes rate : Nat) (trained : Bool) (s : State) : Host.Outcome State Fault Refusal :=
  .next (s.upd fun d => if d.portExists port then d.portTrained port lanes rate trained else d)

/-- Data ports of the present layout (R476). -/
def Device.portList (d : Device) : List Nat := (List.range 16).filter fun p => d.portExists p

/-- Data ports are past step 8 of start-up (R548): their training follows their configuration. -/
def Device.portsStarted (d : Device) : Bool :=
  decide (d.start.st = .ready) || decide (d.start.st = .service) || (decide (d.start.st = .starting) && decide (8 ≤ d.start.step))

/-- A port is DOWN and trains again: 10 s after its last training failed (R479). -/
def Device.retryDue (d : Device) (p : Nat) : Bool :=
  d.portsStarted && decide ((d.port p).st = .down) && d.ranOut (d.port p).downAt (msTc 10000)

/-- PORT_RETRY_TIMER (R479): the ports that are due train again, and report only a success. -/
def execPortRetryTimer (s : State) : Host.Outcome State Fault Refusal :=
  .next (s.upd fun d => forEach (d.portList.filter fun p => d.retryDue p)
    (fun p d => d.updPort p fun x => { x with st := .training, retry := true }) d)

/-- The port of a quad that receives PTP (R57): the lowest of the quad's layout. (DESIGN CHOICE, assumption log 98.) -/
def Device.ptpPortOf (d : Device) (quad : Nat) : Option Nat :=
  ((List.range 4).map fun i => 4 * quad + i).find? fun p => d.portExists p

/-- The state of a quad's PTP port (R58): FAULTY with its link down, SLAVE for the selected source, UNCALIBRATED with a
master, else LISTENING. (PRESUMED, assumption log 98.) -/
def Device.ptpPortState (d : Device) (quad : Nat) : PtpPortSt :=
  match (d.ptpPortOf quad).map fun p => (d.port p).up with
  | some true =>
    if d.tb.refSrc = quad then .slave else if (d.source quad).master.isSome then .uncalibrated else .listening
  | _ => .faulty

/-- The link of a port has gone down: a PTP reference received on it is lost (R64). -/
def Device.ptpLinkDown (d : Device) (p : Nat) : Device :=
  if d.ptpPortOf (p / 4) = some p then d.loseSource (p / 4) else d

/-- PORT_LINK_LOSS (R64, R480): the streams on the port are breached and it trains again at once. -/
def Device.portLost (d : Device) (p : Nat) : Device :=
  if (d.port p).up then
    let d := d.updPort p fun x => { x with st := .training, lanes := 0, rate := 0, retry := false, linkDown := satInc x.linkDown }
    let d := (d.updDp fun x => { x with linkLostF := true }).portEvent p 3 (d.port p).status 0
    (d.breach 0x04 p (d.streamsOnPort p)).ptpLinkDown p
  else d

def execPortLinkLoss (port : Nat) (s : State) : Host.Outcome State Fault Refusal :=
  .next (s.upd fun d => if d.portExists port then d.portLost port else d)

/-- A SAK installed or lost is a port event (R498). -/
def Device.sakLost (d : Device) (p : Nat) : Device :=
  let was := (d.port p).sakInstalled
  let d := d.updPort p fun x => { x with sakInstalled := false, sakSci := 0, mkaPeer := none }
  if was then d.portEvent p 9 (d.port p).status 0 else d

/-- A port of the quad serves a stream, a channel or a model source (R481). -/
def Device.quadUsed (d : Device) (q : Nat) : Bool :=
  (List.range 4).any fun i =>
    let p := 4 * q + i
    decide (d.streamsOnPort p ≠ []) ||
      (d.liveStreams.any fun s => (d.stream s).channels.any fun c => d.securePort c.2.1 = some p) ||
      (d.mm.slots.any fun e => [e.2.area0, e.2.area1].any fun (x : Area) =>
        decide (x.st ≠ .empty) && decide (x.source ≠ 0) && decide (x.sourceId % 16 = p))

/-- A quad's ports leave service and those of its layout train (R64, R478, R481), once start-up has reached step 8. -/
def Device.trainQuad (d : Device) (q : Nat) : Device :=
  forEach (List.range 4) (fun i d =>
    let p := 4 * q + i
    if d.portExists p then
      d.updPort p fun x => { x with st := .training, lanes := 0, rate := 0, retry := false }
    else (d.sakLost p).updPort p fun x => { x with st := .off, lanes := 0, rate := 0, retry := false }) (d.loseSource q)

/-- A write of QUAD_CFG (R481, R503). -/
def Device.quadWrite (d : Device) (v : Nat) : Nat × Device :=
  let byte (q : Nat) := v / 2 ^ (8 * q) % 256
  let qs := List.range 4
  if qs.any fun q => bits (byte q) 7 4 ≠ 0 then (stReserved, d)
  else if qs.any fun q => bits (byte q) 3 2 = 3 then (stFieldRange, d)
  else
    let changed := qs.filter fun q => byte q ≠ lget 0 d.dp.quadCfg q
    if changed.any fun q => d.quadUsed q then (stWrongState, d)
    else
      let d := d.updDp fun x => { x with quadCfg := qs.map byte }
      (stOK, if d.portsStarted then forEach changed (fun q d => d.trainQuad q) d else d)

/-- QUAD_CFG_WRITE (R481). -/
def execQuadCfgWrite (who value : Nat) (s : State) : Host.Outcome State Fault Refusal :=
  .next (s.upd fun d => d.rowWrite who .operator fun d => d.quadWrite value)

/-! ### Partners, policing and quarantine (R495, R496) -/

/-- The partner of a port and MAC; a channel's partner stands at port 0, whichever port its frames use. -/
def Device.partnerOf (d : Device) (port mac : Nat) : Option Nat :=
  let at_ (p : Nat) := (List.range 64).find? fun n =>
    let e := tget Partner.reset d.dp.partners n
    decide (e.st ≠ 0) && decide (e.mac = mac) && decide (e.port = p)
  match at_ port with
  | some n => some n
  | none => at_ 0

def Device.partner (d : Device) (n : Nat) : Partner := tget .reset d.dp.partners n
def Device.updPartner (d : Device) (n : Nat) (f : Partner → Partner) : Device :=
  d.updDp fun x => { x with partners := tupd .reset x.partners n f }

/-- A quarantine begins (R496): QUAR_HOLD, doubled at each further one within 24 h, up to 3,600 s. -/
def Device.quarPartner (d : Device) (n : Nat) : Device :=
  let d := d.updPartner n fun x =>
    let recent := x.quarTimes.filter fun t => d.real < t + msTc 86400000
    { x with st := 2, quarTimes := d.real :: recent,
             hold := if recent = [] then d.dp.quarHold else min 3600 (2 * x.hold) }
  let d := d.updDp fun x => { x with quarantineF := true }
  let p := (d.partner n).port
  d.portEvent p 6 (d.port p).status n

/-- A violation of a partner (R495, R496). (DEDUCED, assumption log 87.) -/
def Device.violation (d : Device) (n : Option Nat) : Device :=
  match n with
  | none => d
  | some n =>
    let d := d.updPartner n fun x =>
      if x.violAt + msTc 1000 ≤ d.real then { x with viol := 1, violAt := d.real } else { x with viol := x.viol + 1 }
    if d.dp.quarThr < (d.partner n).viol ∧ (d.partner n).st = 1 then d.quarPartner n else d

/-- A quarantine ends (R496). -/
def Device.quarEnd (d : Device) (n : Nat) : Device :=
  if (d.partner n).st = 2 then
    let p := (d.partner n).port
    ((d.updPartner n fun x => { x with st := 1, viol := 0 }).portEvent p 7 (d.port p).status n).dropPartners
  else d

/-- QUAR_HOLD_EXPIRY (R496): the hold has passed since the last quarantine. -/
def execQuarHoldExpiry (partner : Nat) (s : State) : Host.Outcome State Fault Refusal :=
  .next (s.upd fun d =>
    let x := d.partner partner
    if d.ranOut (x.quarTimes.headD 0) (msTc (1000 * x.hold)) then d.quarEnd partner else d)

/-- A write of P_CTRL (R496, R503). -/
def Device.partnerCtrl (d : Device) (n value : Nat) : Nat × Device :=
  if 64 ≤ n then (stFieldRange, d)
  else if 1 < value then (stReserved, d)
  else if (d.partner n).st ≠ 2 then (stWrongState, d)
  else (stOK, if value = 1 then d.quarEnd n else d)

/-- P_CTRL_RELEASE (R496). -/
def execPCtrlRelease (who partner : Nat) (s : State) : Host.Outcome State Fault Refusal :=
  .next (s.upd fun d => d.rowWrite who .owner fun d => d.partnerCtrl partner 1)

/-- The policer of a partner (R495): a bucket of two beats of its INGRESS records with POLICE_SLACK, drained at their rate.
A partner without INGRESS records has no rate and is not policed. None when the frame is dropped. (DEDUCED, assumption log
87.) -/
def Device.police (d : Device) (n bytes : Nat) : Option Device :=
  let e := d.partner n
  let recs := d.liveStreams.flatMap fun s => ((d.stream s).ingress.filter fun i => i.1 = e.port && i.2.2.2 = e.mac).map
    fun i => (i.2.2.1, (d.stream s).almanac)
  if recs = [] then some d
  else
    let slack := 100 + d.dp.policeSlack
    let rate := (recs.map fun i => i.1 * i.2 * slack).sum
    let depth := (recs.map fun i => 2 * i.1 * slack * tcPerFrame).sum
    let level := e.level - (d.real - e.levelAt) * rate + bytes * 100 * tcPerFrame
    if level ≤ depth then some (d.updPartner n fun x => { x with level := level, levelAt := d.real }) else none

/-- The checks of a received frame in their order (R480, R495); `accept` is what a frame that passes does. -/
def Device.receive (d : Device) (port mac bytes : Nat) (form known late contents dup : Bool) (accept : Device → Device) :
    Device :=
  let n := d.partnerOf port mac
  let count (f : Port → Port) (d : Device) : Device := d.updPort port f
  if !(d.port port).up then d.updDp fun x => { x with downDrops := satInc x.downDrops }
  else if n.any fun k => decide ((d.partner k).st = 2) then count (fun x => { x with quarDrop := satInc x.quarDrop }) d
  else if !form then (count (fun x => { x with malformedDrop := satInc x.malformedDrop }) d).violation n
  else if !known then count (fun x => { x with unknownDrop := satInc x.unknownDrop }) d
  else match (match n with | some k => d.police k bytes | none => some d) with
    | none => (count (fun x => { x with policeDrop := satInc x.policeDrop }) d).violation n
    | some d =>
      if late then count (fun x => { x with lateDrop := satInc x.lateDrop }) d
      else if !contents then (count (fun x => { x with malformedDrop := satInc x.malformedDrop }) d).violation n
      else if dup then count (fun x => { x with dupDrop := satInc x.dupDrop }) d
      else accept d

/-! ### Ingress (R490 to R494) -/

/-- The live stream whose binding names a port, a kind, a partner and a key (R490). -/
def Device.boundStream (d : Device) (port kind mac key : Nat) : Option Nat :=
  d.liveStreams.find? fun s =>
    bit (d.bindWord s 0) 31 && decide (b2n (bit (d.bindWord s 0) 0) = kind) && decide (d.bindPort s = port) &&
      decide (d.bindMac s = mac) && decide (d.bindKey s = key) && decide ((d.stream s).ingress ≠ [])

def Device.batch (d : Device) (s : Nat) : Batch := tget .reset d.dp.batches s
def Device.updBatch (d : Device) (s : Nat) (f : Batch → Batch) : Device :=
  d.updDp fun x => { x with batches := tupd .reset x.batches s f }

/-- The stream fills batches: it is in the Almanac and has begun (R321, R492). -/
def Device.filling (d : Device) (s : Nat) : Bool :=
  !(d.stream s).entriesGone && decide ((d.stream s).almanac ≠ 0) && d.dp.batches.any fun e => e.1 = s

/-- A frame is for the batch being filled or the next (R492). -/
def Device.batchOpen (d : Device) (s b : Nat) : Bool :=
  d.filling s && (decide (b = (d.batch s).beat) || decide (b = (d.batch s).beat + 1))

/-- Scratch offset of the half of the receive window that takes batch `b` (R490). (DEDUCED, assumption log 88.) -/
def Device.halfBase (d : Device) (s b : Nat) : Nat :=
  match (d.region (d.bindRegion s)).rxwin[d.bindWindow s]? with
  | some w => 64 * w.base + b % 2 * (32 * w.size)
  | none => 0

/-- The hub writes a token's record and some of its bytes (R490, R491). -/
def Device.putToken (d : Device) (s b token rec_ off : Nat) (bs : List Byte) : Device :=
  let base := d.halfBase s b
  let tmax := d.bindTmax s
  let d := d.remoteWrite (d.bindRegion s) (base + 8 * token) (leBytes 8 rec_)
  if bs = [] then d else d.remoteWrite (d.bindRegion s) (base + 8 * tmax + token * d.bindTbytes s + off) bs

/-- Compression of a section (R483): the binding's when static, else the section's own udCompHdr. Method and width.
(PRESUMED, assumption log 33.) -/
def Device.compOf (d : Device) (s : Nat) (x : UplaneSection) : Nat × Nat :=
  let w0 := d.bindWord s 0
  let (m, w) := if bit w0 17 then (bits w0 19 18, bits w0 23 20) else (x.compHdr % 16, x.compHdr / 16)
  (m, if w = 0 then 16 else w)

/-- Bytes of one PRB: 24 samples of the width, with a byte of exponent in block floating point. -/
def prbBytes (method width : Nat) : Nat := 3 * width + if method = 1 then 1 else 0

/-- A section meets R483. (DEDUCED, assumption log 88.) -/
def Device.sectionOk (d : Device) (s : Nat) (x : UplaneSection) : Bool :=
  let (m, w) := d.compOf s x
  let nprb := bits (d.bindWord s 6) 8 0
  decide (1 ≤ x.numPrb) && decide (x.startPrb + x.numPrb ≤ nprb) &&
    (decide (m = 1 ∧ w ≤ 16) || decide (m = 0 ∧ w = 16)) && decide (x.data.length = x.numPrb * prbBytes m w)

/-- The 24 samples of a PRB, decompressed and rounded to BF16 (R162, R491). (PRESUMED, assumption log 33.) -/
def prbSamples (method width : Nat) (bs : List Byte) : List Byte :=
  let (exp, body) := if method = 1 then ((bs.map fun b => b.toNat % 16).headD 0, bs.drop 1) else (0, bs)
  let v := beValue body
  (List.range 24).flatMap fun i =>
    leBytes 2 (bf16.round ((sx width (v / 2 ^ (width * (23 - i))) : Int) * (2 ^ exp : Nat))).1

/-- A section goes into its batch (R491); one that repeats is counted as a duplicate and ignored. -/
def Device.putSection (d : Device) (port s b token seq : Nat) (x : UplaneSection) : Device :=
  let id_ := [token, seq, x.startPrb, x.numPrb]
  if (d.batch s).seen.contains (b, id_) then d.updPort port fun p => { p with dupDrop := satInc p.dupDrop }
  else
    let (m, w) := d.compOf s x
    let nprb := bits (d.bindWord s 6) 8 0
    let bs := (List.range x.numPrb).flatMap fun i => prbSamples m w ((x.data.drop (i * prbBytes m w)).take (prbBytes m w))
    let d := d.putToken s b token (mkRec one32 0 false false false false false 0) (48 * x.startPrb) bs
    d.updBatch s fun y =>
      let got := ((y.part.find? fun e => e.1 = b && e.2.1 = token).map fun e => e.2.2).getD 0
      let mask := got ||| ((2 ^ x.numPrb - 1) * 2 ^ x.startPrb)
      let rest := y.part.filter fun e => !(e.1 = b && e.2.1 = token)
      { y with seen := (b, id_) :: y.seen,
               part := (b, token, mask) :: rest,
               tokens := if mask = 2 ^ nprb - 1 ∧ ¬ y.tokens.contains (b, token) then (b, token) :: y.tokens else y.tokens }

/-- The frame nearest the present Meridian whose number is `id` modulo 256 (R491). -/
def nearestFrame (now id : Nat) : Nat :=
  let step := (id + 256 - now % 256) % 256
  if step < 128 ∨ now + step < 256 then now + step else now + step - 256

/-- UPLANE_FRAME (R483, R491, R492, R495). -/
def execUplaneFrame (port mac eaxc seq frameId subframe slot symbol : Nat) (ok : Bool) (sections : List UplaneSection)
    (bytes : Nat) (s : State) : Host.Outcome State Fault Refusal :=
  .next (s.upd fun d =>
    let st := d.boundStream port 0 mac eaxc
    let n := st.getD 0
    let mu := bits (d.bindWord n 0) 16 14
    let x := d.stream n
    let form := ok && decide (subframe < 10) && decide (symbol < 14) &&
      (st.isNone || (decide (slot < 2 ^ mu) && sections.all fun y => d.sectionOk n y))
    let spb := (slotsPerBeat mu x.almanac).getD 1
    let idx := subframe * 2 ^ mu + slot
    let b := nearestFrame d.clk.frame (frameId % 256) * x.almanac + idx / spb
    let token := idx % spb * 14 + symbol
    d.receive port mac bytes form st.isSome (!d.batchOpen n b) (decide (token < d.bindTmax n)) false
      fun d => sections.foldl (fun d y => d.putSection port n b token seq y) d)

/-- Contents of a TENSOR frame (R488). (DEDUCED, assumption log 88.) -/
def Device.tensorOk (d : Device) (s mer token0 fmt : Nat) (tokens : List (List Byte)) (records : List Nat) : Bool :=
  merOk mer && decide (fmt = bits (d.bindWord s 0) 13 10) && decide (fmt ≤ fFP32 ∨ fmt = fY24) &&
    decide (records.length = if hasRecs fmt then tokens.length else 0) &&
    decide (token0 + tokens.length ≤ d.bindTmax s) && (tokens.all fun t => t.length = d.bindTbytes s) &&
    records.all fun v => posNormal (rScale v) &&
      (decide (fmt = fU8) || decide (fmt = fS8) || decide (rZp v = 0))

/-- A TENSOR frame goes into its batch (R488). -/
def Device.putTensor (d : Device) (s b seq token0 : Nat) (tokens : List (List Byte)) (records : List Nat) : Device :=
  let d := (List.range tokens.length).foldl (fun d i =>
    let v := match records[i]? with
      | some v => mkRec (rScale v) (rZp v) false false false false false 0
      | none => mkRec one32 0 false false false false false 0
    d.putToken s b (token0 + i) v 0 (tokens.getD i [])) d
  d.updBatch s fun y =>
    { y with seen := (b, [seq]) :: y.seen,
             tokens := ((List.range tokens.length).map fun i => (b, token0 + i)).filter (fun e => !y.tokens.contains e) ++ y.tokens }

/-- TENSOR_FRAME (R488, R492, R495). (DEDUCED, assumption log 88.) -/
def execTensorFrame (port mac flow seq mer token0 fmt : Nat) (ok : Bool) (tokens : List (List Byte)) (records : List Nat)
    (bytes : Nat) (s : State) : Host.Outcome State Fault Refusal :=
  .next (s.upd fun d =>
    let st := d.boundStream port 1 mac flow
    let n := st.getD 0
    let b := beatNo (d.stream n).almanac (ofMer mer)
    d.receive port mac bytes ok st.isSome (merOk mer && !d.batchOpen n b) (d.tensorOk n mer token0 fmt tokens records)
      ((d.batch n).seen.any fun e => e.2 = [seq]) fun d => d.putTensor n b seq token0 tokens records)

/-- The cut-off of a batch (R493, R494): tokens that are not complete become zero with a zero-range record. -/
def Device.cutoff (d : Device) (s : Nat) : Device :=
  let x := d.stream s
  if !d.filling s || decide (x.ingress = []) then d
  else
    let y := d.batch s
    let b := y.beat
    let missing := (List.range (d.bindTmax s)).filter fun t => !y.tokens.contains (b, t)
    let d := forEach missing (fun t d =>
      d.putToken s b t (mkRec 0x00800000 0 true false false false false 0) 0 (List.replicate (d.bindTbytes s) 0)) d
    let port := d.bindPort s
    let d := d.updBatch s fun y =>
      { y with beat := b + 1, tokens := y.tokens.filter fun e => b < e.1,
               part := y.part.filter fun e => b < e.1,
               seen := y.seen.filter fun e => b < e.1,
               incomplete := if missing = [] then 0 else y.incomplete + 1,
               missUntil := if missing = [] then y.missUntil else beatStartNo x.almanac (b + x.lagMax + 2) }
    if missing = [] then
      if y.inputLost then
        (d.updBatch s fun y => { y with inputLost := false }).portEvent port 5 (d.port port).status s
      else d
    else if !y.inputLost && decide (d.dp.streamTimeout ≤ (d.batch s).incomplete) then
      ((d.updBatch s fun y => { y with inputLost := true }).updDp fun z => { z with inputLostF := true }).portEvent port 4
        (d.port port).status s
    else d

/-- The start of the first activation that reads the batch a stream is filling (R399, R492). -/
def Device.readingStart (d : Device) (s : Nat) : Nat := ((d.stream s).boundary (d.bindRegion s) (d.batch s).beat).2

/-- The cut-off of that batch has come: INGRESS_MARGIN before its first reader starts (R492). -/
def Device.cutoffCame (d : Device) (s : Nat) : Bool := d.came (d.readingStart s - d.dp.ingressMargin * 196608 / 100)

/-- BATCH_CUTOFF (R492 to R494). -/
def execBatchCutoff (stream : Nat) (s : State) : Host.Outcome State Fault Refusal :=
  .next (s.upd fun d => if d.cutoffCame stream then d.cutoff stream else d)

/-! ### Inter-package frames (R393, R489, R495, R497) -/

/-- MACsec protects the frames of a partner package (R489, R497). -/
def Device.secured (d : Device) (port mac : Nat) : Bool :=
  (d.port port).sakInstalled && decide ((d.port port).mkaPeer = some mac)

/-- A frame of the secure channel that fails its ICV or its replay check is discarded and a violation of the partner (R495).
(DEDUCED, assumption log 88.) -/
def Device.icvFailed (d : Device) (port mac : Nat) : Device :=
  match d.partnerOf port mac with
  | some n => if (d.port port).up ∧ (d.partner n).st = 1 then d.violation (some n) else d
  | none => d

/-- FABRIC_FRAME (R289, R489, R234). (DEDUCED, assumption log 88.) -/
def execFabricFrame (port mac channel _seq : Nat) (ok icvOk : Bool) (data : List Byte) (s : State) :
    Host.Outcome State Fault Refusal :=
  .next (s.upd fun d =>
    if !icvOk then d.icvFailed port mac
    else
      let to_ := d.liveStreams.findSome? fun n =>
        ((d.stream n).channels.find? fun c => c.1 = channel && c.2.1 = mac).map fun c => c.2.2
      d.receive port mac data.length (ok && d.secured port mac && decide (data.length ≤ 8192)) to_.isSome false true false
        fun d => match to_ with
          | none => d
          | some (r, w) => d.remoteWrite r (64 * (((d.region r).rxwin[w]?).map fun (y : Window) => y.base).getD 0) data)

/-- SHARD_REQ_FRAME (R393, R489): a package that asks for a model follows it; it is answered from verified shards. The peer
of the port's secure channel counts as a partner here. (DEDUCED, assumption log 87.) -/
def execShardReqFrame (port mac model version shard : Nat) (icvOk : Bool) (s : State) : Host.Outcome State Fault Refusal :=
  .next (s.upd fun d =>
    if !icvOk then d.icvFailed port mac
    else d.receive port mac 64 (d.secured port mac) true false true false fun d =>
      match d.areaOf model version with
      | none => d
      | some (n, a) =>
        let d := d.updMm fun m =>
          { m with followers := if m.followers.contains (mac, model) then m.followers else m.followers ++ [(mac, model)] }
        if ((d.area n a).shard shard).verified ∧ shard < (d.area n a).shards.length then
          d.emit (.shardData mac model version shard)
        else d)

/-- SHARD_DATA_FRAME (R389, R391, R489): from the source of the epoch, under MACsec where that is a package. -/
def execShardDataFrame (port mac model version shard offset : Nat) (icvOk : Bool) (data : List Byte) (s : State) :
    Host.Outcome State Fault Refusal :=
  .next (s.upd fun d =>
    if !icvOk then d.icvFailed port mac
    else
      let to_ := match d.areaOf model version with
        | some (n, a) =>
          let x := d.area n a
          if x.source ≠ 0 ∧ x.sourceId = mac * 16 + port then some (n, a, x.source) else none
        | none => none
      let form := decide (1 ≤ data.length) && decide (data.length ≤ 8192) &&
        (match to_ with | some (_, _, 2) => d.secured port mac | _ => true)
      d.receive port mac data.length form to_.isSome false true false fun d => match to_ with
        | none => d
        | some (n, a, _) =>
          let x := d.area n a
          if offset + data.length ≤ x.shardLength shard ∧ x.blockCheck 8192 (shard * shardBytes + offset) data.length = none
          then d.putBlock n a (shard * shardBytes + offset) data else d)

/-! ### MKA (R497, R498, R520) -/

/-- CAK records of a port that authenticate in this mode (R518, R520, R544). -/
def Device.caksOf (d : Device) (port : Nat) : List CakRecord :=
  d.sec.keystore.filter fun k => k.port = port && k.debugKey == decide (d.sec.mode = .debug)

/-- MKA_FRAME (R497, R498, R522, R523): a live peer; the key server's SAK is installed, the SX8's own where the DRBG
gives one. -/
def execMkaFrame (port ckn peer : Nat) (icvOk : Bool) (sci : Nat) (serverKey : Bool) (s : State) :
    Host.Outcome State Fault Refusal :=
  .next (s.upd fun d =>
    if !(d.port port).up || !icvOk || decide (d.sec.mode = .error) || !((d.caksOf port).any fun k => k.ckn = ckn) then d
    else
      let p := d.port port
      let d := if p.mkaPeer = some peer then d.updPort port fun x => { x with mkaAt := d.real } else d
      if p.sakInstalled ∧ p.mkaPeer = some peer ∧ p.sakSci = sci then d
      else if serverKey ∨ ¬ d.sec.drbgStopped then
        (d.updPort port fun x => { x with sakInstalled := true, sakSci := sci, mkaPeer := some peer, mkaAt := d.real }).portEvent port 8
          (d.port port).status 0
      else d)

/-- MKA_LIFE_EXPIRY (R497, R498): nothing of the live peer came for 6 s. -/
def execMkaLifeExpiry (port : Nat) (s : State) : Host.Outcome State Fault Refusal :=
  .next (s.upd fun d => if d.ranOut (d.port port).mkaAt (msTc 6000) then d.sakLost port else d)

/-- MKA_HELLO_TIMER (R497), 2 s after the hello before: an MKPDU on each port in service with a connectivity association. -/
def execMkaHelloTimer (s : State) : Host.Outcome State Fault Refusal :=
  .next (s.upd fun d => if d.ranOut d.dp.helloAt (msTc 2000) then
      forEach (d.portList.filter fun p => (d.port p).up && decide (d.caksOf p ≠ []))
        (fun p d => (d.updPort p fun x => { x with mkaMsgNo := x.mkaMsgNo + 1 }).emit (.mka p ((d.port p).mkaMsgNo + 1)))
        (d.updDp fun x => { x with helloAt := d.real })
    else d)

/-! ### Ports A and B and the reports (R499 to R505) -/

def Device.updPab (d : Device) (f : Pab → Pab) : Device := { d with pab := f d.pab }

/-- Port A or B is up (R505). -/
def Device.pabUp (d : Device) (port : Nat) : Bool := if port = 0 then d.pab.linkA else d.pab.linkB

/-- PAB_DATAGRAM (R500): `kind` 0 ARP, 1 neighbour discovery, 2 ICMP echo, 3 ICMPv6 echo, 4 BCP, other values every other
protocol. -/
def Device.pabDatagram (d : Device) (port kind src : Nat) (forUs : Bool) : Device :=
  if !d.pabUp port || d.pins.hubHalted || decide (1 < port) then d
  else
    let mine (e : Nat × Nat × Nat × Nat) : Bool := decide (e.1 = port) && decide (e.2.1 = src)
    let (at_, n) := match d.pab.sources.find? mine with
      | some (_, _, t, n) => if d.real < t + msTc 1000 then (t, n) else (d.real, 0)
      | none => (d.real, 0)
    if 20000 ≤ n ∨ 5 ≤ kind then d.updPab fun x => { x with discards := satInc x.discards }
    else
      let d := d.updPab fun x => { x with sources := (port, src, at_, n + 1) :: x.sources.filter fun e => !mine e }
      if forUs ∧ kind < 4 then d.emit (.pab port kind) else d

/-- (DEDUCED, assumption log 90.) -/
def execPabDatagram (port kind src : Nat) (forUs : Bool) (s : State) : Host.Outcome State Fault Refusal :=
  .next (s.upd fun d => d.pabDatagram port kind src forUs)

/-- Collectors with EN set (R505). (DEDUCED, assumption log 90.) -/
def Device.collectors (d : Device) : List Nat := (List.range 2).filter fun c => bit (lget 0 d.pab.collCfg c) 31

/-- Reports leave: port B is up, the hub runs, and MODE is not ERROR (R501, R522, R523). -/
def Device.reports (d : Device) : Bool := d.pab.linkB && !d.pins.hubHalted && decide (d.sec.mode ≠ .error)

/-- A report datagram goes to every enabled collector under one RSEQ (R501). (DEDUCED, assumption log 90.) -/
def Device.sendReport (d : Device) (items : List ReportItem) : Device :=
  let n := d.pab.rseq + 1
  forEach d.collectors (fun c d => d.emit (.report c d.pab.bootId n d.mer items)) (d.updPab fun x => { x with rseq := n, sentAt := some d.real })

/-- No report datagram has left for a time (R502). -/
def Device.reportPause (d : Device) (span : Nat) : Bool :=
  match d.pab.sentAt with
  | none => true
  | some t => d.ranOut t span

/-- REPORT_DATAGRAM_SEND (R501, R502): up to 32 items, an items-lost item first where items were dropped, at most one
datagram every 10 ms. -/
def execReportDatagramSend (s : State) : Host.Outcome State Fault Refusal :=
  .next (s.upd fun d =>
    let lost : List ReportItem := if d.pab.lost = 0 then [] else [{ kind := 5, words := [d.pab.lost] }]
    let items := lost ++ d.pab.items
    if items = [] ∨ d.collectors = [] ∨ ¬ d.reports ∨ ¬ d.reportPause (msTc 10) then d
    else (d.sendReport (items.take 32)).updPab fun x => { x with lost := 0, items := items.drop 32 })

/-- REPORT_HEARTBEAT (R501, R502): 1 s without items. -/
def execReportHeartbeat (s : State) : Host.Outcome State Fault Refusal :=
  .next (s.upd fun d =>
    if d.pab.items = [] ∧ d.pab.lost = 0 ∧ d.collectors ≠ [] ∧ d.reports ∧ d.reportPause (msTc 1000) then d.sendReport [] else d)

/-- REPORT_SEQ_LO_READ (R505): the read latches the last RSEQ. -/
def Device.reportSeqLo (d : Device) : Nat × List Nat × Device :=
  (stOK, [d.pab.rseq % 2 ^ 32], d.updPab fun x => { x with rseqLatch := x.rseq })

def execReportSeqLoRead (who : Nat) (s : State) : Host.Outcome State Fault Refusal :=
  .next (s.upd fun d => d.rowRead who .observer fun d => d.reportSeqLo)

/-- PORT_AB_LINK_CHANGE (R501, R505). -/
def execPortAbLinkChange (port : Nat) (up : Bool) (s : State) : Host.Outcome State Fault Refusal :=
  .next (s.upd fun d =>
    if 1 < port ∨ d.pabUp port = up ∨ (port = 1 ∧ d.sec.mode = .recovery) then d
    else
      let d := d.updPab fun x => if port = 0 then { x with linkA := up, linkAF := true } else { x with linkB := up, linkBF := true }
      d.portEvent (16 + port) (if up then 1 else 3) 0 0)

end Sys2Proof.Machine
end

