-- ==== Sys2Proof/Machine/Firmware.lean ====
section
/-! DEFINITION. Security functions and firmware update (chapter 16): firmware delivery, activation, attestation, anchors,
keys, the debug lock and the TRNG. -/
namespace Sys2Proof.Machine

def Device.updSec (d : Device) (f : Security → Security) : Device := { d with sec := f d.sec }

abbrev stRollback : Nat := 0x0503

/-! ### Codes and words (R519, R546) -/

def SecMode.code : SecMode → Nat
  | .normal => 0 | .recovery => 1 | .debug => 2 | .error => 3

/-- LIFECYCLE of SEC_STATUS: 2 in CLAIM mode (R512, R546). -/
def Security.lifeCode (s : Security) : Nat := if s.claim then 2 else match s.lifecycle with | .unowned => 0 | .owned => 1

/-- Three counters in the layout of SVN_RUN (R546). -/
def svnWord (l : List Nat) : Nat := lget 0 l 0 + lget 0 l 1 * 2 ^ 9 + lget 0 l 2 * 2 ^ 18

def Security.anchor (s : Security) (i : Nat) : Anchor := lget .reset s.anchors i

/-- A slot is in force (R511). -/
def Anchor.inForce (a : Anchor) : Bool := a.present && !a.revoked

/-- ANCHOR_STATE (R546). -/
def Security.anchorWord (s : Security) : Nat :=
  ((List.range 4).map fun i =>
    let a := s.anchor i
    (b2n a.present + b2n a.revoked * 2 + a.ceiling % 4 * 4) * 16 ^ i).sum

/-- FW_CONV state (R533, R546). (DEDUCED, assumption log 36.) -/
def Security.fwCode (s : Security) : Nat :=
  match s.fw.st with
  | .none => 0 | .receiving => 1 | .writing => 2 | .staged => if s.activation.isSome then 5 else 3 | .failed => 4

/-- A W1C flag of SEC_STATUS is set (R586). -/
def Device.secFlag (d : Device) (f : Security → Security) : Device := (d.updSec f).glb 7

/-! ### Firmware images (R529 to R536) -/

/-- Flash areas of LOADER, HUB and DIE (R527). -/
def fwArea (k : Nat) : Nat := if k = 0 then 1920 * 1024 else if k = 1 then 14 * 1024 * 1024 else 16 * 1024 * 1024

def FwHeader.part (h : FwHeader) (k : Nat) : FwComponent :=
  lget { type := 0, svn := 0, offset := 0, length := 0, digest := 0 } h.components k

/-- MAGIC, FORMAT, TYPE, SVN, LENGTH and PAYLOAD_LENGTH meet R529 and R530. -/
def FwHeader.fieldsOk (h : FwHeader) : Bool :=
  decide (h.magic = 0xD0F15E08) && decide (h.format = 1) && decide (h.components.length = 3) &&
    decide (h.payloadLength = (h.components.map fun c => c.length).sum) &&
    (List.range 3).all fun k =>
      let c := h.part k
      decide (c.type = k + 1) && decide (c.svn ≤ 256) && decide (64 ≤ c.length) && decide (c.length % 64 = 0) &&
        decide (c.length ≤ fwArea k)

/-- Each OFFSET is the sum of the lengths before it (R530). -/
def FwHeader.offsetsOk (h : FwHeader) : Bool :=
  decide ((h.part 0).offset = 0) && decide ((h.part 1).offset = (h.part 0).length) &&
    decide ((h.part 2).offset = (h.part 0).length + (h.part 1).length)

/-- A header is valid (R531). -/
def Security.headerOk (s : Security) (h : FwHeader) : Bool :=
  h.reservedZero && h.fieldsOk && h.offsetsOk && decide (h.keyHash = s.vendorAnchor) && h.signatureOk

/-- Every SVN is at or above its counter (R525). -/
def Security.svnsOk (s : Security) (h : FwHeader) : Bool := (List.range 3).all fun k => decide (lget 0 s.arb k ≤ (h.part k).svn)

/-- The component that holds a payload offset. -/
def FwHeader.partAt (h : FwHeader) (off : Nat) : Nat :=
  if off < (h.part 1).offset then 0 else if off < (h.part 2).offset then 1 else 2

/-- WRITING begins (R535): directory copy A is erased and the component areas are overwritten. -/
def Device.startWriting (d : Device) : Device :=
  d.updSec fun s => { s with flashTorn := true, fw := { s.fw with st := .writing, flashWritten := 0, failStatus := 0 } }

/-- Descriptor k of a header (R530). -/
def readFwPart (m : List (Nat × Byte)) (k : Nat) : FwComponent :=
  let o := 64 + 64 * k
  let w0 := beWord m o
  let w1 := beWord m (o + 8)
  { type := bits w0 63 56, svn := bits w0 47 32, offset := bits w1 63 32, length := bits w1 31 0, digest := beValue (memRead m (o + 16) 48) }

/-- A firmware header, read from its 512 bytes, all fields big-endian (R12, R529, R530); the SHA-384 of KEY and the verdict on SIG
are what the security functions find. -/
def readFwHeader (data : List Byte) (keyHash : Nat) (signatureOk : Bool) : FwHeader :=
  let m := memWrite [] 0 data
  let w0 := beWord m 0
  let w1 := beWord m 8
  let w2 := beWord m 16
  let gap (k : Nat) : Bool := decide (bits (beWord m (64 + 64 * k)) 55 48 = 0) && decide (bits (beWord m (64 + 64 * k)) 31 0 = 0)
  { magic := bits w0 63 32, format := bits w0 31 24, version := bits w1 63 32, build := bits w1 31 0, payloadLength := bits w2 63 32,
    reservedZero := decide (bits w0 23 0 = 0) && decide (bits w2 31 0 = 0) && decide (beValue (memRead m 24 40) = 0) &&
      (List.range 3).all gap && decide (beValue (memRead m 353 31) = 0) && decide (beValue (memRead m 480 32) = 0),
    components := (List.range 3).map (readFwPart m), keyHash := keyHash, sig := beValue (memRead m 384 96), signatureOk := signatureOk }

/-- FW_OPEN (R470, R525, R532, R533). -/
def Device.fwOpen (d : Device) (who : Nat) (data : List Byte) (keyHash : Nat) (signatureOk : Bool) : Device :=
  d.cmd who 0x0050 .owner fun d =>
    let s := d.sec
    let h := readFwHeader data keyHash signatureOk
    if data.length ≠ 512 then (stLength, [], d)
    else if !h.reservedZero then (stReserved, [], d)
    else if !h.fieldsOk then (stFieldRange, [], d)
    else if !h.offsetsOk then (stAlignment, [], d)
    else
      let same := decide (s.fw.st ≠ .none) && decide (s.fw.header = some h)
      if s.activation.isSome ∨ ((s.fw.st = .receiving ∨ s.fw.st = .writing) ∧ !same) then (stWrongState, [], d)
      else if same then
        let d := if s.fw.st = .failed then d.startWriting else d
        (stOK, [d.sec.fwCode], d)
      else if h.keyHash ≠ s.vendorAnchor then (stNotAuthorised, [], d)
      else if !h.signatureOk then
        (stSignature, [], d.secFlag fun s => { s with sigFailCount := satInc s.sigFailCount, sigFail := true })
      else if !s.svnsOk h || (decide (s.mode ≠ .recovery) && decide (h.version < s.fwVersion)) then
        (stRollback, [], d.secFlag fun s => { s with rollback := true })
      else
        let d := d.updSec fun s =>
          { s with fw := { FwConv.reset with st := .receiving, header := some h, touchedAt := d.real } }
        (stOK, [d.sec.fwCode], d)

/-- A component is complete (R534). -/
def FwConv.partFull (c : FwConv) (p : FwComponent) : Bool :=
  (List.range (p.length / 64)).all fun i => c.units.contains (p.offset / 64 + i)

/-- A component that is complete is hashed (R534). -/
def Device.fwPart (d : Device) (k digest : Nat) (p : FwComponent) : Nat × List Nat × Device :=
  if !d.sec.fw.partFull p then (stOK, [], d)
  else if digest = p.digest then
    let d := d.updSec fun s => { s with fw := { s.fw with verified := s.fw.verified ||| 2 ^ k } }
    (stOK, [], if d.sec.fw.verified = 7 then d.startWriting else d)
  else
    let d := d.updSec fun s => { s with fw := { s.fw with
      units := s.fw.units.filter fun u => !(decide (p.offset / 64 ≤ u) && decide (u < (p.offset + p.length) / 64)) } }
    (stDigest, [p.type], d)

/-- FW_BLOCK (R465, R534). `digest` is the SHA-384 of the component as it stands with the block. (DEDUCED, assumption log
84.) -/
def Device.fwBlock (d : Device) (who version build off length : Nat) (data : List Byte) (digest : Nat) : Device :=
  d.cmd who 0x0051 .owner fun d =>
    let c := d.sec.fw
    match c.header with
    | none => (stWrongState, [], d)
    | some h =>
      if h.version ≠ version ∨ h.build ≠ build then (stWrongState, [], d)
      else if length = 0 ∨ length = 0xFFFF ∨ (d.session who).blockSize < length ∨ length ≠ data.length ∨
          h.payloadLength < off + length then (stLength, [], d)
      else if h.partAt off ≠ h.partAt (off + length - 1) then (stLength, [], d)
      else if off % 64 ≠ 0 ∨ length % 64 ≠ 0 then (stAlignment, [], d)
      else if c.st ≠ .receiving then (stWrongState, [], d)
      else
        let k := h.partAt off
        let d := d.updSec fun s => { s with fw := { s.fw with touchedAt := d.real } }
        if bit c.verified k then (stOK, [], d)
        else
          let us := (List.range (length / 64)).map fun i => off / 64 + i
          let d := d.updSec fun s => { s with fw := { s.fw with
            buf := memWrite s.fw.buf off data, units := s.fw.units ++ us.filter fun u => !s.fw.units.contains u } }
          d.fwPart k digest (h.part k)

/-- Q of an activation as the reply gives it: a Meridian value, or 0 until it is known (R540). -/
def Device.qWord (d : Device) : Nat := match d.sec.activation with
  | some a => match a.q with | some q => merOf q | none => 0
  | none => 0

/-- FW_STATUS (R536, R540): state, VERSION, BUILD, bytes received, components verified, bytes written, failure status, Q. -/
def Device.fwStatus (d : Device) (who version build : Nat) : Device :=
  d.cmd who 0x0052 .observer fun d =>
    let c := d.sec.fw
    match c.header with
    | some h =>
      if h.version = version ∧ h.build = build ∧ c.st ≠ .none then
        (stOK, [d.sec.fwCode, h.version, h.build, 64 * c.units.length, c.verified, c.flashWritten, c.failStatus, d.qWord], d)
      else (stOK, [0], d)
    | none => (stOK, [0], d)

/-- FLASH_WRITE_COMPLETE (R533, R535): every component read back and both directory copies written, or a second mismatch or
a flash error. -/
def execFlashWriteComplete (ok : Bool) (s : State) : Host.Outcome State Fault Refusal :=
  .next (s.upd fun d =>
    if d.sec.fw.st ≠ .writing then d
    else if ok then d.updSec fun s =>
      { s with flashTorn := false, flashGen := s.flashGen + 1,
               fw := { s.fw with st := .staged,
                                 flashWritten := match s.fw.header with | some h => h.payloadLength | none => 0 } }
    else d.updSec fun s => { s with fw := { s.fw with st := .failed, failStatus := stInternal } })

/-! ### Activation (R343, R540) -/

/-- A stream under drain ends with the batch in flight (R314, R343): its entries go at the first frame boundary at least
1 ms after that batch ends. -/
def Device.endStream (d : Device) (s : Nat) : Device :=
  let x := d.stream s
  if x.st = .free ∨ x.st = .releasing then d
  else
    let end_ := if x.almanac = 0 then d.clk.now else beatStartNo x.almanac (beatNo x.almanac d.clk.now + 1)
    d.updStream s fun x => { x with st := .releasing, removeFrame := ceilDiv (end_ + 1966080) tcPerFrame }

/-- An ACTIVATE that is accepted (R540). (DEDUCED, assumption log 86.) -/
def Device.beginActivation (d : Device) (option limit : Nat) : Device :=
  let now := d.clk.now
  let put (a : Activation) (d : Device) : Device := d.updSec fun s => { s with activation := some a }
  if d.sec.mode = .recovery then put { drain := true, q := some now, limitAt := now } d
  else
    let d : Device := { d with adm := { d.adm with closed := true, draining := true } }
    let live := d.liveStreams
    if option = 0 then
      let d := put { drain := true, q := none, limitAt := now + msTc limit } d
      let d := forEach live (fun s d => d.endStream s) d
      let d := if live = [] then d
        else d.notice 0x05 kEnded unitPackage (live.map fun s => (s, (d.stream s).st.code, (d.stream s).nextSeq))
      d.settleDrain
    else
      let d := put { drain := false, q := some (boundaryFrom (now + msTc 2)), limitAt := now } d
      (forEach live (fun s d => d.toReleasing s) d).breach 0x05 unitPackage live

/-- ACTIVATE (R540). (DEDUCED, assumption log 86.) -/
def Device.activateFw (d : Device) (who option limit : Nat) (reservedZero : Bool) : Device :=
  d.cmd who 0x0053 .owner fun d =>
    if !reservedZero then (stReserved, [], d)
    else if 1 < option ∨ (option = 0 ∧ (limit < 1 ∨ 10000 < limit)) then (stFieldRange, [], d)
    else if d.sec.fw.st ≠ .staged then (stWrongState, [], d)
    else if d.sec.activation.isSome then (stBusy, [], d)
    else
      let d := d.beginActivation option limit
      (stOK, [d.qWord], d)

/-- DRAIN_LIMIT_EXPIRY (R540, R342): streams not yet FREE are breached, and Q is the next frame boundary. -/
def execDrainLimitExpiry (s : State) : Host.Outcome State Fault Refusal :=
  .next (s.upd fun d => match d.sec.activation with
    | some a =>
      if a.drain ∧ a.q.isNone ∧ a.limitAt ≤ d.clk.now then
        (d.updSec fun s => { s with activation := some { a with q := some (boundaryFrom d.clk.now) } }).breach 0x05 unitPackage
          d.liveStreams
      else d
    | none => d)

/-! ### Attestation (R519) -/

/-- Dies in service, as a bit set. -/
def Device.liveDies (d : Device) : Nat :=
  maskOf ((List.range d.dieCount).filter fun n => d.dieLive n && decide ((d.die n).dm = .inService))

/-- The fields of the statement of R519 in order; the signature is a free value. (DESIGN CHOICE, assumption log 20.) -/
def Device.attest (d : Device) (who length nonce : Nat) : Device :=
  d.cmd who 0x0054 .observer fun d =>
    if length ≠ 32 then (stLength, [], d)
    else
      let s := d.sec
      let hdr := 2 ^ 24 + s.lifeCode * 2 ^ 22 + s.mode.code * 2 ^ 20 + s.grade * 2 ^ 16 + d.liveDies * 2 ^ 8
      let (sig, d) := takeFree 768 d
      (stOK, [d.tb.st.code, hdr, s.anchorWord, s.deviceId, d.pab.bootId, d.mer, nonce, svnWord s.svnRun, svnWord s.arb,
              s.fwVersion, s.fwBuild, s.measLoader, s.measHub, s.measDie, sig], d)

/-! ### Anchors (R511 to R515) -/

def Security.setAnchor (s : Security) (i : Nat) (f : Anchor → Anchor) : Security :=
  { s with anchors := s.anchors.modify i f }

/-- A burn fails (R514, R526). (DESIGN CHOICE, assumption log 37.) -/
def Device.burnFailed (d : Device) : Device :=
  d.secFlag fun s => { s with otpBurnFailCount := satInc s.otpBurnFailCount, otpBurnFail := true }

/-- ANCHOR_SET with OP 0 that passes its checks (R512, R514): hash, CEILING and PRESENT are burned in this order; `burned`
of them succeed. -/
def Device.setAnchor (d : Device) (b : AnchorBody) (burned : Nat) : Nat × List Nat × Device :=
  if burned < 3 then
    (stInternal, [], (d.updSec fun s => s.setAnchor b.slot fun a =>
      { a with lost := true, hash := if 1 ≤ burned then b.hash else a.hash,
               ceiling := if burned = 2 then b.ceiling else a.ceiling }).burnFailed)
  else (stOK, [], d.updSec fun s =>
    { s.setAnchor b.slot fun a => { a with hash := b.hash, ceiling := b.ceiling, present := true } with
      lifecycle := .owned, claim := false })

/-- The last slot in force with CEILING 0 (R513). -/
def Security.lastOwner (s : Security) (slot : Nat) : Bool :=
  decide ((s.anchor slot).ceiling = 0) &&
    (List.range 4).all fun i => decide (i = slot) || !(s.anchor i).inForce || decide ((s.anchor i).ceiling ≠ 0)

/-- The checks of ANCHOR_SET in their order (R512, R513). -/
def Device.anchorCheck (d : Device) (who : Nat) (b : AnchorBody) : Option Nat :=
  let s := d.sec
  let a := s.anchor b.slot
  if s.claim ∧ ¬ (b.op = 0 ∧ b.slot = 0 ∧ b.ceiling = 0 ∧ b.hash = (d.session who).root) then some stNotAuthorised
  else if (b.op = 0 ∧ b.length ≠ 56) ∨ (b.op = 1 ∧ b.length ≠ 8) then some stLength
  else if !b.reservedZero then some stReserved
  else if 1 < b.op then some stFieldRange
  else if b.op = 0 then (if a.present ∨ a.lost then some stWrongState else none)
  else if !a.inForce || decide ((d.session who).anchor = b.slot) || s.lastOwner b.slot then some stWrongState
  else none

/-- ANCHOR_SET (R512 to R515). The session of a claim closes after its reply; so do the sessions rooted in a revoked slot.
The spec gives the first of these closings no reason: it is a free value. (DESIGN CHOICE, assumption log 19, DEDUCED,
assumption log 83.) -/
def Device.anchorSet (d : Device) (who : Nat) (b : AnchorBody) (burned : Nat) : Device :=
  let claim := d.sec.claim
  let was := (d.sec.anchor b.slot).revoked
  let d := d.cmd who 0x0055 .owner fun d =>
    match d.anchorCheck who b with
    | some st => (st, [], d)
    | none =>
      if b.op = 0 then d.setAnchor b burned
      else if burned = 0 then (stInternal, [], d.burnFailed)
      else (stOK, [], d.updSec fun s => s.setAnchor b.slot fun a => { a with revoked := true })
  if claim && !d.sec.claim then
    let (reason, d) := takeFree 32 d
    d.closeSession who reason
  else if !was && (d.sec.anchor b.slot).revoked then
    forEach ((List.range 8).filter fun n => (d.session n).inUse && decide ((d.session n).anchor = b.slot))
      (fun n d => d.closeSession n 2) d
  else d

/-! ### Keys (R520) -/

/-- MKA ends on ports that no CAK serves any more (R498, R520). (DEDUCED, assumption log 84.) -/
def Device.endMka (d : Device) : Device :=
  forEach ((List.range 16).filter fun p => decide (d.caksOf p = [])) (fun p d => d.sakLost p) d

/-- KEY_SET (R520). A record of a CKN the port already holds is replaced. (DEDUCED, assumption log 84.) -/
def Device.keySet (d : Device) (who : Nat) (b : KeyBody) : Device :=
  d.cmd who 0x0056 .owner fun d =>
    let store := d.sec.keystore
    let mine (k : CakRecord) : Bool := decide (k.port = b.port) && decide (k.ckn = b.ckn)
    let put (l : List CakRecord) (d : Device) : Device :=
      d.updSec fun s => { s with keystore := l, keystoreWrites := s.keystoreWrites + 1 }
    if (b.op = 0 ∧ b.length ≠ 72) ∨ ((b.op = 1 ∨ b.op = 2) ∧ b.length ≠ 40) then (stLength, [], d)
    else if !b.reservedZero then (stReserved, [], d)
    else if 2 < b.op ∨ (b.op ≠ 2 ∧ (15 < b.port ∨ b.cknLen < 1 ∨ 32 < b.cknLen)) then (stFieldRange, [], d)
    else if b.op = 2 then (stOK, [], (put [] d).endMka)
    else if b.op = 1 then
      if store.any mine then (stOK, [], (put (store.filter fun k => !mine k) d).endMka) else (stWrongState, [], d)
    else
      let rest := store.filter fun k => !mine k
      if 2 ≤ (rest.filter fun k => k.port = b.port).length then (stNoCapacity, [], d)
      else (stOK, [], put (rest ++ [{ port := b.port, ckn := b.ckn, cak := b.cak, prio := b.prio,
                                      debugKey := d.sec.mode = .debug }]) d)

/-! ### Debug lock (R543) -/

/-- DEBUG_UNLOCK (R543, R544). A token with another MAGIC is taken as a field out of range. (DEDUCED, assumption log 84.) -/
def Device.debugUnlock (d : Device) (who : Nat) (t : DebugToken) : Device :=
  d.cmd who 0x0057 .owner fun d =>
    if t.length ≠ 256 then (stLength, [], d)
    else if !t.reservedZero || decide (3 < t.scope) then (stReserved, [], d)
    else if t.magic ≠ 0xD0F1DB60 ∨ t.deviceId ≠ d.sec.deviceId ∨ t.bootId ≠ d.pab.bootId then (stFieldRange, [], d)
    else if t.keyHash ≠ d.sec.vendorAnchor then (stNotAuthorised, [], d)
    else if !t.signatureOk then (stSignature, [], d)
    else (stOK, [], d.updSec fun s => { s with debugNext := some t.scope })

/-! ### TRNG (R523) and migration (R542) -/

/-- TRNG_HEALTH_FAIL (R523). -/
def execTrngHealthFail (s : State) : Host.Outcome State Fault Refusal :=
  .next (s.upd fun d => d.secFlag fun x =>
    { x with trngWarn := true, trngFailCount := satInc x.trngFailCount,
             retestFails := if x.drbgStopped then x.retestFails else 0, retestAt := if x.drbgStopped then x.retestAt else d.real,
             drbgStopped := true })

/-- Every session closes, with a reason the spec does not give (R523). (DESIGN CHOICE, assumption log 19.) -/
def Device.closeAll (d : Device) : Device :=
  let (reason, d) := takeFree 32 d
  forEach (List.range 8) (fun n d => d.closeSession n reason) d

/-- ERROR at run time (R522, R523): no session, no SAK, no report; admitted streams go on. (DESIGN CHOICE, assumption log
85.) -/
def Device.enterError (d : Device) : Device :=
  let d : Device := (d.updSec fun x => { x with mode := .error }).closeAll
  let d := forEach (List.range 16) (fun p d => d.sakLost p) d
  { d with start := { d.start with st := .error }, bcp := { d.bcp with handshakes := [] } }

/-- TRNG_RETEST (R523), 1 s after the test before: the 60th failure in a row enters ERROR. -/
def execTrngRetest (pass : Bool) (s : State) : Host.Outcome State Fault Refusal :=
  .next (s.upd fun d =>
    if !d.sec.drbgStopped || !d.ranOut d.sec.retestAt (msTc 1000) then d
    else if pass then d.updSec fun x => { x with drbgStopped := false, retestFails := 0 }
    else
      let d := d.updSec fun x => { x with retestFails := x.retestFails + 1, retestAt := d.real }
      if d.sec.retestFails = 60 then d.enterError else d)

/-- MIGRATION_COMPLETE (R542). -/
def execMigrationComplete (s : State) : Host.Outcome State Fault Refusal :=
  .next (s.upd fun d => d.updSec fun x => { x with migrating := false })

end Sys2Proof.Machine
end

