-- ==== Sys2Proof/Machine/Tests.lean ====
section
/-! DEFINITION. Tests of tiles and regions (R248 to R253, R429, R431, R440 to R444): due, started, ended, overdue. -/
namespace Sys2Proof.Machine

/-- A test's place in its unit's full test set (R440, R441): its code, with the ADC pair of an ADCLIN (`part` is
32 × pair, plus 1 to 16 in parts) and the rows or the page of a READBACK, MARCH or FWMARCH. -/
def testKey (code part : Nat) : Nat := if code = 3 then code + 16 * (part / 32) else code + 16 * part

/-- The full test set of a tile and of a region (R440): 32 groups of 16 rows, 66 ADC pairs, 24 scratch pages and 8
pages of fast-weight SRAM. -/
def tileSet : List Nat :=
  [testKey 1 0, testKey 4 0] ++ ((List.range 32).map fun i => testKey 2 i) ++ (List.range 66).map fun i => testKey 3 (32 * i)
def regionSet : List Nat :=
  [testKey 5 0, testKey 8 0] ++ ((List.range 24).map fun i => testKey 6 i) ++ (List.range 8).map fun i => testKey 7 i

/-- A part of an ADCLIN that gives no verdict: any but the sixteenth (R441). -/
def partOnly (code part : Nat) : Bool := code = 3 && part % 32 ≠ 0 && part % 32 ≠ 16

/-- Codes of a set that are still missing, as a mask (R442). -/
def missingCodes (all done : List Nat) : Nat := maskOf ((all.filter fun k => !done.contains k).map fun k => k % 16)

/-- The unit of a test is a physical tile, or a region, of the grade. -/
def Device.testUnit (d : Device) (unit code : Nat) : Bool :=
  decide (unitCheck d unit = stOK) &&
    if code ≤ 4 then unitLevel unit = 0 && unitPhys unit else unitLevel unit = 2

/-- The region whose queue takes a unit's tests. -/
def testRegion (unit : Nat) : Nat := unitRegionOf unit

/-- TEST_DUE (R248, R440 to R443): the test is posted with its declared length. -/
def Device.testDue (d : Device) (unit code part : Nat) : Device :=
  if 1 ≤ code ∧ code ≤ 8 ∧ d.testUnit unit code then
    d.postTest (testRegion unit) unit code part
      (testLen code (decide (part % 32 ≠ 0)) (if unitLevel unit = 0 then (d.tile (unitPtOf unit)).sight.loopPeriod else 0))
  else d

/-- Space of time, in µs, that a wait still has. -/
def Device.waitRoom (d : Device) (r : Nat) : Nat :=
  match (d.region r).wait with
  | some (.until_ t) => (t - d.clk.now) * 100 / 196608
  | some (.beat t) => (t - d.clk.now) * 100 / 196608
  | none => 0

/-- Starts of a region's activations that the Almanac holds next, in Tc from frame 0 (R224, R250). -/
def Device.startsIn (d : Device) (r : Nat) : List Nat :=
  d.liveStreams.flatMap fun s =>
    let x := d.stream s
    (x.starts.filter fun st => (x.programs[st.prog]?.map fun p => p.region) = some r).map fun st => d.nextStart s st

/-- A time, in µs, fits before the region's next activation start (R250). -/
def Device.fitsIdle (d : Device) (r us : Nat) : Bool := (d.startsIn r).all fun t => decide (d.clk.now + usTc us ≤ t)

/-- TEST_START (R248, R250): the oldest test, whose code the command names, starts at an idle sequencer, or in a wait, when its
length and 2 µs fit. -/
def Device.testStart (d : Device) (r code : Nat) : Device :=
  let g := d.region r
  match g.tests with
  | [] => d
  | t :: rest =>
    let fits := (g.regs.st = .idle && d.fitsIdle r (t.len + 2)) ||
      (g.regs.st = .running && g.wait.isSome && decide (t.len + 2 ≤ d.waitRoom r))
    if t.code = code ∧ fits then
      d.updRegion r fun g =>
        { g with tests := rest, running := some t, yieldedFrom := false, regs := { g.regs with st := .yielded } }
    else d

/-- The region leaves YIELDED: issue goes on, or the sequencer is IDLE, and kept causes are taken at the boundary
(R249, R256, R260). -/
def Device.leaveYield (d : Device) (r : Nat) : Device :=
  let d := d.updRegion r fun g =>
    { g.fromYield d.nowCycle with
             running := none, yieldedFrom := false, regs := { g.regs with st := if g.active then .running else .idle } }
  (d.takeKept r).resume r

/-- An observed tile or region that has passed enough test sets is NORMAL again (R431). -/
def Device.tilePassed (d : Device) (p key : Nat) : Device :=
  let d := d.updTile p fun t =>
    { t with check := { t.check.restart with setDone := if t.check.setDone.contains key then t.check.setDone else key :: t.check.setDone } }
  let k := (d.tile p).check
  if !(tileSet.all fun x => k.setDone.contains x) then d
  else
    let d := d.updTile p fun t => { t with check := { t.check with setDone := [], setFull := true, passes := t.check.passes + 1 } }
    if k.health = .observed ∧ d.flt.obsClear ≤ k.passes + 1 then
      (d.updTile p fun t =>
        { t with check := { t.check with health := .normal, passes := 0, obsEndedAt := some d.real } }).faultTile p k.obsEvent
          0x2 0
    else d

/-- The same of a region; a full set after a region reset lets the region's streams resume (R434). -/
def Device.regionPassed (d : Device) (r key : Nat) : Device :=
  let d := d.updRegion r fun g => { g with setDone := if g.setDone.contains key then g.setDone else key :: g.setDone }
  let g := d.region r
  if !(regionSet.all fun x => g.setDone.contains x) then d
  else
    let d := d.updRegion r fun g => { g with setDone := [], setFull := true, passes := g.passes + 1 }
    let d :=
      if g.health = .observed ∧ d.flt.obsClear ≤ g.passes + 1 then
        (d.updRegion r fun g => { g with health := .normal, passes := 0, obsEndedAt := some d.real }).faultRegion r g.obsEvent
          0x2 0
      else d
    if g.lost ∧ g.regs.st ≠ .quarantined then
      ((d.updRegion r fun g => { g with lost := false }).reloadRegion r).restore 0x12 (unitRegion r) (d.streamsOfRegion r)
    else d

/-- The result of a test (R429, R431, R444). (DEDUCED, assumption log 59, DEDUCED, assumption log 60.) -/
def Device.testResult (d : Device) (t : TestEntry) (pass : Bool) (detail : Nat) : Device :=
  if partOnly t.code t.part then d
  else if unitLevel t.unit = 0 then
    let p := unitPtOf t.unit
    if pass then d.tilePassed p (testKey t.code t.part)
    else ((d.updTile p fun x => { x with adcBad := x.adcBad || decide (t.code = 3) }).updFlt fun f => { f with testFailF := true }).faultyTile p 0x07 (t.code + 256 * detail)
  else if pass then d.regionPassed (testRegion t.unit) (testKey t.code t.part)
  else (d.updFlt fun f => { f with testFailF := true }).faultyRegion (testRegion t.unit) 0x07 (t.code + 256 * detail)

/-- TEST_END (R249, R444): the test under way ends, its result counts, and the region goes
on; an abandoned test has no result. -/
def Device.testEnd (d : Device) (r : Nat) (pass : Bool) (detail : Nat) : Device :=
  match (d.region r).running with
  | none => if (d.region r).regs.st = .yielded then d.leaveYield r else d
  | some t =>
    let d := (d.updRegion r fun g => { g with running := none }).testResult t pass detail
    if (d.region r).regs.st = .yielded then d.leaveYield r else d

/-- YIELD_OFFER_EXPIRY (R249): the offer has passed since the yield. Issue resumes; a test still running is abandoned. -/
def Device.offerEnds (d : Device) (r : Nat) : Device :=
  if (d.region r).regs.st = .yielded ∧ (d.region r).yieldedFrom ∧ (d.region r).offerEnd ≤ d.real then (d.abandonTest r).leaveYield r else d

/-- The hold period of a region in µs: the largest PS_HOLD of its VALID slots, none without one (R253). -/
def Region.holdPeriod (g : Region) : Option Nat := ((g.ps.filter fun e => e.2.st = .valid).map fun e => e.2.hold).max?

/-- Two hold periods have passed since a test fell due (R253). In a region without a VALID slot, whose sequencer is idle, no test
is overdue. (DEDUCED, assumption log 61.) -/
def Device.pastHold (d : Device) (r : Nat) (t : TestEntry) : Bool :=
  (d.region r).holdPeriod.any fun h => decide (t.dueAt + usTc (2 * h) ≤ d.real)

/-- TEST_OVERDUE (R253): the test stays in its place. -/
def Device.testOverdue (d : Device) (r index : Nat) : Device :=
  match (d.region r).tests[index]? with
  | none => d
  | some t =>
    if t.overdue ∨ ¬ d.pastHold r t then d
    else
      let d := d.updRegion r fun g => { g with tests := g.tests.set index { t with overdue := true } }
      (d.updSeq r fun q => { q with testOverdueF := true, testOverdueCount := satInc q.testOverdueCount }).fault
        (d.testUnitL t.unit) t.unit 0x08 0 t.code

/-- A unit's test period, shorter under observation (R431, R442). -/
def Device.testPeriodTc (d : Device) (h : Health) : Nat :=
  msTc (60000 * d.flt.testPeriod) / if h = .observed then d.flt.obsFactor else 1

/-- The test period of a dressed tile has ended (R442). -/
def Device.tilePeriodOver (d : Device) (p : Nat) : Bool :=
  let t := d.tile p
  t.dress.dressed && d.ranOut (max t.check.periodAt (t.dress.dressedAt.getD 0)) (d.testPeriodTc t.check.health)

/-- The test period of a region has ended (R442). -/
def Device.regionPeriodOver (d : Device) (r : Nat) : Bool := d.ranOut (d.region r).periodAt (d.testPeriodTc (d.region r).health)

/-- TEST_PERIOD_END (R431, R442): where no full set was passed in the period, the codes still missing are reported. -/
def Device.testPeriodEnd (d : Device) (unit : Nat) : Device :=
  if unitCheck d unit ≠ stOK then d
  else if unitLevel unit = 0 then
    let p := unitPtOf unit
    if !d.tilePeriodOver p then d
    else
      let k := (d.tile p).check
      let d := d.updTile p fun t => { t with check := { t.check with periodAt := d.real, setFull := false } }
      if k.setFull then d else d.faultTile p 0x08 0 (missingCodes tileSet k.setDone)
  else if unitLevel unit = 2 then
    let r := testRegion unit
    if !d.regionPeriodOver r then d
    else
      let g := d.region r
      let d := d.updRegion r fun g => { g with periodAt := d.real, setFull := false }
      if g.setFull then d else d.faultRegion r 0x08 0 (missingCodes regionSet g.setDone)
  else d

/-- Statistics slots of a region whose misfits or non-finite elements rose by more than STAT_TRIG per mille of their
tokens within a second: a CHECK and a READBACK fall due on every tile of the stream in the region (R443). -/
def Device.statTrigger (d : Device) (r : Nat) : Device :=
  forEach ((d.region r).stats.map fun e => e.1) (fun n d =>
    let s := tget .reset (d.region r).stats n
    let base (s : StatSlot) : StatSlot :=
      { s with trigAt := d.real, trigTokens := s.tokenCount, trigMisfit := s.misfitCount, trigNonfin := s.nonfinCount }
    let over_ (now was : Nat) : Bool := decide (d.flt.statTrig * s.tokenCount < (now - was) * 1000)
    if !s.en then d
    else if over_ s.misfitCount s.trigMisfit || over_ s.nonfinCount s.trigNonfin then
      let st := s.tag % 256
      let ts := (d.stream st).tiles.filterMap fun e => if ltRegion e.1 = r then d.physOf e.1 else none
      let d := d.updRegion r fun g => { g with stats := tset g.stats n (base s) }
      let d := forEach ts (fun p d => (d.postTileTest p 1).postTileTest p 2) d
      if ts = [] then d else d.faultRec (unitRegion r) (unitRegion r + 2 ^ 28) 0x0D 0 1 n st
    else if s.trigAt + msTc 1000 ≤ d.real then d.updRegion r fun g => { g with stats := tset g.stats n (base s) }
    else d) d

/-- TEST_DUE (R248, R442, R443). -/
def execTestDue (unit code part : Nat) (s : State) : Host.Outcome State Fault Refusal :=
  .next (s.upd fun d => d.testDue unit code part)

/-- TEST_START (R250). -/
def execTestStart (r code : Nat) (s : State) : Host.Outcome State Fault Refusal := .next (s.upd fun d => d.testStart r code)

/-- TEST_END (R249, R444). -/
def execTestEnd (r : Nat) (pass : Bool) (detail : Nat) (s : State) : Host.Outcome State Fault Refusal :=
  .next (s.upd fun d => d.testEnd r pass detail)

/-- YIELD_OFFER_EXPIRY (R249). -/
def execYieldOfferExpiry (r : Nat) (s : State) : Host.Outcome State Fault Refusal := .next (s.upd fun d => d.offerEnds r)

/-- TEST_OVERDUE (R253). -/
def execTestOverdue (r index : Nat) (s : State) : Host.Outcome State Fault Refusal :=
  .next (s.upd fun d => d.testOverdue r index)

/-- TEST_PERIOD_END (R442). -/
def execTestPeriodEnd (unit : Nat) (s : State) : Host.Outcome State Fault Refusal := .next (s.upd fun d => d.testPeriodEnd unit)

end Sys2Proof.Machine
end

