-- ==== Sys2Proof/Machine/Finern.lean ====
section
/-! DEFINITION. The Finern commands, each one slot of a bundle (R266 to R313), and the events of the sequencer that act
on issue. -/
namespace Sys2Proof.Machine

/-- A region reset that was asked for takes place at the bundle boundary (R41). -/
def Device.boundary (d : Device) (r : Nat) : Device :=
  if (d.region r).resetAsked ∧ (d.region r).staged = [] then d.resetRegion r else d

/-- A slot instruction arrives in a region of the grade; at the bundle's end a reset asked for takes place and the
statistics are judged (R41, R237, R443). -/
def Device.finern (d : Device) (r : Nat) (g : Guard) (last : Bool) (op : SlotOp) (ecc : Ecc := .clean) : Device :=
  if r < 6 * d.dieCount then ((d.slot r g last op ecc).boundary r).statTrigger r else d

/-- NOP (R268, R271): the slot of class `cls` is all zero. Its `ecc` is that of the bundle's fetch (R236). -/
def execNop (r : Nat) (g : Guard) (last : Bool) (_cls : Nat) (ecc : Ecc) (s : State) : Host.Outcome State Fault Refusal :=
  .next (s.upd fun d => d.finern r g last .nop ecc)

/-- BR (R271). -/
def execBr (r : Nat) (g : Guard) (last : Bool) (target : Nat) (s : State) : Host.Outcome State Fault Refusal :=
  .next (s.upd fun d => d.finern r g last (.br target))

/-- BRC (R271). -/
def execBrc (r : Nat) (g : Guard) (last : Bool) (rs cond : Nat) (off : Int) (s : State) :
    Host.Outcome State Fault Refusal :=
  .next (s.upd fun d => d.finern r g last (.brc rs cond off))

/-- CALL (R273). -/
def execCall (r : Nat) (g : Guard) (last : Bool) (target : Nat) (s : State) : Host.Outcome State Fault Refusal :=
  .next (s.upd fun d => d.finern r g last (.call target))

/-- RET (R271). -/
def execRet (r : Nat) (g : Guard) (last : Bool) (s : State) : Host.Outcome State Fault Refusal :=
  .next (s.upd fun d => d.finern r g last .ret)

/-- LOOP_I (R271). -/
def execLoopI (r : Nat) (g : Guard) (last : Bool) (count : Nat) (s : State) : Host.Outcome State Fault Refusal :=
  .next (s.upd fun d => d.finern r g last (.loopI count))

/-- LOOP_R (R271). -/
def execLoopR (r : Nat) (g : Guard) (last : Bool) (rs : Nat) (s : State) : Host.Outcome State Fault Refusal :=
  .next (s.upd fun d => d.finern r g last (.loopR rs))

/-- LOOP_E (R274). -/
def execLoopE (r : Nat) (g : Guard) (last : Bool) (s : State) : Host.Outcome State Fault Refusal :=
  .next (s.upd fun d => d.finern r g last .loopE)

/-- WAITM (R245). -/
def execWaitm (r : Nat) (g : Guard) (last : Bool) (rs : Nat) (s : State) : Host.Outcome State Fault Refusal :=
  .next (s.upd fun d => d.finern r g last (.waitM rs))

/-- WAITB (R246). -/
def execWaitb (r : Nat) (g : Guard) (last : Bool) (s : State) : Host.Outcome State Fault Refusal :=
  .next (s.upd fun d => d.finern r g last .waitB)

/-- YIELD_TEST (R249). -/
def execYieldTest (r : Nat) (g : Guard) (last : Bool) (offer : Nat) (s : State) : Host.Outcome State Fault Refusal :=
  .next (s.upd fun d => d.finern r g last (.yieldTest offer))

/-- SEAL (R278). -/
def execSeal (r : Nat) (g : Guard) (last : Bool) (s : State) : Host.Outcome State Fault Refusal :=
  .next (s.upd fun d => d.finern r g last .seal)

/-- HALT (R225). -/
def execHalt (r : Nat) (g : Guard) (last : Bool) (s : State) : Host.Outcome State Fault Refusal :=
  .next (s.upd fun d => d.finern r g last .halt)

/-- TRAP (R279). -/
def execTrap (r : Nat) (g : Guard) (last : Bool) (code : Nat) (s : State) : Host.Outcome State Fault Refusal :=
  .next (s.upd fun d => d.finern r g last (.trap code))

/-- ALU_ADD (R275). -/
def execAluAdd (r : Nat) (g : Guard) (last : Bool) (rd rs : Nat) (s : State) : Host.Outcome State Fault Refusal :=
  .next (s.upd fun d => d.finern r g last (.alu .add rd rs))

/-- ALU_SUB (R275). -/
def execAluSub (r : Nat) (g : Guard) (last : Bool) (rd rs : Nat) (s : State) : Host.Outcome State Fault Refusal :=
  .next (s.upd fun d => d.finern r g last (.alu .sub rd rs))

/-- ALU_AND (R275). -/
def execAluAnd (r : Nat) (g : Guard) (last : Bool) (rd rs : Nat) (s : State) : Host.Outcome State Fault Refusal :=
  .next (s.upd fun d => d.finern r g last (.alu .and rd rs))

/-- ALU_OR (R275). -/
def execAluOr (r : Nat) (g : Guard) (last : Bool) (rd rs : Nat) (s : State) : Host.Outcome State Fault Refusal :=
  .next (s.upd fun d => d.finern r g last (.alu .or rd rs))

/-- ALU_XOR (R275). -/
def execAluXor (r : Nat) (g : Guard) (last : Bool) (rd rs : Nat) (s : State) : Host.Outcome State Fault Refusal :=
  .next (s.upd fun d => d.finern r g last (.alu .xor rd rs))

/-- ALU_SHL (R275). -/
def execAluShl (r : Nat) (g : Guard) (last : Bool) (rd rs : Nat) (s : State) : Host.Outcome State Fault Refusal :=
  .next (s.upd fun d => d.finern r g last (.alu .shl rd rs))

/-- ALU_SHR (R275). -/
def execAluShr (r : Nat) (g : Guard) (last : Bool) (rd rs : Nat) (s : State) : Host.Outcome State Fault Refusal :=
  .next (s.upd fun d => d.finern r g last (.alu .shr rd rs))

/-- ALU_SAR (R275). -/
def execAluSar (r : Nat) (g : Guard) (last : Bool) (rd rs : Nat) (s : State) : Host.Outcome State Fault Refusal :=
  .next (s.upd fun d => d.finern r g last (.alu .sar rd rs))

/-- ALU_MUL (R275). -/
def execAluMul (r : Nat) (g : Guard) (last : Bool) (rd rs : Nat) (s : State) : Host.Outcome State Fault Refusal :=
  .next (s.upd fun d => d.finern r g last (.alu .mul rd rs))

/-- ALU_MIN (R275). -/
def execAluMin (r : Nat) (g : Guard) (last : Bool) (rd rs : Nat) (s : State) : Host.Outcome State Fault Refusal :=
  .next (s.upd fun d => d.finern r g last (.alu .min rd rs))

/-- ALU_MAX (R275). -/
def execAluMax (r : Nat) (g : Guard) (last : Bool) (rd rs : Nat) (s : State) : Host.Outcome State Fault Refusal :=
  .next (s.upd fun d => d.finern r g last (.alu .max rd rs))

/-- ALU_MINU (R275). -/
def execAluMinu (r : Nat) (g : Guard) (last : Bool) (rd rs : Nat) (s : State) : Host.Outcome State Fault Refusal :=
  .next (s.upd fun d => d.finern r g last (.alu .minu rd rs))

/-- ALU_MAXU (R275). -/
def execAluMaxu (r : Nat) (g : Guard) (last : Bool) (rd rs : Nat) (s : State) : Host.Outcome State Fault Refusal :=
  .next (s.upd fun d => d.finern r g last (.alu .maxu rd rs))

/-- ALU_MERADD (R276). -/
def execAluMeradd (r : Nat) (g : Guard) (last : Bool) (rd rs : Nat) (s : State) : Host.Outcome State Fault Refusal :=
  .next (s.upd fun d => d.finern r g last (.alu .meradd rd rs))

/-- ALU_FADD (R275). -/
def execAluFadd (r : Nat) (g : Guard) (last : Bool) (rd rs : Nat) (s : State) : Host.Outcome State Fault Refusal :=
  .next (s.upd fun d => d.finern r g last (.alu .fadd rd rs))

/-- ALU_FMUL (R275). -/
def execAluFmul (r : Nat) (g : Guard) (last : Bool) (rd rs : Nat) (s : State) : Host.Outcome State Fault Refusal :=
  .next (s.upd fun d => d.finern r g last (.alu .fmul rd rs))

/-- ADDI (R271). -/
def execAddi (r : Nat) (g : Guard) (last : Bool) (rd : Nat) (imm : Int) (s : State) :
    Host.Outcome State Fault Refusal :=
  .next (s.upd fun d => d.finern r g last (.addi rd imm))

/-- MOVI (R271). -/
def execMovi (r : Nat) (g : Guard) (last : Bool) (rd : Nat) (imm : Int) (s : State) :
    Host.Outcome State Fault Refusal :=
  .next (s.upd fun d => d.finern r g last (.movi rd imm))

/-- SHLI (R271). -/
def execShli (r : Nat) (g : Guard) (last : Bool) (rd sh : Nat) (s : State) : Host.Outcome State Fault Refusal :=
  .next (s.upd fun d => d.finern r g last (.shli rd sh))

/-- SHRI (R271). -/
def execShri (r : Nat) (g : Guard) (last : Bool) (rd sh : Nat) (s : State) : Host.Outcome State Fault Refusal :=
  .next (s.upd fun d => d.finern r g last (.shri rd sh))

/-- SARI (R271). -/
def execSari (r : Nat) (g : Guard) (last : Bool) (rd sh : Nat) (s : State) : Host.Outcome State Fault Refusal :=
  .next (s.upd fun d => d.finern r g last (.sari rd sh))

/-- CMP_EQ (R271). -/
def execCmpEq (r : Nat) (g : Guard) (last : Bool) (pd rs rt : Nat) (s : State) : Host.Outcome State Fault Refusal :=
  .next (s.upd fun d => d.finern r g last (.cmp .eq pd rs rt))

/-- CMP_NE (R271). -/
def execCmpNe (r : Nat) (g : Guard) (last : Bool) (pd rs rt : Nat) (s : State) : Host.Outcome State Fault Refusal :=
  .next (s.upd fun d => d.finern r g last (.cmp .ne pd rs rt))

/-- CMP_LT (R271). -/
def execCmpLt (r : Nat) (g : Guard) (last : Bool) (pd rs rt : Nat) (s : State) : Host.Outcome State Fault Refusal :=
  .next (s.upd fun d => d.finern r g last (.cmp .lt pd rs rt))

/-- CMP_LE (R271). -/
def execCmpLe (r : Nat) (g : Guard) (last : Bool) (pd rs rt : Nat) (s : State) : Host.Outcome State Fault Refusal :=
  .next (s.upd fun d => d.finern r g last (.cmp .le pd rs rt))

/-- CMP_LTU (R271). -/
def execCmpLtu (r : Nat) (g : Guard) (last : Bool) (pd rs rt : Nat) (s : State) : Host.Outcome State Fault Refusal :=
  .next (s.upd fun d => d.finern r g last (.cmp .ltu pd rs rt))

/-- CMP_LEU (R271). -/
def execCmpLeu (r : Nat) (g : Guard) (last : Bool) (pd rs rt : Nat) (s : State) : Host.Outcome State Fault Refusal :=
  .next (s.upd fun d => d.finern r g last (.cmp .leu pd rs rt))

/-- LIMM (R269). -/
def execLimm (r : Nat) (last : Bool) (sd : Nat) (h sx : Bool) (imm : Nat) (s : State) :
    Host.Outcome State Fault Refusal :=
  .next (s.upd fun d => d.finern r { gp := 0, gn := false } last (.limm sd h sx imm))

/-- MOV_S (R280). -/
def execMovS (r : Nat) (g : Guard) (last : Bool) (sd ss : Nat) (s : State) : Host.Outcome State Fault Refusal :=
  .next (s.upd fun d => d.finern r g last (.movS sd ss))

/-- MOV_SA (R280). -/
def execMovSa (r : Nat) (g : Guard) (last : Bool) (ad ss : Nat) (s : State) : Host.Outcome State Fault Refusal :=
  .next (s.upd fun d => d.finern r g last (.movSA ad ss))

/-- MOV_AS (R280). -/
def execMovAs (r : Nat) (g : Guard) (last : Bool) (sd as_ : Nat) (s : State) : Host.Outcome State Fault Refusal :=
  .next (s.upd fun d => d.finern r g last (.movAS sd as_))

/-- MOV_AI (R280). -/
def execMovAi (r : Nat) (g : Guard) (last : Bool) (ad : Nat) (imm : Int) (s : State) :
    Host.Outcome State Fault Refusal :=
  .next (s.upd fun d => d.finern r g last (.movAI ad imm))

/-- MOV_AA (R280). -/
def execMovAa (r : Nat) (g : Guard) (last : Bool) (ad ss : Nat) (s : State) : Host.Outcome State Fault Refusal :=
  .next (s.upd fun d => d.finern r g last (.movAA ad ss))

/-- MOV_TA (R280). -/
def execMovTa (r : Nat) (g : Guard) (last : Bool) (tn as_ : Nat) (s : State) : Host.Outcome State Fault Refusal :=
  .next (s.upd fun d => d.finern r g last (.movTA tn as_))

/-- MOV_TS (R281). -/
def execMovTs (r : Nat) (g : Guard) (last : Bool) (tn fld ss : Nat) (s : State) : Host.Outcome State Fault Refusal :=
  .next (s.upd fun d => d.finern r g last (.movTS tn fld ss))

/-- MOV_ST (R281). -/
def execMovSt (r : Nat) (g : Guard) (last : Bool) (sd tn fld : Nat) (s : State) : Host.Outcome State Fault Refusal :=
  .next (s.upd fun d => d.finern r g last (.movST sd tn fld))

/-- MOV_PS (R280). -/
def execMovPs (r : Nat) (g : Guard) (last : Bool) (ss : Nat) (s : State) : Host.Outcome State Fault Refusal :=
  .next (s.upd fun d => d.finern r g last (.movPS ss))

/-- MOV_SP (R280). -/
def execMovSp (r : Nat) (g : Guard) (last : Bool) (sd : Nat) (s : State) : Host.Outcome State Fault Refusal :=
  .next (s.upd fun d => d.finern r g last (.movSP sd))

/-- MOV_QS (R280). -/
def execMovQs (r : Nat) (g : Guard) (last : Bool) (qn : Nat) (h : Bool) (ss : Nat) (s : State) :
    Host.Outcome State Fault Refusal :=
  .next (s.upd fun d => d.finern r g last (.movQS qn h ss))

/-- MOV_SQ (R280). -/
def execMovSq (r : Nat) (g : Guard) (last : Bool) (sd qn : Nat) (h : Bool) (s : State) :
    Host.Outcome State Fault Refusal :=
  .next (s.upd fun d => d.finern r g last (.movSQ sd qn h))

/-- MOV_L (R282). -/
def execMovL (r : Nat) (g : Guard) (last : Bool) (sd as_ : Nat) (off : Int) (ecc : Ecc) (s : State) :
    Host.Outcome State Fault Refusal :=
  .next (s.upd fun d => d.finern r g last (.movL sd as_ off) ecc)

/-- MOV_W (R282). -/
def execMovW (r : Nat) (g : Guard) (last : Bool) (ss as_ : Nat) (off : Int) (s : State) :
    Host.Outcome State Fault Refusal :=
  .next (s.upd fun d => d.finern r g last (.movW ss as_ off))

/-- MOV_SM (R282). -/
def execMovSm (r : Nat) (g : Guard) (last : Bool) (sd : Nat) (beat : Bool) (s : State) :
    Host.Outcome State Fault Refusal :=
  .next (s.upd fun d => d.finern r g last (.movSM sd beat))

/-- XFER_D (R284). -/
def execXferD (r : Nat) (g : Guard) (last : Bool) (td ts : Nat) (s : State) : Host.Outcome State Fault Refusal :=
  .next (s.upd fun d => d.finern r g last (.xferD td ts))

/-- XFER_B (R284). -/
def execXferB (r : Nat) (g : Guard) (last : Bool) (ad as_ sl : Nat) (s : State) : Host.Outcome State Fault Refusal :=
  .next (s.upd fun d => d.finern r g last (.xferB ad as_ sl))

/-- CTX_GET (R286). -/
def execCtxGet (r : Nat) (g : Guard) (last : Bool) (sk ad : Nat) (s : State) : Host.Outcome State Fault Refusal :=
  .next (s.upd fun d => d.finern r g last (.ctxGet sk ad))

/-- CTX_PUT (R286). -/
def execCtxPut (r : Nat) (g : Guard) (last : Bool) (sk as_ : Nat) (del : Bool) (ecc : Ecc) (s : State) :
    Host.Outcome State Fault Refusal :=
  .next (s.upd fun d => d.finern r g last (.ctxPut sk as_ del) ecc)

/-- SEND (R289). -/
def execSend (r : Nat) (g : Guard) (last : Bool) (ts ch : Nat) (ecc : Ecc) (s : State) : Host.Outcome State Fault Refusal :=
  .next (s.upd fun d => d.finern r g last (.send ts ch) ecc)

/-- EGRESS (R290). -/
def execEgress (r : Nat) (g : Guard) (last : Bool) (ts sm : Nat) (ecc : Ecc) (s : State) : Host.Outcome State Fault Refusal :=
  .next (s.upd fun d => d.finern r g last (.egress ts sm) ecc)

/-- TILE_MVM (R297). -/
def execTileMvm (r : Nat) (g : Guard) (last : Bool) (rc ts td pm : Nat) (ecc : Ecc) (s : State) :
    Host.Outcome State Fault Refusal :=
  .next (s.upd fun d => d.finern r g last (.tileMvm rc ts td pm) ecc)

/-- TILE_LOAD (R303). -/
def execTileLoad (r : Nat) (g : Guard) (last : Bool) (rc ts rm : Nat) (ecc : Ecc) (s : State) :
    Host.Outcome State Fault Refusal :=
  .next (s.upd fun d => d.finern r g last (.tileLoad rc ts rm) ecc)

/-- TILE_READ (R304). -/
def execTileRead (r : Nat) (g : Guard) (last : Bool) (rc td pm : Nat) (s : State) :
    Host.Outcome State Fault Refusal :=
  .next (s.upd fun d => d.finern r g last (.tileRead rc td pm))

/-- TILE_CHK (R305). -/
def execTileChk (r : Nat) (g : Guard) (last : Bool) (rc pd sd : Nat) (s : State) : Host.Outcome State Fault Refusal :=
  .next (s.upd fun d => d.finern r g last (.tileChk rc pd sd))

/-- TILE_SIGHT (R306). -/
def execTileSight (r : Nat) (g : Guard) (last : Bool) (rc : Nat) (s : State) : Host.Outcome State Fault Refusal :=
  .next (s.upd fun d => d.finern r g last (.tileSight rc))

/-- VMM (R309). -/
def execVmm (r : Nat) (g : Guard) (last : Bool) (ta tb td : Nat) (ecc : Ecc) (s : State) : Host.Outcome State Fault Refusal :=
  .next (s.upd fun d => d.finern r g last (.vmm ta tb td) ecc)

/-- VMM_E (R310). -/
def execVmmE (r : Nat) (g : Guard) (last : Bool) (ta tb td rc : Nat) (ecc : Ecc) (s : State) : Host.Outcome State Fault Refusal :=
  .next (s.upd fun d => d.finern r g last (.vmmE ta tb td rc) ecc)

/-- VADD (R311). -/
def execVadd (r : Nat) (g : Guard) (last : Bool) (ta tb td : Nat) (bc sub : Bool) (ecc : Ecc) (s : State) :
    Host.Outcome State Fault Refusal :=
  .next (s.upd fun d => d.finern r g last (.vadd ta tb td bc sub) ecc)

/-- VMUL (R311). -/
def execVmul (r : Nat) (g : Guard) (last : Bool) (ta tb td : Nat) (bc : Bool) (ecc : Ecc) (s : State) :
    Host.Outcome State Fault Refusal :=
  .next (s.upd fun d => d.finern r g last (.vmul ta tb td bc) ecc)

/-- VACT (R208). -/
def execVact (r : Nat) (g : Guard) (last : Bool) (ts td tbl fn rs : Nat) (ecc : Ecc) (s : State) :
    Host.Outcome State Fault Refusal :=
  .next (s.upd fun d => d.finern r g last (.vact ts td tbl fn rs) ecc)

/-- VSMAX (R211). -/
def execVsmax (r : Nat) (g : Guard) (last : Bool) (ts td : Nat) (ecc : Ecc) (s : State) : Host.Outcome State Fault Refusal :=
  .next (s.upd fun d => d.finern r g last (.vsmax ts td) ecc)

/-- VNORM_L (R212). -/
def execVnormL (r : Nat) (g : Guard) (last : Bool) (ts td tg re : Nat) (ecc : Ecc) (s : State) :
    Host.Outcome State Fault Refusal :=
  .next (s.upd fun d => d.finern r g last (.vnormL ts td tg re) ecc)

/-- VNORM_R (R212). -/
def execVnormR (r : Nat) (g : Guard) (last : Bool) (ts td tg re : Nat) (ecc : Ecc) (s : State) :
    Host.Outcome State Fault Refusal :=
  .next (s.upd fun d => d.finern r g last (.vnormR ts td tg re) ecc)

/-- VADAPT (R312). -/
def execVadapt (r : Nat) (g : Guard) (last : Bool) (tw tg tm : Nat) (adaptive : Bool) (rh : Nat) (ecc : Ecc) (s : State) :
    Host.Outcome State Fault Refusal :=
  .next (s.upd fun d => d.finern r g last (.vadapt tw tg tm adaptive rh) ecc)

/-- QSCAN (R313). -/
def execQscan (r : Nat) (g : Guard) (last : Bool) (ts td : Nat) (ecc : Ecc) (s : State) : Host.Outcome State Fault Refusal :=
  .next (s.upd fun d => d.finern r g last (.qscan ts td) ecc)

/-- QCONV (R174). -/
def execQconv (r : Nat) (g : Guard) (last : Bool) (ts td pm : Nat) (ecc : Ecc) (s : State) : Host.Outcome State Fault Refusal :=
  .next (s.upd fun d => d.finern r g last (.qconv ts td pm) ecc)

/-- DQ (R177). -/
def execDq (r : Nat) (g : Guard) (last : Bool) (ts td rc : Nat) (ecc : Ecc) (s : State) : Host.Outcome State Fault Refusal :=
  .next (s.upd fun d => d.finern r g last (.dq ts td rc) ecc)

/-! ### Events that act on issue -/

/-- The time a WAITM or WAITB waits for (R245, R246). -/
def TimeWait.at_ : TimeWait → Nat
  | .until_ t => t
  | .beat t => t

/-- The stream of the running or last-run slot of a region. -/
def Device.streamIn (d : Device) (r : Nat) : Nat := (tget ProgSlot.reset (d.region r).ps (d.region r).regs.slot).stream

/-- A wait whose value the replica has reached releases, late when the value has passed (R53, R55), and issue goes on from this
cycle (R271); in a HALTED region the release is kept (R247). A test still running in the wait is abandoned (R250). -/
def Device.releaseWait (d : Device) (r : Nat) : Device :=
  match (d.region r).wait with
  | none => d
  | some w =>
    if d.clk.now < w.at_ then d
    else match (d.region r).regs.st with
    | .running =>
      let d := d.updRegion r fun g => { g.fromYield d.nowCycle with wait := none }
      (d.onTime w.at_ (unitRegion r) (unitRegion r + 2 ^ 28) (d.streamIn r)).resume r
    | .yielded =>
      let d := (d.abandonTest r).updRegion r fun g =>
        { g.fromYield d.nowCycle with wait := none, yieldedFrom := false, regs := { g.regs with st := .running } }
      ((d.onTime w.at_ (unitRegion r) (unitRegion r + 2 ^ 28) (d.streamIn r)).takeKept r).resume r
    | _ => d

/-- WAITM_RELEASE (R245, R247): once the replica has reached the value. (DEDUCED, assumption log 26.) -/
def execWaitmRelease (r : Nat) (s : State) : Host.Outcome State Fault Refusal :=
  .next (s.upd fun d =>
    match (d.region r).wait with
    | some (.until_ _) => d.releaseWait r
    | _ => d)

/-- WAITB_RELEASE (R246, R247): once the beat has begun. -/
def execWaitbRelease (r : Nat) (s : State) : Host.Outcome State Fault Refusal :=
  .next (s.upd fun d =>
    match (d.region r).wait with
    | some (.beat _) => d.releaseWait r
    | _ => d)

/-- A transfer may complete: remote writes of a region to one region arrive in the order issued (R235). -/
def Device.mayComplete (d : Device) (r : Nat) (x : Xfer) : Bool :=
  let toRegion (y : Xfer) : Option Nat := match y.writes with
    | w :: _ => d.remoteOf y.stream r (spaceOf w.1)
    | [] => none
  (toRegion x).isNone || !((d.region r).xfers.takeWhile fun y => y.id ≠ x.id).any fun y => toRegion y = toRegion x

/-- TRANSFER_COMPLETE (R235, R236, R283, R284, R587): `ecc` is what error correction found in the source read, `bad` the places of
the bytes it could not correct among those that the transfer moves. -/
def execTransferComplete (r id : Nat) (found : XferEcc) (s : State) : Host.Outcome State Fault Refusal :=
  .next (s.upd fun d =>
    match (d.region r).xfers.find? fun x => x.id = id with
    | none => d
    | some x => if d.mayComplete r x then ((d.finishXfer r x found.ecc.bad found.bad).eccFound r found.ecc).resume r else d)

/-- REMOTE_WRITE_ARRIVAL (R234, R285). -/
def execRemoteWriteArrival (r offset : Nat) (data : List Byte) (s : State) : Host.Outcome State Fault Refusal :=
  .next (s.upd fun d => if r < 6 * d.dieCount then d.remoteWrite r offset data else d)

/-- APPLY_STROBE (R85, R86, R302). -/
def execApplyStrobe (pt : Nat) (shadowReady : Bool) (s : State) : Host.Outcome State Fault Refusal :=
  .next (s.upd fun d => (d.applyStrobe pt shadowReady).resume (ptRegion pt))

/-- MVM_OUTPUT_COMPLETE (R97 to R105, R148, R300, R301). (DESIGN CHOICE, assumption log 25, DESIGN CHOICE, assumption log 94.) -/
def execMvmOutputComplete (pt no : Nat) (errs : List Int) (badTrims : List Nat) (s : State) : Host.Outcome State Fault Refusal :=
  .next (s.upd fun d => ((d.mvmOutput pt no errs badTrims).resume (ptRegion pt)).statTrigger (ptRegion pt))

/-- ESC_BAL_REFILL (R214): the balance of a stream in each region it uses is what admission priced. -/
def execEscBalRefill (stream : Nat) (s : State) : Host.Outcome State Fault Refusal :=
  .next (s.upd fun d =>
    forEach ((d.stream stream).programs.map fun p => p.region) (fun r d =>
      d.updRegion r fun g =>
        { g with dmu := { g.dmu with escBal := tset g.dmu.escBal stream (tget 0 g.dmu.escPriced stream),
                                     escSpent := g.dmu.escSpent.filter fun x => x ≠ stream } }) d)

/-- The largest bound among the stalls of a region, in cycles (R242, R244). -/
def Device.stallBound (d : Device) (r : Nat) : Nat :=
  let p := tget ProgSlot.reset (d.region r).ps (d.region r).regs.slot
  (d.region r).stalls.foldl (fun m x => max m (match x with | .tile => 125 | .fabric => p.fabBound | .hbm => p.hbmBound)) 0

/-- STALL_OVERRUN (R244): once a stall has passed the largest bound of its sources, the bundle's requests are withdrawn and the trap is raised at it. -/
def execStallOverrun (r : Nat) (s : State) : Host.Outcome State Fault Refusal :=
  .next (s.upd fun d =>
    let g := d.region r
    let n := d.nowCycle - g.heldAt
    if g.regs.st = .running ∧ g.stalls ≠ [] ∧ d.stallBound r < n then
      (d.updSeq r fun q => q.stalled g.stalls n).takeTrap r
        { code := trStallOverrun, slotClass := 0, late := false, swCode := 0, info := 0, faultPc := d.pcOf r } 0
    else d)

/-! ### Control of the sequencer (R258 to R260, R264) -/

/-- SEQ_CTRL.HALT (R260, R264): at the bundle boundary, when the test ends, or at once from IDLE. -/
def Device.seqHalt (d : Device) (r : Nat) : Device :=
  match (d.region r).regs.st with
  | .running =>
    d.takeTrap r { code := trDmHalt, slotClass := 0, late := false, swCode := 0, info := 0, faultPc := d.pcOf r } 0
  | .yielded => d.updRegion r fun g => { g with haltAsked := true }
  | _ => d.updSeq r fun q => { q with st := .halted }

/-- SEQ_CTRL.RESUME (R247, R259, R260): the activation continues at RESUME_PC, kept starts then applying R226; a region
in which none was running goes to IDLE. -/
def Device.seqResume (d : Device) (r : Nat) : Device :=
  let g := d.region r
  if g.active then
    let d := d.updRegion r fun g =>
      { g.catchUp d.nowCycle with
               arch := tupd .reset g.arch g.regs.slot fun b => { b with pc := g.regs.resumePc },
               regs := { g.regs with st := .running } }
    let d := match g.wait with
      | some w =>
        if d.came w.at_ then
          (d.updRegion r fun g => { g with wait := none }).onTime w.at_ (unitRegion r) (unitRegion r + 2 ^ 28) (d.streamIn r)
        else d
      | none => d
    let d := d.takeKept r
    if (d.region r).regs.st = .running then d.beginKept r else d
  else (d.updSeq r fun q => { q with st := .idle }).beginKept r

/-- SEQ_CTRL.ABORT (R225, R259, R260). -/
def Device.seqAbort (d : Device) (r : Nat) : Device := (d.endActivation r).beginKept r

/-- The states in which an action bit of SEQ_CTRL is valid: 0 HALT, 1 RESUME, 2 ABORT, 3 QUARANTINE, 4 RELEASE (R264). -/
def seqValid (k : Nat) (st : SeqSt) : Bool :=
  match k with
  | 0 => st = .running || st = .yielded || st = .idle
  | 1 => st = .halted
  | 2 => st = .halted
  | 3 => st = .halted || st = .idle
  | _ => st = .quarantined

/-- What an action bit of SEQ_CTRL does (R259, R260, R264, R434). The record of QUARANTINE carries EVENT 0x09. (DEDUCED,
assumption log 60.) -/
def Device.seqAct (d : Device) (r k : Nat) : Device :=
  match k with
  | 0 => d.seqHalt r
  | 1 => d.seqResume r
  | 2 => d.seqAbort r
  | 3 => d.quarantine r 0x09 0x5 (d.region r).regs.cause
  | _ => d.updRegion r fun g =>
    { g with lost := g.unloaded, regs := { g.regs with st := if g.microcode then .idle else .reset } }

/-- One action of SEQ_CTRL: refused when it is not valid in the present state (R264). -/
def Device.seqCtrl (d : Device) (r k : Nat) : Nat × Device :=
  if seqValid k (d.region r).regs.st then (stOK, d.seqAct r k) else (stWrongState, d)

/-- SEQ_CTRL_HALT (R260, R264). -/
def execSeqCtrlHalt (who r : Nat) (s : State) : Host.Outcome State Fault Refusal :=
  .next (s.upd fun d => d.dieWrite who (r / 6) .owner fun d => d.seqCtrl r 0)

/-- SEQ_CTRL_RESUME (R259, R260, R264). -/
def execSeqCtrlResume (who r : Nat) (s : State) : Host.Outcome State Fault Refusal :=
  .next (s.upd fun d => d.dieWrite who (r / 6) .owner fun d => d.seqCtrl r 1)

/-- SEQ_CTRL_ABORT (R259, R260, R264). -/
def execSeqCtrlAbort (who r : Nat) (s : State) : Host.Outcome State Fault Refusal :=
  .next (s.upd fun d => d.dieWrite who (r / 6) .owner fun d => d.seqCtrl r 2)

/-- SEQ_CTRL_QUARANTINE (R259, R264, R434): from HALTED or IDLE. -/
def execSeqCtrlQuarantine (who r : Nat) (s : State) : Host.Outcome State Fault Refusal :=
  .next (s.upd fun d => d.dieWrite who (r / 6) .owner fun d => d.seqCtrl r 3)

/-- SEQ_CTRL_RELEASE (R264): from QUARANTINED to IDLE. -/
def execSeqCtrlRelease (who r : Nat) (s : State) : Host.Outcome State Fault Refusal :=
  .next (s.upd fun d => d.dieWrite who (r / 6) .owner fun d => d.seqCtrl r 4)

/-- TRAP_TIMEOUT_EXPIRY (R259): no action came within TRAP_TIMEOUT of the trap, and the sequencer quarantines the region itself. (DEDUCED, assumption log
60.) -/
def execTrapTimeoutExpiry (r : Nat) (s : State) : Host.Outcome State Fault Refusal :=
  .next (s.upd fun d =>
    let q := (d.region r).regs
    if q.st = .halted ∧ ofMer q.trapMer + usTc q.trapTimeout ≤ d.clk.now then d.quarantine r 0x09 0x5 q.cause else d)

/-! ### Region reset (R41, R42) -/

/-- REGION_RESET (R41, R42): at the bundle boundary; a request inside a wider reset is discarded and counted. -/
def execRegionReset (r : Nat) (s : State) : Host.Outcome State Fault Refusal :=
  .next (s.upd fun d =>
    if ¬ r < 6 * d.dieCount then d
    else if d.widerReset (r / 6) then d.discardReset
    else if (d.region r).staged = [] then d.resetRegion r
    else d.updRegion r fun g => { g with resetAsked := true })

/-- REGION_RESET_FORCED_STOP (R41): no boundary came within 1 µs; the partial bundle has no effect. -/
def execRegionResetForcedStop (r : Nat) (s : State) : Host.Outcome State Fault Refusal :=
  .next (s.upd fun d => if (d.region r).resetAsked then d.resetRegion r else d)

/-! ### Registers with rows of their own (R185, R221) -/

/-- A write of STAT_TAG (R185, R186): every other register of the slot is cleared. -/
def Device.statTagWrite (d : Device) (r slot value : Nat) : Nat × Device :=
  if ¬ slot < 64 then (stFieldRange, d)
  else if bits value 30 24 ≠ 0 then (stReserved, d)
  else
    let z : StatSlot := { StatSlot.reset with en := bit value 31, tag := bits value 23 0, trigAt := d.real }
    (stOK, d.updRegion r fun g => { g with stats := tset g.stats slot z })

/-- STAT_TAG_WRITE (R185, R186). -/
def execStatTagWrite (who r slot value : Nat) (s : State) : Host.Outcome State Fault Refusal :=
  .next (s.upd fun d => d.dieWrite who (r / 6) .maintainer fun d => d.statTagWrite r slot value)

/-- The value of a counter pair of a statistics slot: 0 CONV, 1 ERR_SUM, 2 SIG_SUM. -/
def StatSlot.pair (s : StatSlot) (k : Nat) : Nat := if k = 0 then s.conv else if k = 1 then s.errSum else s.sigSum

/-- A read of a low word latches the pair (R185). -/
def StatSlot.latch (s : StatSlot) (k : Nat) : StatSlot :=
  if k = 0 then { s with convLatch := s.conv } else if k = 1 then { s with errLatch := s.errSum }
  else { s with sigLatch := s.sigSum }

/-- STAT_LO_READ (R185). -/
def execStatLoRead (who r slot pair : Nat) (s : State) : Host.Outcome State Fault Refusal :=
  .next (s.upd fun d => d.rowRead who .observer fun d =>
    if d.dieAccess (r / 6) ≠ stOK then (d.dieAccess (r / 6), [], d)
    else if ¬ (slot < 64 ∧ pair < 3) then (stFieldRange, [], d)
    else
      let x := tget .reset (d.region r).stats slot
      (stOK, [x.pair pair % 2 ^ 32], d.updRegion r fun g => { g with stats := tset g.stats slot (x.latch pair) }))

/-- BUSY_CYCLES_LO_READ (R221). -/
def execBusyCyclesLoRead (who r : Nat) (s : State) : Host.Outcome State Fault Refusal :=
  .next (s.upd fun d => d.rowRead who .observer fun d =>
    if d.dieAccess (r / 6) ≠ stOK then (d.dieAccess (r / 6), [], d)
    else
      let v := (d.region r).dmu.busyCycles
      (stOK, [v % 2 ^ 32], d.updRegion r fun g => { g with dmu := { g.dmu with busyLatch := v } }))

end Sys2Proof.Machine
end

