-- ==== Sys2Proof/Machine/RegForm.lean ====
section
/-! DEFINITION. The form of each register of control space: the bits of its fields and whether a field of it can be
written once boot is complete (R13, R15, R16), block by block as the register tables give them. -/
namespace Sys2Proof.Machine

/-- The mask of a register's bits that are not reserved, and whether some field of it can be written; none at a reserved
offset. -/
abbrev RegForm := Option (Nat × Bool)

abbrev m32 : Nat := 0xFFFFFFFF
/-- A register with no field that can be written, and one with such a field. -/
def ro (mask : Nat) : RegForm := some (mask, false)
def rw (mask : Nat) : RegForm := some (mask, true)

/-- An offset lies from one to another. -/
def inR (off lo hi : Nat) : Bool := decide (lo ≤ off) && decide (off ≤ hi)

/-- The first entry of a list that holds the offset. -/
def pick (off : Nat) (l : List (Nat × Nat × RegForm)) : RegForm :=
  match l with
  | [] => none
  | (lo, hi, f) :: rest => if inR off lo hi then f else pick off rest

/-- Identity and global status (R586). -/
def identForm (off : Nat) : RegForm :=
  pick off [(0x00, 0x03, ro m32), (0x04, 0x07, ro 0xFFFF), (0x08, 0x0B, ro 0x00FFFF0F), (0x0C, 0x1F, ro m32),
    (0x20, 0x23, ro 0x7FFF), (0x24, 0x27, rw 0xFF), (0x30, 0x33, rw m32)]

/-- Admission and Almanac (R347). -/
def admForm (off : Nat) : RegForm :=
  if inR off 0x200 0x37F then (if off % 8 = 0 then rw 0x07FFFFFF else rw 0x7F)
  else if inR off 0x1000 0x1FFF then
    pick (off % 64) [(0x00, 0x03, ro m32), (0x04, 0x07, ro 0x01FF0FFF), (0x08, 0x13, ro m32), (0x20, 0x3F, ro m32)]
  else
    pick off [(0x00, 0x03, rw 0x7F07), (0x04, 0x07, rw 0x3FF), (0x08, 0x2F, ro m32), (0x30, 0x37, rw 0x7F),
      (0x38, 0x3B, rw m32), (0x40, 0x5B, ro m32), (0x100, 0x11F, ro m32), (0x400, 0x7FF, ro 0x1FF)]

/-- One end of a link (R375). -/
def linkForm (off : Nat) : RegForm :=
  pick off [(0x00, 0x03, rw 0x0F07), (0x04, 0x07, rw 3), (0x08, 0x1B, ro m32)]

/-- Hub fabric (R375). -/
def fabForm (off : Nat) : RegForm :=
  if inR off 0x40 0x13F then linkForm ((off - 0x40) % 0x20)
  else
    pick off [(0x00, 0x03, rw 0x1FF), (0x04, 0x07, rw 0x1F), (0x08, 0x0B, rw 0x3FF), (0x0C, 0x0F, rw 0xF),
      (0x10, 0x13, rw 0xFFF), (0x200, 0x213, rw 0xF)]

/-- Timebase (R76). -/
def tbForm (off : Nat) : RegForm :=
  pick off [(0x00, 0x03, rw 0x00FFFF1F), (0x04, 0x07, rw 0x1F7F), (0x08, 0x0F, ro m32), (0x10, 0x17, rw m32),
    (0x18, 0x1B, rw 0x3FF), (0x1C, 0x1F, rw 0x7FF), (0x20, 0x23, rw 0x3FF), (0x24, 0x27, rw 0x3FFF),
    (0x28, 0x2B, rw 0x3F), (0x2C, 0x2F, rw 0xFFFFF), (0x30, 0x3F, ro m32), (0x40, 0x4F, rw m32), (0x50, 0x53, ro m32)]

/-- Ports A and B, collectors (R505). -/
def pabForm (off : Nat) : RegForm :=
  pick off [(0x00, 0x03, rw 0x303), (0x04, 0x07, rw 0xF), (0x10, 0x23, rw m32), (0x30, 0x43, rw m32),
    (0x60, 0x6F, rw m32), (0x70, 0x73, rw 0x8000FFFF), (0x80, 0x8F, rw m32), (0x90, 0x93, rw 0x8000FFFF),
    (0xA0, 0xAB, ro m32)]

/-- BCP settings and session table (R474). -/
def bcpForm (off : Nat) : RegForm :=
  if inR off 0x40 0xBF then
    pick (off % 16) [(0x0, 0x3, ro 0xFF73), (0x4, 0xB, ro m32), (0xC, 0xF, ro 0xFFFF)]
  else
    pick off [(0x00, 0x03, rw 3), (0x04, 0x07, rw 0xFFFF), (0x08, 0x0B, rw 0x1FF), (0x0C, 0x0F, rw 0x3FF),
      (0x10, 0x17, rw 0x3FFF), (0x18, 0x1B, rw 0x70F), (0x20, 0x37, ro m32)]

/-- Data ports, partners, result destinations and bindings (R503, R504). -/
def dpForm (off : Nat) : RegForm :=
  if inR off 0x100 0x4FF then
    pick (off % 0x40) [(0x00, 0x03, ro 0x7F), (0x04, 0x07, ro 0xFFFF), (0x08, 0x0B, ro m32), (0x0C, 0x1F, rw m32),
      (0x20, 0x3F, ro m32)]
  else if inR off 0x1000 0x13FF then
    pick (off % 16) [(0x0, 0x3, ro 0xFFFFFF3F), (0x4, 0xB, ro m32), (0xC, 0xF, rw 1)]
  else if inR off 0x2000 0x3FFF then
    pick (off % 0x20) [(0x00, 0x03, rw 0x8003FFFF), (0x04, 0x1B, rw m32)]
  else if inR off 0x4000 0x5FFF then
    pick (off % 0x20) [(0x00, 0x03, rw 0x80FFFFFF), (0x04, 0x0B, rw m32), (0x0C, 0x0F, rw 0xF), (0x10, 0x13, rw 0xFFFF),
      (0x14, 0x17, rw 0xFFFFFF), (0x18, 0x1B, rw 0x1FF)]
  else
    pick off [(0x00, 0x03, rw 0xFFFFF), (0x04, 0x07, rw 0x0F0F0F0F), (0x08, 0x0B, rw 0x7FF), (0x0C, 0x0F, rw 0x7F),
      (0x10, 0x13, rw 0xFF), (0x14, 0x17, rw 0x7F), (0x18, 0x1B, rw 0xFFFF), (0x1C, 0x1F, rw 0xFFF), (0x20, 0x23, ro m32)]

/-- HBM (R587). -/
def hbmForm (off : Nat) : RegForm := pick off [(0x00, 0x03, rw 0x31F), (0x04, 0x0B, ro m32), (0x10, 0x17, ro m32)]

/-- Thermal and power (R574). -/
def thermForm (off : Nat) : RegForm :=
  if inR off 0x200 0x27F then
    pick (off % 16) [(0x0, 0x3, rw 0x00FFFF07), (0x4, 0x7, rw m32), (0x8, 0xB, ro 0x7FFFF)]
  else
    pick off [(0x00, 0x03, rw 0xF3F), (0x04, 0x0B, rw 0xFF), (0x0C, 0x0F, rw 0xF), (0x10, 0x13, rw 0x3FF),
      (0x14, 0x17, rw 0xFFFF), (0x18, 0x1B, ro 0xFFFF003F), (0x1C, 0x27, ro m32), (0x100, 0x147, ro 0x7FFFF)]

/-- Security (R546): SEC_STATUS holds W1C flags, the rest is read only. -/
def secForm (off : Nat) : RegForm := pick off [(0x00, 0x03, rw 0x1F0F), (0x04, 0x3F, ro m32), (0x100, 0x18F, ro m32)]

/-- Start-up and capacity (R575). -/
def startForm (off : Nat) : RegForm :=
  pick off [(0x00, 0x03, ro 0xF7), (0x04, 0x07, rw 0xFF0F), (0x08, 0x0B, ro m32), (0x0C, 0x0F, ro 0xFF),
    (0x10, 0x13, ro 0x1FFF), (0x14, 0x17, ro 0xFF), (0x18, 0x1B, ro m32)]

/-- Fault reporting (R445, R449). -/
def fltForm (off : Nat) : RegForm :=
  if inR off 0x1000 0x2FFF then
    pick (off % 32) [(0x00, 0x13, ro m32), (0x14, 0x17, ro 0xFFFF0FFF), (0x18, 0x1B, ro m32), (0x1C, 0x1F, ro 0x1FF)]
  else
    pick off [(0x00, 0x03, rw 0xF), (0x04, 0x07, ro m32), (0x08, 0x0F, rw 0xF), (0x10, 0x13, rw 0xFF),
      (0x14, 0x17, rw 0x3FF), (0x18, 0x1B, rw 0xFF), (0x1C, 0x1F, rw 0x7FF), (0x20, 0x23, rw 0x1F), (0x24, 0x27, rw 0xFF),
      (0x28, 0x33, rw 0x3FF), (0x40, 0x43, ro 0xFF), (0x44, 0x47, rw 0x307), (0x48, 0x67, ro 0xFF), (0x80, 0x8F, ro m32)]

/-- Model manager (R407): STORE_BASE and STORE_SIZE are RWL. -/
def mmForm (off : Nat) : RegForm :=
  if inR off 0x100 0x2FF then
    pick (off % 0x20) [(0x00, 0x03, ro m32), (0x04, 0x07, ro 0x01FF03FF), (0x08, 0x13, ro m32), (0x14, 0x1B, ro 0x1FFF1FFF)]
  else
    pick off [(0x00, 0x03, rw 0x1F1F), (0x04, 0x0B, ro 0x1FFF), (0x0C, 0x0F, ro m32), (0x10, 0x13, rw 0xFFFF),
      (0x14, 0x17, rw 0xFFF), (0x18, 0x1B, rw 0x1FFFF), (0x1C, 0x1F, rw 0x1FFF), (0x20, 0x23, rw 0x1FFFF),
      (0x24, 0x27, rw 0x3FF), (0x28, 0x2F, rw 0x1FFF), (0x30, 0x3F, ro m32)]

/-- Settings registers (R576). -/
def setForm (off : Nat) : RegForm :=
  pick off [(0x00, 0x2F, rw m32), (0x30, 0x33, rw 0xFF), (0x34, 0x37, ro m32), (0x40, 0x7F, ro 0xFF7)]

/-- Die manager (R127, R376, R584, R608). -/
def dieForm (off : Nat) : RegForm :=
  if inR off 0x400 0x45F then linkForm ((off - 0x400) % 0x20)
  else
    pick off [(0x00, 0x03, rw 0x307), (0x04, 0x0B, ro m32), (0x10, 0x13, rw 1), (0x200, 0x217, rw 0x1FFF),
      (0x220, 0x223, ro 0x00FFFFFF), (0x224, 0x227, ro m32), (0x480, 0x497, rw 1), (0x4A0, 0x4B7, ro 7),
      (0x4C0, 0x4C3, rw 0x0FFFFFFF), (0x4C4, 0x4C7, ro m32), (0x8000, 0x8003, ro m32), (0x8004, 0x8007, ro 0xFFFF),
      (0x8008, 0x800B, ro 0xF), (0x8010, 0x807B, ro m32), (0x8100, 0xFF7F, ro m32), (0xFF80, 0xFFAF, ro m32)]

/-- A program slot block (R264). -/
def psForm (off : Nat) : RegForm :=
  if inR off 0x40 0x7F then (if off % 8 = 0 then rw 0xC07FFFFF else rw 0xFFFFFF)
  else
    pick off [(0x00, 0x03, rw 0xFF03), (0x04, 0x07, rw 0x3FFF), (0x08, 0x0B, rw 0x7FFF), (0x0C, 0x0F, rw 0x3FF),
      (0x10, 0x17, rw 0x1FFFFF), (0x18, 0x1B, ro m32)]

/-- A window of architected state (R264). -/
def bankForm (off : Nat) : RegForm :=
  if inR off 0x188 0x1A7 then (if off % 8 = 0 then rw m32 else rw 0x3FFF)
  else
    pick off [(0x000, 0x17F, rw m32), (0x180, 0x183, rw 0xFF), (0x184, 0x187, rw 0x3FFF), (0x1A8, 0x1AB, rw 0x1F07),
      (0x1C0, 0x1FF, rw 0x3FFF), (0x200, 0x2FF, rw m32), (0x800, 0xFFF, rw m32)]

/-- Region registers that a session may write or read (R185, R221, R264, R292). -/
def regionForm (off : Nat) : RegForm :=
  if inR off 0x80 0xBF then (if off % 8 = 0 then rw 0x8001FFFF else rw 0x3FFFF)
  else if inR off 0x1000 0x17FF then psForm (off % 0x80)
  else if inR off 0x20000 0x2FFFF then bankForm (off % 0x1000)
  else if inR off 0x40000 0x7FFFF then rw m32
  else if inR off 0x8000 0x8FFF then
    pick (off % 64) [(0x00, 0x03, rw 0x80FFFFFF), (0x04, 0x07, rw 0x1F), (0x08, 0x3B, ro m32), (0x3C, 0x3F, rw 0x83FFFFFF)]
  else
    pick off [(0x00, 0x03, rw 0x1F), (0x04, 0x07, rw 0x7FF7), (0x08, 0x0B, ro 0xFFFF07FF), (0x0C, 0x0F, ro 0x3FFF3FFF),
      (0x10, 0x1B, ro m32), (0x1C, 0x23, rw 0x3FFF), (0x24, 0x4B, ro m32), (0x50, 0x53, rw 0x1F), (0x54, 0x63, ro m32),
      (0x9000, 0x9003, rw 0x3F), (0x9004, 0x901F, ro m32), (0x9040, 0x907F, rw m32), (0x9400, 0x97FF, ro m32),
      (0xA000, 0x11FFF, rw m32), (0x80000, 0xBFFFF, rw m32)]

/-- Tile registers (R114, R135, R151, R448). -/
def tileForm (off : Nat) : RegForm :=
  pick off [(0x000, 0x003, ro 0xF7), (0x004, 0x007, rw 0x7F07), (0x008, 0x00B, rw 0xF7F), (0x00C, 0x00F, rw 0x800003FF),
    (0x010, 0x027, ro m32), (0x028, 0x02B, rw 1), (0x040, 0x083, ro m32), (0x100, 0x103, rw 0xFF), (0x104, 0x10F, rw m32),
    (0x110, 0x113, rw 0x01FF00FF), (0x114, 0x117, rw 0x03FF03FF), (0x118, 0x11B, rw 0xFFFFFF), (0x11C, 0x11F, rw 0x010103FF),
    (0x120, 0x123, rw 0x03FFF3FF), (0x124, 0x12B, rw 0x1FFFFFF), (0x12C, 0x12F, rw 0x1F7F), (0x130, 0x137, ro m32),
    (0x138, 0x13B, ro 0xFFFF), (0x13C, 0x147, ro m32), (0x148, 0x14B, rw 0x3FFFF), (0x14C, 0x14F, rw m32),
    (0x150, 0x153, ro 0xFF), (0x154, 0x157, rw 0xF03), (0x158, 0x167, ro m32), (0x168, 0x16B, ro 0xFFFF0FFF),
    (0x16C, 0x173, ro m32), (0x200, 0x40F, rw 0x003FFF7F), (0x500, 0x5FF, rw 0xFFFFF7FF), (0x800, 0xFFF, ro m32)]

/-- The W1C flags of a hub register, and those with no counter of their own beside them (R573): a row is block, offset, flags, flags
without a counter. (DESIGN CHOICE, assumption log 92.) -/
def w1cHub : List (Nat × Nat × Nat × Nat) :=
  [(0, 0x24, 0xFF, 0xFF), (1, 0x00, 0x7000, 0x7000), (2, 0x00, 0x100, 0x100), (3, 0x04, 0x1F00, 0x1700), (4, 0x00, 0x300, 0x300),
   (5, 0x18, 0x700, 0x400), (6, 0x00, 0xF0000, 0xF0000), (7, 0x00, 0x300, 0), (8, 0x00, 0xF00, 0x900), (10, 0x00, 0xF00, 0x500),
   (11, 0x00, 0xF, 0xF), (12, 0x00, 0xF, 0x9)]

/-- Bits set in a word. -/
def onesIn (v : Nat) : Nat := ((List.range 32).filter fun i => bit v i).length

/-- The same of an end of a link (R375). -/
def w1cLink : Nat × Nat := (0xF00, 0xD00)

/-- The same of a region's register (R185, R221, R264). -/
def w1cRegion (off : Nat) : Nat × Nat :=
  if off = 0x04 then (0x7F00, 0)
  else if off = 0x9000 then (0x1F, 0x10)
  else if inR off 0x8000 0x8FFF ∧ off % 64 = 4 then (0x1F, 0x10)
  else if inR off 0x8000 0x8FFF ∧ off % 64 = 0x3C then (2 ^ 31, 0)
  else (0, 0)

/-- The same of a tile's register (R114, R135, R448). -/
def w1cTile (off : Nat) : Nat × Nat :=
  match off with
  | 0x004 => (0x7F00, 0x4000)
  | 0x00C => (2 ^ 31, 0)
  | 0x12C => (0x1F00, 0x1C00)
  | 0x154 => (0xF00, 0x800)
  | _ => (0, 0)

/-- The form checks of a write (R16, R579): a reserved offset, a reserved bit, a register with nothing to write. -/
def formCheck (f : RegForm) (v : Nat) : Nat :=
  match f with
  | none => stFieldRange
  | some (mask, writable) =>
    if v &&& (m32 - mask) ≠ 0 then stReserved else if writable then stOK else stWrongState

/-- Split of a control-space address (R578): the block's number, its base and its extent. Blocks 0 to 13 are the hub's,
14 to 21 the compute dies 0 to 7. -/
def hubBlocks : List (Nat × Nat × Nat) :=
  [(0, 0x00000, 0x10000), (1, 0x10000, 0x4000), (2, 0x14000, 0xC000), (3, 0x20000, 0x10000), (4, 0x30000, 0x800),
   (5, 0x30800, 0xF800), (6, 0x40000, 0x10000), (7, 0x50000, 0x10000), (8, 0x60000, 0x800), (9, 0x60800, 0xF800),
   (10, 0x70000, 0x10000), (11, 0x80000, 0x10000), (12, 0x90000, 0x10000), (13, 0xA0000, 0x10000)]

/-- The block of an address, and the offset in it (R578); none in an unmapped range. -/
def blockOf (addr : Nat) : Option (Nat × Nat) :=
  if inR addr 0x10000000 0x17FFFFFF then some (14 + (addr - 0x10000000) / 0x1000000, (addr - 0x10000000) % 0x1000000)
  else (hubBlocks.find? fun b => decide (b.2.1 ≤ addr) && decide (addr < b.2.1 + b.2.2)).map fun b => (b.1, addr - b.2.1)

/-- Registers of class RWL (R13): the engine's power constants (R336) and the extent of the model store (R386). -/
def isRwl (b off : Nat) : Bool :=
  (decide (b = 1) && inR off 0x10 0x2C && decide (off % 4 = 0)) || (decide (b = 12) && (decide (off = 0x04) || decide (off = 0x08)))

/-- What an offset of a compute die holds (R582, R583). -/
inductive DiePart where
  | manager (off : Nat)
  | region (g off : Nat)
  | tile (p off : Nat)
  | trim (index : Nat) (high : Bool)
  | rescale (lt col : Nat)
  | reserved
  deriving DecidableEq, Repr

/-- The decode of an offset of a compute die under a BANK (R582, R583). Tiles and rescale entries are numbered in the
die. -/
def diePart (bank off : Nat) : DiePart :=
  let w := off - 0x840000
  let trim := DiePart.trim (w / 8) (decide (w / 4 % 2 = 1))
  if off < 0x100000 then .manager off
  else if off < 0x700000 then .region (off / 0x100000 - 1) (off % 0x100000)
  else if inR off 0x800000 0x83FFFF then .tile ((off - 0x800000) / 0x1000) (off % 0x1000)
  else if inR off 0x840000 0xB5FFFF then (if bank = 0 then .tile ((off - 0x800000) / 0x1000) (off % 0x1000) else trim)
  else if inR off 0xB60000 0xBBAFFF then trim
  else if inR off 0xBC0000 0xD3FFFF then .rescale ((off - 0xBC0000) / 2048) ((off - 0xBC0000) % 2048 / 4)
  else .reserved

/-- The W1C flags of a register, and those of them without a counter beside them (R573). -/
def w1cBits (b bank off : Nat) : Nat × Nat :=
  if 14 ≤ b then
    match diePart bank off with
    | .manager o => if o = 0 then (0x300, 0x200) else if inR o 0x400 0x45F ∧ o % 0x20 = 0 then w1cLink else (0, 0)
    | .region _ o => w1cRegion o
    | .tile _ o => w1cTile o
    | _ => (0, 0)
  else if b = 2 ∧ inR off 0x40 0x13F ∧ off % 0x20 = 0 then w1cLink
  else match w1cHub.find? fun e => e.1 = b && e.2.1 = off with
    | some e => e.2.2
    | none => (0, 0)

end Sys2Proof.Machine
end

