-- ==== Sys2Proof/Machine/Fabric.lean ====
section
/-! DEFINITION. The fabric (chapter 11): slot boundaries, link frames, retraining and fencing of links, and the reset
of a router while traffic passes. Link d is the hub link of die d, near end at the hub; link 8 + d is the ring link
above die d, near end at die d. -/
namespace Sys2Proof.Machine

/-- LINK_STATUS.STATE codes (R375). -/
def LinkSt.code : LinkSt → Nat
  | .down => 0 | .training => 1 | .up => 2 | .retraining => 3 | .fenced => 4

/-- ROUTER_STATUS.STATE codes (R376). -/
def RouterSt.code : RouterSt → Nat
  | .in_ => 0 | .detouring => 1 | .draining => 2 | .reset => 3 | .out => 4

/-- An end of a link. -/
def Link.endOf (l : Link) (far : Bool) : LinkEnd := if far then l.far else l.near

/-- Change one end of a link. -/
def Link.onEnd (l : Link) (far : Bool) (f : LinkEnd → LinkEnd) : Link :=
  if far then { l with far := f l.far } else { l with near := f l.near }

/-- Change both ends of a link. -/
def Link.onEnds (l : Link) (f : LinkEnd → LinkEnd) : Link := { l with near := f l.near, far := f l.far }

/-- A link of the grade: the hub link and the ring link of each populated die (R31, R32). -/
def Device.linkExists (d : Device) (n : Nat) : Bool := decide (n < 16) && decide (n % 8 < d.dieCount)

/-- The links that end at a die: its hub link and its two ring links (R32). -/
def Device.linksOfDie (d : Device) (n : Nat) : List Nat := [n, 8 + n, 8 + (n + d.dieCount - 1) % d.dieCount]

/-- Change the hub fabric block. -/
def Device.updFab (d : Device) (f : Fabric → Fabric) : Device := { d with fab := f d.fab }

/-- A hop of a route lies on a hub or ring link. -/
def FabLink.isLink (n : Nat) : FabLink → Bool
  | .hub die _ => decide (die = n)
  | .ring die _ => decide (8 + die = n)
  | _ => false

/-- A hop of a route passes through a region router (R350). -/
def FabLink.isRouter (r : Nat) : FabLink → Bool
  | .mesh die a b => decide (6 * die + a = r) || decide (6 * die + b = r)
  | .gate die row _ => decide (6 * die + 3 * row + 1 = r)
  | _ => false

/-- Time-triggered slots of a stream, those of its HBM reservations among them (R353, R354). -/
def Device.ttStream (d : Device) (s : Nat) : List TtSlot :=
  let x := d.stream s
  d.ttOf x.almanac (x.programs.map fun p => p.region) x.flows x.hbm

/-- Streams with time-triggered slots over a hop that passes a test. -/
def Device.streamsOver (d : Device) (p : FabLink → Bool) : List Nat :=
  d.liveStreams.filter fun s => (d.ttStream s).any fun t => t.path.any p

/-- Every link under a stream's slots holds check 10 (R367). -/
def Device.fitsFabric (d : Device) (s : Nat) : Bool :=
  let all := d.ttHeld
  ((d.ttStream s).flatMap fun t => t.path).eraseDups.all fun k => decide (100 * linkLoad all k ≤ k.flits * d.adm.fabTtMax)

/-! ### Rounds (R352, R355) -/

/-- The last round boundary that the counter has reached (R352). -/
def Device.roundStart (d : Device) : Nat := beatStartNo 10000 (beatNo 10000 d.clk.now)

/-- The flow has a slot in the round that begins at the last boundary: the round meets one of its windows (R353). -/
def Device.slotNow (d : Device) (n : Nat) (f : FlowPlan) : Bool :=
  let t : TtSlot := { beats := n, start := f.start, stop := f.stop, flits := f.flits, path := [] }
  t.windows.any fun w => circleMeets (w.1 % tcPerFrame) (w.2 + 1) (d.roundStart % tcPerFrame) 1967

/-- Injection queues of a region whose flow has no slot in this round (R353, R355). -/
def Device.queuesKept (d : Device) (r : Nat) : List Nat :=
  d.liveStreams.flatMap fun s => ((d.stream s).flows.filter fun f => f.src = r && !d.slotNow (d.stream s).almanac f).map
    fun f => injectKey s f.kind f.dest

/-- The slots of a round (R352, R353, R355): the slot of each flow of a region empties its injection queue, and issue that waited for
room goes on. -/
def Device.slotBoundary (d : Device) (r : Nat) : Device :=
  let kept := d.queuesKept r
  (d.updRegion r fun g => { g with inject := g.inject.filter fun e => kept.contains e.1 }).resume r

/-- FABRIC_SLOT_BOUNDARY (R352 to R355): a round begins at a region's network interface, in its place among the events of
that cycle (R54). (DEDUCED, assumption log 12.) -/
def execFabricSlotBoundary (r : Nat) (s : State) : Host.Outcome State Fault Refusal :=
  .next (s.upd fun d => d.event d.roundStart (unitRegion r) (unitRegion r) ordSlot 0x1FF fun d => d.slotBoundary r)

/-! ### Routers (R370 to R374) -/

/-- A router reset begins: DETOURING, the detour flag set (R371). -/
def Device.startRouter (d : Device) (r : Nat) : Device :=
  (d.updFab fun f => { f with detourF := true }).updRegion r fun g =>
    { g with router := { st := .detouring, detour := false, resetAsked := false, since := d.clk.now } }

/-- No link of a die retrains (R374). -/
def Device.linksQuiet (d : Device) (n : Nat) : Bool :=
  (d.linksOfDie n).all fun l => decide ((d.link l).st ≠ .retraining)

/-- Router resets that waited for the links of a die begin (R374). -/
def Device.wakeRouters (d : Device) : Device :=
  forEach d.allRegions (fun r d =>
    if (d.region r).router.resetAsked && d.linksQuiet (r / 6) then d.startRouter r else d) d

/-- A region that is QUARANTINED or in reset (R370). A region reset lasts until the region has passed its tests. (DEDUCED,
assumption log 74.) -/
def Region.outOfService (g : Region) : Bool := decide (g.regs.st = .quarantined) || decide (g.regs.st = .reset) || g.lost

/-- ROUTER_CTRL.RESET (R370, R371, R374, R376). -/
def Device.routerReset (d : Device) (r : Nat) : Nat × Device :=
  if !(d.region r).outOfService then (stWrongState, d)
  else if (List.range 6).any fun g =>
      let x := (d.region (6 * (r / 6) + g)).router
      x.resetAsked || x.st = .detouring || x.st = .draining || x.st = .reset || x.st = .out then (stBusy, d)
  else if d.linksQuiet (r / 6) then (stOK, d.startRouter r)
  else (stOK, d.updRegion r fun g => { g with router := { g.router with resetAsked := true } })

/-- ROUTER_CTRL_RESET (R371). -/
def execRouterCtrlReset (who r : Nat) (s : State) : Host.Outcome State Fault Refusal :=
  .next (s.upd fun d => d.dieWrite who (r / 6) .owner fun d => d.routerReset r)

/-- The engine keeps a stream's slots on the routes of now (R371): every link holds them, and R333 passes with the bounds of the
detour. -/
def Device.keepsDetour (d : Device) (s : Nat) : Bool :=
  d.fitsFabric s && match d.adm.convs.find? fun c => c.stream = s && c.tag = (d.stream s).tag with
    | none => false
    | some c =>
      let e : Device := { d with adm := { d.adm with streams := tdel d.adm.streams s } }
      let h : ClaimHeader := c.header
      (e.check15 h c.records (e.startPlans c)).isNone

/-- R_s: the first round boundary at least 10 µs after the request (R371). -/
def Router.movesAt (x : Router) : Nat :=
  let t := x.since + 19661
  let k := beatNo 10000 t
  if beatStartNo 10000 k = t then t else beatStartNo 10000 (k + 1)

/-- The slots move at R_s (R371, R372): streams whose slots the engine cannot keep on the detour are breached. -/
def Device.routerMove (d : Device) (r : Nat) : Device :=
  if (d.region r).router.st ≠ .detouring then d
  else
    let users := d.streamsOver (FabLink.isRouter r)
    let d := d.updRegion r fun g => { g with router := { g.router with st := .draining, detour := true } }
    let gone := users.filter fun s => !d.keepsDetour s
    (d.updFab fun f => { f with lostSlots := f.lostSlots ++ gone.map fun s => (r, s) }).breach 0x13 (unitRegion r) gone

/-- ROUTER_SLOT_MOVE (R53 to R55, R371): at R_s. -/
def execRouterSlotMove (r instant : Nat) (s : State) : Host.Outcome State Fault Refusal :=
  .next (s.upd fun d =>
    if (d.region r).router.st = .detouring ∧ instant = (d.region r).router.movesAt then
      d.event instant (unitRegion r) (unitRegion r) ordSlot 0x1FF fun d => d.routerMove r
    else d)

/-- The drain ends and the reset is applied (R371): flits still held are discarded, counted and reported, and best-effort packets
among them are sent again on their detour routes. -/
def Device.routerDrained (d : Device) (r flits : Nat) : Device :=
  if (d.region r).router.st ≠ .draining then d
  else
    let d := d.updRegion r fun g => { g with router := { g.router with st := .reset } }
    if flits = 0 then d
    else
      let d := d.beResend (FabLink.isRouter r) d.leafRoute
      (d.updDie (r / 6) fun x => { x with drainDropCount := satAdd x.drainDropCount flits }).faultRegion r 0x13 0 371

/-- ROUTER_DRAIN_END (R371). -/
def execRouterDrainEnd (r flits : Nat) (s : State) : Host.Outcome State Fault Refusal :=
  .next (s.upd fun d => d.routerDrained r flits)

/-- ROUTER_LINKS_TRAINED (R371). -/
def execRouterLinksTrained (r : Nat) (s : State) : Host.Outcome State Fault Refusal :=
  .next (s.upd fun d =>
    if (d.region r).router.st = .reset then d.updRegion r fun g => { g with router := { g.router with st := .out } } else d)

/-- A router rejoins (R373): its slots move back and the streams it breached are restored. -/
def Device.rejoin (d : Device) (r : Nat) : Device :=
  if (d.region r).router.st ≠ .out ∨ (d.region r).outOfService then d
  else
    let back := (d.fab.lostSlots.filter fun e => e.1 = r).map fun e => e.2
    let d := d.updRegion r fun g => { g with router := .reset }
    let d := d.updFab fun f => { f with lostSlots := f.lostSlots.filter fun e => e.1 ≠ r }
    d.restore 0x13 (unitRegion r) (back.filter fun s => !(d.fab.lostSlots.any fun e => e.2 = s))

/-- ROUTER_REJOIN (R373). -/
def execRouterRejoin (r : Nat) (s : State) : Host.Outcome State Fault Refusal := .next (s.upd fun d => d.rejoin r)

/-! ### Links (R364 to R369) -/

/-- A link is fenced (R367): a hub link fences its die; a ring link carries nothing, and the streams whose flows fit the
hub links are restored. -/
def Device.fenceLink (d : Device) (n : Nat) : Device :=
  let users := d.streamsOver (FabLink.isLink n)
  let d := d.updLink n fun l => { (l.onEnds fun e => { e with fencedF := true }) with st := .fenced }
  let d := if n < 8 then d.fenceDie n 0x0A
    else
      let d := d.faultDie (n % 8) 0x0A 0 LinkSt.fenced.code
      d.restore 0x13 (unitDie (n % 8)) (users.filter fun s => d.fitsFabric s)
  d.wakeRouters

/-- A ring neighbour's hub link retrains (R374). (DEDUCED, assumption log 73.) -/
def Device.neighbourRetrains (d : Device) (n : Nat) : Bool :=
  (List.range d.dieCount).any fun m => d.neighbours n m && decide ((d.link m).st = .retraining)

/-- A retrain of a link starts at one end (R365 to R367, R374). -/
def Device.startRetrain (d : Device) (n : Nat) (far : Bool) : Device :=
  let users := d.streamsOver (FabLink.isLink n)
  let recent := ((d.link n).retrains.filter fun t => decide (d.real < t + msTc (d.fab.fencePeriod * 1000))) ++ [d.real]
  let d := d.updLink n fun l =>
    { (l.onEnd far fun e => { e with retrainCount := satInc e.retrainCount }) with st := .retraining, retrains := recent }
  if d.fab.fenceRetrains ≤ recent.length ∨ (n < 8 ∧ d.neighbourRetrains n) then d.fenceLink n
  else
    let d := (d.updFab fun f => { f with detourF := true }).faultDie (n % 8) 0x0A 0 LinkSt.retraining.code
    d.breach 0x13 (unitDie (n % 8)) users

/-- A link frame arrives at an end (R358, R364, R365). `late` says that the frame needed a second replay. -/
def Device.linkFrame (d : Device) (n : Nat) (far crcOk late : Bool) : Device :=
  let st := (d.link n).st
  if st ≠ .up then d
  else
    let d := d.updLink n fun l => l.onEnd far fun e =>
      let wrap := decide (2 ^ d.fab.errWindow ≤ e.frames + 1)
      let e := { e with frames := if wrap then 0 else e.frames + 1, errWin := if wrap then 0 else e.errWin,
                        lateReplayCount := if late then satInc e.lateReplayCount else e.lateReplayCount }
      if crcOk then e
      else { e with errWin := satInc e.errWin, errCount := satInc e.errCount, replayCount := satInc e.replayCount }
    if !crcOk && decide (d.fab.errThr ≤ ((d.link n).endOf far).errWin) then
      (d.updLink n fun l => l.onEnd far fun e => { e with thrHitF := true, errWin := 0, frames := 0 }).startRetrain n far
    else d

/-- LINK_FRAME_RECEIVE (R364). -/
def execLinkFrameReceive (link far : Nat) (crcOk late : Bool) (s : State) : Host.Outcome State Fault Refusal :=
  .next (s.upd fun d => d.linkFrame link (far = 1) crcOk late)

/-- A retrain ends (R365 to R367): with qualification passed the link is UP and its streams are restored; a first failure
starts another retrain, a second one in succession fences the link. (DEDUCED, assumption log 73.) -/
def Device.retrainDone (d : Device) (n : Nat) (pass : Bool) : Device :=
  if (d.link n).st ≠ .retraining then d
  else if pass then
    let users := d.streamsOver (FabLink.isLink n)
    let d := d.updLink n fun l => { (l.onEnds fun e => { e with retrainedF := true, errWin := 0, frames := 0 }) with st := .up, fails := 0 }
    let d := d.restore 0x13 (unitDie (n % 8)) (users.filter fun s => !(d.fab.lostSlots.any fun e => e.2 = s))
    d.wakeRouters
  else
    let twice := decide (1 ≤ (d.link n).fails)
    let d := d.updLink n fun l => { l with fails := l.fails + 1 }
    if twice then d.fenceLink n else d.startRetrain n false

/-- The qualification pattern passes with at most ERR_THR / 4 CRC failures, rounded down (R365). -/
def Device.qualifies (d : Device) (failures : Nat) : Bool := decide (failures ≤ d.fab.errThr / 4)

/-- RETRAIN_COMPLETE (R365), with the CRC failures of the qualification pattern. -/
def execRetrainComplete (link failures : Nat) (s : State) : Host.Outcome State Fault Refusal :=
  .next (s.upd fun d => d.retrainDone link (d.qualifies failures))

/-- A write of LINK_CTRL at an end: of the hub block, or of a die's (R375, R376, R579). -/
def Device.linkWrite (d : Device) (who n : Nat) (far : Bool) (need : Role) (op : Device → Nat × Device) : Device :=
  if n < 8 ∧ far = false then d.rowWrite who need fun d => if d.linkExists n then op d else (stFieldRange, d)
  else d.dieWrite who (if n < 8 then n else if far then (n + 1) % d.dieCount else n % 8) need
    fun d => if d.linkExists n then op d else (stFieldRange, d)

/-- LINK_CTRL.RETRAIN (R375): refused on a FENCED link. A link that is not UP has nothing to retrain. (DEDUCED, assumption
log 73.) -/
def Device.ctrlRetrain (d : Device) (n : Nat) (far : Bool) : Nat × Device :=
  match (d.link n).st with
  | .fenced => (stWrongState, d)
  | .up => (stOK, d.startRetrain n far)
  | _ => (stOK, d)

/-- LINK_CTRL.UNFENCE (R369): starts a retrain of a fenced link, its history of retrains cleared. A link that is not fenced
stays as it is. (DEDUCED, assumption log 73.) -/
def Device.ctrlUnfence (d : Device) (n : Nat) (far : Bool) : Nat × Device :=
  if (d.link n).st ≠ .fenced then (stOK, d)
  else (stOK, d.updLink n fun l =>
    { (l.onEnd far fun e => { e with retrainCount := satInc e.retrainCount }) with st := .retraining, fails := 0, retrains := [d.real] })

/-- LINK_CTRL_RETRAIN (R375). -/
def execLinkCtrlRetrain (who link far : Nat) (s : State) : Host.Outcome State Fault Refusal :=
  .next (s.upd fun d => d.linkWrite who link (far = 1) .maintainer fun d => d.ctrlRetrain link (far = 1))

/-- LINK_CTRL_UNFENCE (R369). -/
def execLinkCtrlUnfence (who link far : Nat) (s : State) : Host.Outcome State Fault Refusal :=
  .next (s.upd fun d => d.linkWrite who link (far = 1) .owner fun d => d.ctrlUnfence link (far = 1))

/-- BE_PACKET_TIMEOUT (R363): a packet not acknowledged in time is sent again once; a second loss is reported. -/
def execBePacketTimeout (unit packet : Nat) (s : State) : Host.Outcome State Fault Refusal :=
  .next (s.upd fun d =>
    if d.fab.beResent.contains (unit, packet) then
      (d.updFab fun f => { f with beResent := f.beResent.filter fun e => e ≠ (unit, packet) }).fault unit unit 0x13 0 363
    else d.updFab fun f => { f with beResent := f.beResent ++ [(unit, packet)] })

end Sys2Proof.Machine
end

