-- ==== Sys2Proof/Machine/Thermal.lean ====
section
/-! DEFINITION. Thermal sensing, the throttle steps, the hardware trip and package power (R558 to R565), and the forms
of the thermal registers (R572, R574). -/
namespace Sys2Proof.Machine

def Device.updTherm (d : Device) (f : Thermal → Thermal) : Device := { d with therm := f d.therm }

/-- Internal diodes of the grade (R558). -/
def Device.diodes (d : Device) : Nat := 2 + 2 * d.dieCount

/-- A sensor that exists: an internal diode of the grade, or an external channel, numbered from 32 (R558, R574). (DEDUCED,
assumption log 91.) -/
def Device.sensorExists (d : Device) (i : Nat) : Bool := decide (i < d.diodes) || (decide (32 ≤ i) && decide (i < 40))

def Thermal.sensor (t : Thermal) (i : Nat) : Sensor := tget .reset t.sensors i

/-- WARN and LIMIT of a sensor, in °C (R560). -/
def Thermal.warnOf (t : Thermal) (i : Nat) : Nat := if i < 32 then t.tWarn else (t.sensor i).warn
def Thermal.limitOf (t : Thermal) (i : Nat) : Nat := if i < 32 then t.tLimit else (t.sensor i).limit

/-- A sensor is in service: it has been sampled, a channel has a mode, and a faulty channel is taken at its LIMIT
(R559, R561, R572). -/
def Thermal.inService (t : Thermal) (i : Nat) : Bool :=
  let x := t.sensor i
  x.present && (decide (i < 32) || (decide (x.mode ≠ 0) && (!x.fault || x.failsafe)))

/-- The reading of R561 in 1/16 °C: a faulty sensor in service reads exactly its LIMIT (R559). -/
def Thermal.reading (t : Thermal) (i : Nat) : Int := if (t.sensor i).fault then 16 * t.limitOf i else (t.sensor i).temp

/-- x of one sensor (R561), with its reading raised by a number of °C. -/
def Thermal.xOf (t : Thermal) (raise i : Nat) : Rat :=
  ((t.reading i + 16 * raise - 16 * t.warnOf i : Int) : Rat) / ((16 * (t.limitOf i - t.warnOf i) : Nat) : Rat)

/-- target(v) (R561). -/
def targetOf (v : Rat) : Nat := if v < 0 then 0 else if 1 ≤ v then 15 else 1 + (14 * v).floor.toNat

/-- Sensors in service. -/
def Thermal.live (t : Thermal) : List Nat := (t.sensors.map fun e => e.1).filter fun i => t.inService i

/-- target of the largest x (R561). -/
def Thermal.target (t : Thermal) (raise : Nat) : Nat := (t.live.map fun i => targetOf (t.xOf raise i)).foldl max 0

/-- The sensor with the largest x; of equals, the lowest number (R574). -/
def Thermal.hottest (t : Thermal) : Option Nat :=
  t.live.foldl (fun (best : Option Nat) i => match best with
    | none => some i
    | some b => if t.xOf 0 b < t.xOf 0 i then some i else some b) none

/-- The period of a code (R560, R574). -/
def periodTc (code : Nat) : Nat := msTc (if code = 2 then 1 else if code = 1 then 10 else 100)

/-- Period code of a reading (R560, R574). -/
def periodOf (reading : Int) (warn limit : Nat) : Nat :=
  if 16 * limit - 48 ≤ reading then 2 else if 16 * warn - 160 ≤ reading then 1 else 0

/-- k changes (R562): a rise is counted and flagged; step 15 sheds (R338); below it admission reopens. -/
def Device.setStep (d : Device) (k : Nat) : Device :=
  let was := d.therm.k
  let rose := decide (was < k)
  let d := d.updTherm fun t =>
    { t with k := k, kChangedAt := some d.real, stepCount := if rose then satInc t.stepCount else t.stepCount,
             stepUpF := t.stepUpF || rose }
  let d := if rose then d.glb 3 else d
  if k = 15 ∧ was ≠ 15 then d.shedThermal
  else if k ≠ 15 ∧ was = 15 then { d with adm := { d.adm with closed := d.adm.draining } }
  else d

/-- The throttle step moves after a sample (R562). -/
def Device.moveStep (d : Device) : Device :=
  let t := d.therm
  let up := t.target 0
  let since (ms : Nat) : Bool := match t.kChangedAt with | none => true | some a => decide (a + msTc ms ≤ d.real)
  if up = 15 ∧ t.k ≠ 15 then d.setStep 15
  else if t.k < up ∧ since t.stepUp then d.setStep (t.k + 1)
  else if t.target t.hyst < t.k ∧ since t.stepDown then d.setStep (t.k - 1)
  else d

/-- A channel fault (R559): flagged, counted and reported. The spec gives its report no EVENT code, which is a free value.
(DESIGN CHOICE, assumption log 21.) -/
def Device.sensorFault (d : Device) (i : Nat) : Device :=
  let d := d.updTherm fun t => { t with sensorFaultF := true, sensorFaultCount := satInc t.sensorFaultCount }
  let (event, d) := takeFree 8 (d.glb 3)
  d.fault unitPackage unitPackage event 0 i

/-- A sample of a sensor (R558 to R562). (DEDUCED, assumption log 91.) -/
def Device.sample (d : Device) (i : Nat) (reading : Int) (fault : Bool) : Device :=
  let t := d.therm
  let x := t.sensor i
  let before := t.inService i && decide (16 * (t.warnOf i : Int) ≤ t.reading i)
  let internal := decide (i < 32)
  let temp : Int := if internal && fault then 16 * t.tLimit else reading
  let y : Sensor := { x with temp := temp, present := true, fault := fault, sampledAt := d.real,
                             period := periodOf temp (t.warnOf i) (t.limitOf i) }
  let d := d.updTherm fun t => { t with sensors := tset t.sensors i y }
  let d := if fault && !x.fault && !internal then d.sensorFault i else d
  let t := d.therm
  let after := t.inService i && decide (16 * (t.warnOf i : Int) ≤ t.reading i)
  let d := d.updTherm fun t => { t with warnF := t.warnF || (after && !before) }
  let d := match d.therm.hottest with
    | some h => d.updTherm fun t => { t with hotSensor := h, hotReading := t.reading h }
    | none => d
  d.moveStep

/-- A sensor's next sample is due: its first, or a period after the last (R560). -/
def Device.sampleDue (d : Device) (i : Nat) : Bool :=
  let x := d.therm.sensor i
  !x.present || d.ranOut x.sampledAt (periodTc x.period)

/-- THERMAL_SAMPLE (R560 to R562): the reading in 1/16 °C; `fault` is the self-check of a diode or the range of a
channel. A channel that is off is not sampled. -/
def execThermalSample (sensor : Nat) (reading : Int) (fault : Bool) (s : State) : Host.Outcome State Fault Refusal :=
  .next (s.upd fun d =>
    if !d.sensorExists sensor || (decide (32 ≤ sensor) && decide ((d.therm.sensor sensor).mode = 0)) || !d.sampleDue sensor then d
    else d.sample sensor reading fault)

/-- PKG_POWER_UPDATE (R565): a 10 ms average; above PKG_LIMIT it is reported once per second. -/
def execPkgPowerUpdate (milliwatts : Nat) (s : State) : Host.Outcome State Fault Refusal :=
  .next (s.upd fun d =>
    let was := d.therm.pkgPower
    let limit := d.adm.pkgLimit * 1000
    let d := d.updTherm fun t => { t with pkgPower := milliwatts }
    if milliwatts ≤ limit then d.updTherm fun t => { t with overReportedAt := none }
    else
      let due := match d.therm.overReportedAt with | none => true | some a => decide (a + msTc 1000 ≤ d.real)
      let d := if was ≤ limit then (d.updTherm fun t => { t with overLimitF := true }).glb 3 else d
      if due then (d.fault unitPackage unitPackage 0x19 0 (min milliwatts 0xFFFFFFFF)).updTherm
        fun t => { t with overReportedAt := some d.real }
      else d)

/-! ### The hardware trip (R564) -/

/-- Every compute die's regions and die manager are reset, every row parked (R37, R40). -/
def Device.resetDies (d : Device) : Device :=
  forEach (List.range d.dieCount) (fun n d =>
    if d.flt.fenced.contains n then d
    else (d.resetCompute n).updDie n fun x => { x with dm := .computeReset, wdogRow := 0, replicaBad := 0 }) d

/-- THERMAL_TRIP (R564, R342). -/
def Device.trip (d : Device) (diode : Nat) : Device :=
  if d.therm.tripped ∨ d.diodes ≤ diode then d
  else
    let d := d.updTherm fun t => { t with tripped := true, hubHaltDue := decide (diode < 2), trippedAt := d.real }
    let d : Device := { d with pins := { d.pins with thermTripLow := true }, start := { d.start with st := .tripped },
                               hbm := { d.hbm with selfRefresh := true } }
    let d := d.resetDies
    let d := forEach d.portList (fun p d => d.updPort p fun x => { x with st := .down, lanes := 0, rate := 0, downAt := d.real }) d
    let live := d.liveStreams
    (forEach live (fun s d => d.toReleasing s) d).breach 0x02 unitPackage live

def execThermalTrip (diode : Nat) (s : State) : Host.Outcome State Fault Refusal := .next (s.upd fun d => d.trip diode)

/-- HUB_HALT_AFTER_TRIP (R564): the trip of a hub diode halts the hub's processor 100 ms later. -/
def execHubHaltAfterTrip (s : State) : Host.Outcome State Fault Refusal :=
  .next (s.upd fun d =>
    if d.therm.hubHaltDue ∧ d.ranOut d.therm.trippedAt (msTc 100) then
      ({ d with pins := { d.pins with hubHalted := true } }).updTherm fun t => { t with hubHaltDue := false }
    else d)

/-! ### Register forms (R572, R574) -/

/-- A write of THERM_STATUS clears its flags (R573, R574). -/
def Thermal.clearFlags (t : Thermal) (v : Nat) : Thermal :=
  { t with warnF := w1c t.warnF v 8, stepUpF := w1c t.stepUpF v 9, sensorFaultF := w1c t.sensorFaultF v 10,
           overLimitF := w1c t.overLimitF v 11 }

/-- A write of T_WARN to STEP_DOWN by offset: the status, and the block after it. -/
def Thermal.setReg (t : Thermal) (off v : Nat) : Nat × Thermal :=
  match off with
  | 0x04 => if 255 < v then (stReserved, t) else if v < 60 ∨ 102 < v ∨ t.tLimit < v + 3 then (stFieldRange, t)
            else (stOK, { t with tWarn := v })
  | 0x08 => if 255 < v then (stReserved, t) else if v < 63 ∨ 105 < v ∨ v < t.tWarn + 3 then (stFieldRange, t)
            else (stOK, { t with tLimit := v })
  | 0x0C => if 15 < v then (stReserved, t) else if v < 1 ∨ 10 < v then (stFieldRange, t) else (stOK, { t with hyst := v })
  | 0x10 => if 1023 < v then (stReserved, t) else if v < 1 ∨ 1000 < v then (stFieldRange, t)
            else (stOK, { t with stepUp := v })
  | 0x14 => if 65535 < v then (stReserved, t) else if v < 100 ∨ 60000 < v then (stFieldRange, t)
            else (stOK, { t with stepDown := v })
  | _ => (stFieldRange, t)

/-- EXT_PARAM fits a mode (R574): 1 an ideality, 2 a thermistor. (DEDUCED, assumption log 91.) -/
def extParamFits (mode p : Nat) : Bool :=
  if mode = 1 then decide (15565 ≤ p % 65536) && decide (p % 65536 ≤ 18022) && decide (p / 65536 = 0)
  else if mode = 2 then decide (2000 ≤ p % 65536) && decide (p % 65536 ≤ 6000) && decide (100 ≤ p / 65536)
  else true

/-- A write of EXT_CFG (R572, R574). A channel whose mode changes waits for its first sample. -/
def Sensor.setCfg (x : Sensor) (v : Nat) : Nat × Sensor :=
  let mode := bits v 1 0
  let warn := bits v 15 8
  let limit := bits v 23 16
  if bits v 7 3 ≠ 0 ∨ bits v 31 24 ≠ 0 then (stReserved, x)
  else if mode = 3 ∨ 147 < warn ∨ limit < 3 ∨ 150 < limit ∨ limit < warn + 3 ∨ ¬ extParamFits mode x.param then
    (stFieldRange, x)
  else (stOK, { x with mode := mode, failsafe := bit v 2, warn := warn, limit := limit,
                       present := x.present && decide (mode = x.mode) && decide (mode ≠ 0),
                       fault := x.fault && decide (mode = x.mode) && decide (mode ≠ 0) })

/-- A write of EXT_PARAM (R572, R574): it fits one of the two modes. -/
def Sensor.setParam (x : Sensor) (v : Nat) : Nat × Sensor :=
  if !(extParamFits 1 v || extParamFits 2 v) then (stFieldRange, x)
  else if x.mode ≠ 0 then (stWrongState, x)
  else (stOK, { x with param := v })

/-- EXT_CFG, EXT_TEMP and INT_TEMP as read (R574). -/
def Sensor.cfg (x : Sensor) : Nat := x.mode + b2n x.failsafe * 4 + x.warn * 256 + x.limit * 65536
def Sensor.extTemp (x : Sensor) : Nat := ux 16 x.temp + b2n x.fault * 65536 + x.period * 2 ^ 17
def Sensor.intTemp (x : Sensor) (exists_ : Bool) : Nat := ux 16 x.temp + b2n exists_ * 65536 + x.period * 2 ^ 17

/-- THERM_STATUS (R574). -/
def Thermal.status (t : Thermal) : Nat :=
  t.k + b2n (t.k = 15) * 16 + b2n t.tripped * 32 + b2n t.warnF * 256 + b2n t.stepUpF * 512 + b2n t.sensorFaultF * 1024
    + b2n t.overLimitF * 2048

end Sys2Proof.Machine
end

