-- ==== Sys2Proof/Machine/RegRead.lean ====
section
/-! DEFINITION. What each register of control space reads as (chapter 18 and the register tables of the other chapters). A
WO register and a reserved offset read zero (R13, R579). -/
namespace Sys2Proof.Machine

/-! ### Helpers -/

/-- The halves of a 64-bit value. -/
def lo32 (v : Nat) : Nat := v % 2 ^ 32
def hi32 (v : Nat) : Nat := v / 2 ^ 32 % 2 ^ 32

/-- The 32-bit word at a byte offset of a byte string, lowest address least significant (R12). -/
def byteWord (bs : List Byte) (off : Nat) : Nat := leValue ((bs.drop off).take 4)

/-- The bytes of a SHA-384 value, first byte first. (PRESUMED, assumption log 33.) -/
def digestBytes (v : Nat) : List Byte := (leBytes 48 v).reverse

/-- Bits of a list of 32 flags. -/
def flagWord (f : Nat → Bool) : Nat := ((List.range 32).map fun i => b2n (f i) * 2 ^ i).sum

/-- CRC-32 of bytes (R566): the CRC-32 of Ethernet, which the spec names without its polynomial (PRESUMED). (PRESUMED,
assumption log 33.) -/
def crc32 (bs : List Byte) : Nat :=
  let bitStep (c : Nat) (_ : Nat) : Nat := if c % 2 = 1 then c / 2 ^^^ 0xEDB88320 else c / 2
  (bs.foldl (fun c b => (List.range 8).foldl bitStep (c ^^^ b.toNat)) 0xFFFFFFFF) ^^^ 0xFFFFFFFF

/-! ### Hub blocks -/

/-- A shard is corrupt now (R407). -/
def Device.anyCorrupt (d : Device) : Bool :=
  d.mm.slots.any fun e => (e.2.area0.shards ++ e.2.area1.shards).any fun h => h.corrupt

/-- Identity and global status (R586). -/
def Device.identRead (d : Device) (off : Nat) : Nat :=
  match off with
  | 0x00 => 0x53580008
  | 0x04 => d.sec.stepping
  | 0x08 => d.sec.grade + (2 ^ d.sec.grade - 1) * 2 ^ 8 + d.start.capDies * 2 ^ 16
  | 0x0C => 0x10081020
  | 0x10 => lo32 d.sec.deviceId
  | 0x14 => hi32 d.sec.deviceId
  | 0x18 => d.sec.fwVersion
  | 0x1C => d.sec.fwBuild
  | 0x20 => d.start.st.code + d.tb.st.code * 2 ^ 3 + d.therm.k * 2 ^ 6 + d.sec.mode.code * 2 ^ 10
              + b2n d.adm.closed * 2 ^ 12 + b2n (!d.flt.fenced.isEmpty) * 2 ^ 13 + b2n d.anyCorrupt * 2 ^ 14
  | 0x24 => d.glbEvent
  | 0x30 => d.hostScratch
  | _ => 0

/-- A word of a notice log entry (R347). (DEDUCED, assumption log 32.) -/
def Notice.word (n : Notice) (off : Nat) : Nat :=
  match off with
  | 0x00 => n.seq
  | 0x04 => n.cause + b2n n.exception * 2 ^ 8 + n.kind * 2 ^ 9 + n.named.length * 2 ^ 16
  | 0x08 => lo32 n.mer
  | 0x0C => hi32 n.mer
  | 0x10 => n.unit
  | _ => if inR off 0x20 0x3C then flagWord fun i => n.named.any fun e => e.1 = 8 * (off - 0x20) + i else 0

/-- Admission and Almanac (R347). Slot s of the notice log holds notice NOTICE_SEQ − s. (DEDUCED, assumption log 32.) -/
def Device.admRead (d : Device) (off : Nat) : Nat :=
  let a := d.adm
  match off with
  | 0x00 => a.engine + b2n a.closed * 4 + d.therm.k * 2 ^ 8 + b2n a.breachF * 2 ^ 12 + b2n a.shedF * 2 ^ 13
              + b2n a.capacityF * 2 ^ 14
  | 0x04 => a.pkgLimit
  | 0x08 => d.admCap
  | 0x0C => d.powerUsed
  | 0x10 => a.pBase
  | 0x14 => a.eMvm10
  | 0x18 => a.eMvm15
  | 0x1C => a.eMvm20
  | 0x20 => a.ePath
  | 0x24 => a.eDmu
  | 0x28 => a.eHbm
  | 0x2C => a.ePort
  | 0x30 => a.hbmResMax
  | 0x34 => a.fabTtMax
  | 0x38 => a.unboundLen + a.unboundPeriod * 2 ^ 24
  | 0x40 => d.ledgerReserved
  | 0x44 => d.ledgerUsed
  | 0x48 => a.ledgerHwm
  | 0x4C => a.ledgerFullCount
  | 0x50 => a.absentCount
  | 0x54 => d.ctxReserved
  | 0x58 => a.noticeSeq
  | _ =>
    if inR off 0x100 0x11C then
      flagWord fun i => decide ((d.stream (8 * (off - 0x100) + i)).st ≠ .free) && (d.stream (8 * (off - 0x100) + i)).guarantee
    else if inR off 0x200 0x37F then
      let (len, dv, ph) := tget (0, 0, 0) a.dark ((off - 0x200) / 8)
      if off % 8 = 0 then len + dv * 2 ^ 20 else ph
    else if inR off 0x400 0x7FF then
      let x := d.stream ((off - 0x400) / 4)
      x.st.code + x.almanacNo * 4 + x.prio * 2 ^ 6
    else if inR off 0x1000 0x1FFF then
      match a.notices[(off - 0x1000) / 64]? with | some n => n.word (off % 64) | none => 0
    else 0

/-- One end of a link (R375). -/
def Link.endRead (l : Link) (far : Bool) (off : Nat) : Nat :=
  let e := l.endOf far
  match off with
  | 0x00 => l.st.code + b2n e.thrHitF * 2 ^ 8 + b2n e.retrainedF * 2 ^ 9 + b2n e.fencedF * 2 ^ 10 + b2n e.clockLostF * 2 ^ 11
  | 0x08 => e.errWin
  | 0x0C => e.errCount
  | 0x10 => e.replayCount
  | 0x14 => e.retrainCount
  | 0x18 => e.lateReplayCount
  | _ => 0

/-- Hub fabric (R375). (DEDUCED, assumption log 36.) -/
def Device.fabRead (d : Device) (off : Nat) : Nat :=
  match off with
  | 0x00 => ((List.range d.dieCount).map fun n => b2n (decide ((d.link n).st ≠ .up)) * 2 ^ n).sum + b2n d.fab.detourF * 2 ^ 8
  | 0x04 => d.fab.errWindow
  | 0x08 => d.fab.errThr
  | 0x0C => d.fab.fenceRetrains
  | 0x10 => d.fab.fencePeriod
  | _ =>
    if inR off 0x40 0x13F then (d.link ((off - 0x40) / 0x20)).endRead false ((off - 0x40) % 0x20)
    else if inR off 0x200 0x210 then lget 1 d.fab.hubWeight ((off - 0x200) / 4)
    else 0

/-- Timebase (R76). -/
def Device.tbRead (d : Device) (off : Nat) : Nat :=
  let t := d.tb
  match off with
  | 0x00 => t.ctrl
  | 0x04 => t.st.code + t.refSrc * 2 ^ 3 + b2n t.loss * 2 ^ 8 + b2n t.expired * 2 ^ 9 + b2n t.stepBlocked * 2 ^ 10
              + b2n t.lateEvent * 2 ^ 11 + b2n t.replicaErr * 2 ^ 12
  | 0x08 => lo32 d.clk.latch
  | 0x0C => hi32 d.clk.latch
  | 0x10 => t.frameOffsetLo
  | 0x14 => t.frameOffsetHi
  | 0x18 => t.oscStab
  | 0x1C => t.teLimit
  | 0x20 => t.lockTe
  | 0x24 => t.stepThreshold
  | 0x28 => t.slewMax
  | 0x2C => t.refPrio
  | 0x30 => ux 32 t.phaseOffset
  | 0x34 => ux 32 t.freqEst
  | 0x38 => d.holdRemain
  | 0x3C => t.lateEvents
  | 0x50 => t.freqUnc
  | _ => if inR off 0x40 0x4C then ux 32 (lget 0 t.asym ((off - 0x40) / 4)) else 0

/-- Ports A and B, collectors (R505). -/
def Device.pabRead (d : Device) (off : Nat) : Nat :=
  let p := d.pab
  match off with
  | 0x00 => b2n p.linkA + b2n p.linkB * 2 + b2n p.linkAF * 2 ^ 8 + b2n p.linkBF * 2 ^ 9
  | 0x04 => p.cfg
  | 0x10 => p.aIp4
  | 0x30 => p.bIp4
  | 0x70 => lget 0 p.collCfg 0
  | 0x90 => lget 0 p.collCfg 1
  | 0xA0 => lo32 p.rseqLatch
  | 0xA4 => hi32 p.rseqLatch
  | 0xA8 => p.reportDrop
  | _ =>
    if inR off 0x14 0x20 then lget 0 p.aIp6 ((off - 0x14) / 4)
    else if inR off 0x34 0x40 then lget 0 p.bIp6 ((off - 0x34) / 4)
    else if inR off 0x60 0x6C then lget 0 (lget [] p.collIp 0) ((off - 0x60) / 4)
    else if inR off 0x80 0x8C then lget 0 (lget [] p.collIp 1) ((off - 0x80) / 4)
    else 0

/-- Sessions open. -/
def Device.openSessions (d : Device) : List Nat := (List.range 8).filter fun n => (d.session n).inUse

/-- The handshake that a free table entry shows: the entries not in use show the handshakes in progress in order. -/
def Device.handshakeAt (d : Device) (n : Nat) : Option Handshake :=
  d.bcp.handshakes[((List.range n).filter fun i => !(d.session i).inUse).length]?

/-- A session table entry (R474). (DEDUCED, assumption log 36.) -/
def Device.sessionRead (d : Device) (n off : Nat) : Nat :=
  let x := d.session n
  if x.inUse then
    match off with
    | 0x0 => 2 + x.role.code * 2 ^ 4 + x.port * 2 ^ 6 + (d.held.filter fun h => h.session = n).length * 2 ^ 8
    | 0x4 => x.id
    | 0x8 => x.base
    | 0xC => (x.lastValid + msTc (d.bcp.idle * 1000) - d.real) / msTc 100
    | _ => 0
  else match d.handshakeAt n with
    | some h => if off = 0 then 1 + h.role.code * 2 ^ 4 + h.port * 2 ^ 6 else if off = 4 then h.id else 0
    | none => 0

/-- BCP settings and session table (R474). -/
def Device.bcpRead (d : Device) (off : Nat) : Nat :=
  let b := d.bcp
  match off with
  | 0x00 => b.ctrl
  | 0x04 => b.udpPort
  | 0x08 => b.idle
  | 0x0C => b.hold
  | 0x10 => b.payloadA
  | 0x14 => b.payloadB
  | 0x18 => d.openSessions.length + b2n b.hsFailF * 2 ^ 8 + b2n b.tagFailF * 2 ^ 9 + b2n b.supersededF * 2 ^ 10
  | 0x20 => b.hsFailCount
  | 0x24 => b.tagFailCount
  | 0x28 => b.replayDropCount
  | 0x2C => b.rejectCount
  | 0x30 => b.badSeqCount
  | 0x34 => b.notimeSessions
  | _ => if inR off 0x40 0xBF then d.sessionRead ((off - 0x40) / 16) (off % 16) else 0

/-- A port block (R503); its MAC address is MAC_BASE + p (R516). -/
def Device.portRead (d : Device) (p off : Nat) : Nat :=
  let x := d.port p
  match off with
  | 0x00 => x.status
  | 0x04 => hi32 (d.sec.macBase + p)
  | 0x08 => lo32 (d.sec.macBase + p)
  | 0x0C => x.ip4
  | 0x20 => x.unknownDrop
  | 0x24 => x.malformedDrop
  | 0x28 => x.policeDrop
  | 0x2C => x.lateDrop
  | 0x30 => x.quarDrop
  | 0x34 => x.dupDrop
  | 0x38 => x.fecUncorr
  | 0x3C => x.linkDown
  | _ => if inR off 0x10 0x1C then lget 0 x.ip6 ((off - 0x10) / 4) else 0

/-- A partner entry (R503). -/
def Device.partnerRead (d : Device) (n off : Nat) : Nat :=
  let x := d.partner n
  match off with
  | 0x0 => x.port + x.st * 2 ^ 4 + (x.quarTimes.filter fun t => d.real < t + msTc 86400000).length * 2 ^ 8 + hi32 x.mac % 2 ^ 16 * 2 ^ 16
  | 0x4 => lo32 x.mac
  | 0x8 => if d.real < x.violAt + msTc 1000 then x.viol else 0
  | _ => 0

/-- Data ports, partners, result destinations and bindings (R503, R504). -/
def Device.dpRead (d : Device) (off : Nat) : Nat :=
  let x := d.dp
  match off with
  | 0x00 => ((List.range 16).map fun p => b2n (decide ((d.port p).st = .up) || decide ((d.port p).st = .upDegraded)) * 2 ^ p).sum
              + b2n x.degradedF * 2 ^ 16 + b2n x.linkLostF * 2 ^ 17 + b2n x.quarantineF * 2 ^ 18 + b2n x.inputLostF * 2 ^ 19
  | 0x04 => ((List.range 4).map fun q => lget 9 x.quadCfg q * 2 ^ (8 * q)).sum
  | 0x08 => x.trainLimit
  | 0x0C => x.ingressMargin
  | 0x10 => x.streamTimeout
  | 0x14 => x.policeSlack
  | 0x18 => x.quarThr
  | 0x1C => x.quarHold
  | 0x20 => x.egressOversize
  | _ =>
    if inR off 0x100 0x4FF then d.portRead ((off - 0x100) / 0x40) (off % 0x40)
    else if inR off 0x1000 0x13FF then d.partnerRead ((off - 0x1000) / 16) (off % 16)
    else if inR off 0x2000 0x3FFF then lget 0 (tget .reset x.dests ((off - 0x2000) / 0x20)).w (off % 0x20 / 4)
    else if inR off 0x4000 0x5FFF then lget 0 (tget .reset x.binds ((off - 0x4000) / 0x20)).w (off % 0x20 / 4)
    else 0

/-- HBM (R587). -/
def Device.hbmRead (d : Device) (off : Nat) : Nat :=
  match off with
  | 0x00 => d.hbm.st0 + d.hbm.st1 * 4 + b2n d.hbm.selfRefresh * 16 + b2n d.hbm.eccCorrF * 2 ^ 8 + b2n d.hbm.eccUncorrF * 2 ^ 9
  | 0x04 => d.hbm.eccCorr
  | 0x08 => d.hbm.eccUncorr
  | 0x10 => d.hbmReserved 0
  | 0x14 => d.hbmReserved 1
  | _ => 0

/-- Thermal and power (R574). -/
def Device.thermRead (d : Device) (off : Nat) : Nat :=
  let t := d.therm
  match off with
  | 0x00 => t.status
  | 0x04 => t.tWarn
  | 0x08 => t.tLimit
  | 0x0C => t.hyst
  | 0x10 => t.stepUp
  | 0x14 => t.stepDown
  | 0x18 => t.hotSensor + ux 16 t.hotReading * 2 ^ 16
  | 0x1C => t.pkgPower
  | 0x20 => t.stepCount
  | 0x24 => t.sensorFaultCount
  | _ =>
    if inR off 0x100 0x144 then (t.sensor ((off - 0x100) / 4)).intTemp (d.sensorExists ((off - 0x100) / 4))
    else if inR off 0x200 0x27F then
      let x := t.sensor (32 + (off - 0x200) / 16)
      match off % 16 with | 0x0 => x.cfg | 0x4 => x.param | 0x8 => x.extTemp | _ => 0
    else 0

/-- Start-up and capacity (R575). -/
def Device.startRead (d : Device) (off : Nat) : Nat :=
  match off with
  | 0x00 => d.start.st.code + d.start.step * 16
  | 0x04 => d.start.minDies + d.start.lockWait * 2 ^ 8
  | 0x08 => d.start.startTime
  | 0x0C => d.start.capDies
  | 0x10 => d.start.capTiles
  | 0x14 => d.start.capLinks
  | 0x18 => d.start.flagRaceCount
  | _ => 0

/-- Security (R546). -/
def Device.secRead (d : Device) (off : Nat) : Nat :=
  let s := d.sec
  match off with
  | 0x00 => s.lifeCode + s.mode.code * 4 + b2n s.trngWarn * 2 ^ 8 + b2n s.otpBurnFail * 2 ^ 9 + b2n s.rollback * 2 ^ 10
              + b2n s.sigFail * 2 ^ 11 + b2n s.migrating * 2 ^ 12
  | 0x04 => lo32 s.deviceId
  | 0x08 => hi32 s.deviceId
  | 0x0C => s.fwVersion
  | 0x10 => s.fwBuild
  | 0x14 => svnWord s.svnRun
  | 0x18 => svnWord s.arb
  | 0x1C => s.anchorWord
  | 0x20 => s.bootAttempts
  | 0x24 => s.selfTest
  | 0x28 => s.fwCode + s.fw.verified * 16
  | 0x2C => s.keystore.length
  | 0x30 => s.otpBurnFailCount
  | 0x34 => s.sigFailCount
  | 0x38 => s.trngFailCount
  | 0x3C => s.logTagFailCount
  | _ =>
    if inR off 0x100 0x12F then byteWord (digestBytes s.measLoader) (off - 0x100)
    else if inR off 0x130 0x15F then byteWord (digestBytes s.measHub) (off - 0x130)
    else if inR off 0x160 0x18F then byteWord (digestBytes s.measDie) (off - 0x160)
    else 0

/-- A 32-bit word of a fault record (R445). (DEDUCED, assumption log 32.) -/
def FaultRecord.word (f : FaultRecord) (off : Nat) : Nat :=
  match off with
  | 0x00 => f.seq
  | 0x04 => lo32 f.mer
  | 0x08 => hi32 f.mer
  | 0x0C => f.unitL
  | 0x10 => f.unitP
  | 0x14 => f.event + f.action * 2 ^ 8 + f.count * 2 ^ 16
  | 0x18 => f.detail
  | 0x1C => f.stream
  | _ => 0

/-- Fault reporting (R449). Slot s of the log holds record FLT_SEQ − s. (DEDUCED, assumption log 32.) -/
def Device.fltRead (d : Device) (off : Nat) : Nat :=
  let f := d.flt
  match off with
  | 0x00 => b2n f.fenceF + b2n f.quarantineF * 2 + b2n f.shedF * 4 + b2n f.testFailF * 8
  | 0x04 => f.seq
  | 0x08 => f.ckK
  | 0x0C => f.redK
  | 0x10 => f.cusumK
  | 0x14 => f.cusumH
  | 0x18 => f.suspectFails
  | 0x1C => f.testPeriod
  | 0x20 => f.obsFactor
  | 0x24 => f.obsClear
  | 0x28 => f.obsPeriod
  | 0x2C => f.remapLimit
  | 0x30 => f.statTrig
  | 0x40 => maskOf f.fenced
  | 0x80 => f.failResultCount
  | 0x84 => f.recallCount
  | 0x88 => f.sealCount
  | 0x8C => f.replaceCount
  | _ =>
    if inR off 0x48 0x64 then tget 0 f.fenceCause ((off - 0x48) / 4)
    else if inR off 0x1000 0x2FFF then
      match f.log[(off - 0x1000) / 32]? with | some x => x.word (off % 32) | none => 0
    else 0

/-- The area with the newest epoch of a model slot. -/
def ModelSlot.newest (m : ModelSlot) : Area :=
  if m.area1.st ≠ .empty ∧ (m.area0.st = .empty ∨ m.area0.epoch < m.area1.epoch) then m.area1 else m.area0

/-- Units of the store held by areas, and free (R386, R407). -/
def ModelMgr.unitsUsed (m : ModelMgr) : Nat :=
  (m.slots.map fun e => (b2n e.2.area0.allocated + b2n e.2.area1.allocated) * e.2.areaUnits).sum

/-- A model slot block (R407). -/
def ModelSlot.read (m : ModelSlot) (off : Nat) : Nat :=
  let toCross := match m.plan with | some p => (p.streams.filter fun e => !e.2.2).length | none => 0
  match off with
  | 0x00 => m.model
  | 0x04 => m.area0.st.code + m.area1.st.code * 16 + b2n m.plan.isSome * 2 ^ 8
              + b2n ((m.area0.shards ++ m.area1.shards).any fun h => h.corrupt) * 2 ^ 9 + toCross * 2 ^ 16
  | 0x08 => m.activeEpoch
  | 0x0C => m.area0.version
  | 0x10 => m.area1.version
  | 0x14 => m.newest.verifiedShards.length + m.newest.dressed.length * 2 ^ 16
  | 0x18 => m.area0.base + m.areaUnits * 2 ^ 16
  | _ => 0

/-- Model manager (R407). -/
def Device.mmRead (d : Device) (off : Nat) : Nat :=
  let m := d.mm
  match off with
  | 0x00 => b2n m.loadFailF + b2n m.rehashFailF * 2 + b2n m.auditFailF * 4 + b2n m.switchDoneF * 8 + b2n d.anyCorrupt * 16
              + (m.slots.filter fun e => decide (e.2.model ≠ 0)).length * 2 ^ 8
  | 0x04 => m.storeBase
  | 0x08 => m.storeSize
  | 0x0C => m.storeSize - m.unitsUsed
  | 0x10 => m.shardTimeout
  | 0x14 => m.idleLimit
  | 0x18 => m.switchLead
  | 0x1C => m.switchHorizon
  | 0x20 => m.rehashPeriod
  | 0x24 => m.auditPeriod
  | 0x28 => m.auditTol
  | 0x2C => m.auditMax
  | 0x30 => m.shardRetryCount
  | 0x34 => m.rehashFailCount
  | 0x38 => m.auditFailCount
  | 0x3C => m.poisonReadCount
  | _ => if inR off 0x100 0x2FF then (d.modelSlot ((off - 0x100) / 0x20)).read ((off - 0x100) % 0x20) else 0

/-! ### Settings and the OTP shadow (R566, R576, R588) -/

/-- Generations of a slot. -/
def Settings.gens (s : Settings) (t : Nat) : List Generation := tget (List.replicate 4 .blank) s.slots t

/-- The FMT values the firmware knows (R568). -/
def fmtKnown (f : Nat) : Bool := decide (f = 1)

/-- The generation in force: the highest good one of a known FMT (R568). -/
def Settings.inForce (s : Settings) (t : Nat) : Option (Nat × List Nat) :=
  (List.range 4).foldl (fun acc g => match lget .blank (s.gens t) g with
    | .good f v => if fmtKnown f then some (g, v) else acc
    | _ => acc) none

def Generation.isBlank : Generation → Bool | .blank => true | _ => false
def Generation.isSpent : Generation → Bool | .spent => true | _ => false

/-- SET_STATE of a TYPE (R576). -/
def Settings.state (s : Settings) (t : Nat) : Nat :=
  let g := s.gens t
  let m (p : Generation → Bool) : Nat := ((List.range 4).map fun i => b2n (p (lget .blank g i)) * 2 ^ i).sum
  (match s.inForce t with | some e => e.1 | none => 7) + m Generation.isSpent * 16 + m Generation.isBlank * 2 ^ 8

/-- Settings registers (R576). -/
def Device.setRead (d : Device) (off : Nat) : Nat :=
  if inR off 0x00 0x2C then lget 0 d.settings.stage (off / 4)
  else if off = 0x34 then d.settings.skipCount
  else if inR off 0x40 0x7C then d.settings.state ((off - 0x3C) / 4)
  else 0

/-- A 32-bit word of a good generation (R566). -/
def goodWord (t f : Nat) (data : List Nat) (k : Nat) : Nat :=
  if k = 0 then t + f * 256
  else if k = 1 then 0xA5 * 2 ^ 24
  else if k < 14 then lget 0 data (k - 2)
  else if k = 14 then crc32 ([BitVec.ofNat 8 t, BitVec.ofNat 8 f] ++ (List.range 12).flatMap fun i => leBytes 4 (lget 0 data i))
  else 0

/-- The identity area of the OTP shadow (R588). -/
def Security.identityWord (s : Security) (off : Nat) : Nat :=
  match off with
  | 0x00 => lo32 s.deviceId
  | 0x04 => hi32 s.deviceId
  | 0x08 => s.grade
  | 0x0C => s.stepping
  | 0x10 => lo32 s.macBase
  | 0x14 => hi32 s.macBase % 2 ^ 16
  | _ =>
    if inR off 0x20 0x4F then byteWord (digestBytes s.vendorAnchor) (off - 0x20)
    else if inR off 0x80 0xAF then byteWord (digestBytes s.identityDigest) (off - 0x80)
    else 0

/-- A word of the OTP shadow and settings block (R588). The bits of a spent generation, and the layout of the area that
holds lifecycle, anchors and counters, are not in the spec: they read as free values. (DESIGN CHOICE, assumption log 22.) -/
def Device.otpRead (d : Device) (off : Nat) : Nat × Device :=
  if off < 0x800 then (d.sec.identityWord off, d)
  else if off < 0x1800 then
    let t := (off - 0x800) / 0x100 + 1
    match lget .blank (d.settings.gens t) (off % 0x100 / 0x40) with
    | .blank => (0, d)
    | .spent => takeFree 32 d
    | .good f v => (goodWord t f v (off % 0x40 / 4), d)
  else if off < 0x1900 then takeFree 32 d
  else if inR off 0x2000 0x207F then (d.setRead (off - 0x2000), d)
  else if inR off 0x3000 0x37FF then (byteWord d.sec.certChain (off - 0x3000), d)
  else (0, d)

/-! ### Compute dies -/

/-- The link and the end at which a die's link block stands: its hub link, its lower and its higher ring link (R376). -/
def Device.dieLink (d : Device) (n k : Nat) : Nat × Bool :=
  if k = 0 then (n, true) else if k = 1 then (8 + (n + d.dieCount - 1) % d.dieCount, true) else (8 + n, false)

/-- DM_STATUS.STATE codes (R584). -/
def DmSt.code : DmSt → Nat | .reset => 0 | .inService => 1 | .computeReset => 2 | .fenced => 3

/-- Tiles dressing now in a region (R127). -/
def Device.dressingNow (d : Device) (r : Nat) : Nat :=
  (d.tiles.filter fun e => decide (ptRegion e.1 = r) && decide (e.2.dress.st = .active)).length

/-- Die manager block (R127, R376, R584, R608), with the requester's own TTW_SEL. -/
def Device.dieRead (d : Device) (n bank off : Nat) : Nat :=
  let x := d.die n
  match off with
  | 0x00 => x.dm.code + b2n x.wdogMissF * 2 ^ 8 + b2n x.otpEccF * 2 ^ 9
  | 0x04 => x.ident
  | 0x08 => x.wdogMissCount
  | 0x10 => bank
  | 0x220 => ((List.range 6).map fun g => d.dressingNow (6 * n + g) * 16 ^ g).sum
  | 0x224 => x.dressFailCount
  | 0x4C0 => x.beWeight
  | 0x4C4 => x.drainDropCount
  | 0x8000 => x.ident
  | 0x8004 => x.stepping
  | 0x8008 => x.park
  | _ =>
    if inR off 0x200 0x214 then (d.region (6 * n + (off - 0x200) / 4)).dressAllow
    else if inR off 0x400 0x45F then
      let (l, far) := d.dieLink n ((off - 0x400) / 0x20)
      (d.link l).endRead far ((off - 0x400) % 0x20)
    else if inR off 0x4A0 0x4B4 then (d.region (6 * n + (off - 0x4A0) / 4)).router.st.code
    else if inR off 0x8010 0x8078 then flagWord fun i => x.faulty.contains (8 * (off - 0x8010) + i)
    else if inR off 0x8100 0xFF7C then lget 0 x.repairs ((off - 0x8100) / 4)
    else if inR off 0xFF80 0xFFAC then byteWord (digestBytes x.digest) (off - 0xFF80)
    else 0

/-- SEQ_STATUS.STATE codes (R264). -/
def SeqSt.code : SeqSt → Nat
  | .reset => 0 | .idle => 1 | .running => 2 | .yielded => 3 | .halted => 4 | .quarantined => 5

def PsState.code : PsState → Nat | .free => 0 | .loading => 1 | .valid => 2

/-- A program slot block (R264). -/
def ProgSlot.read (p : ProgSlot) (off : Nat) : Nat :=
  match off with
  | 0x00 => p.st.code + p.stream * 2 ^ 8
  | 0x04 => p.base
  | 0x08 => p.len
  | 0x0C => p.hold
  | 0x10 => p.fabBound
  | 0x14 => p.hbmBound
  | 0x18 => p.actCount
  | _ =>
    if inR off 0x40 0x7F then
      match p.win[(off - 0x40) / 8]? with
      | some w => if off % 8 = 0 then w.base + b2n w.read * 2 ^ 30 + b2n w.write * 2 ^ 31 else w.size
      | none => 0
    else 0

/-- A word of an architected bank window (R264): loop and return levels from the bottom. (DEDUCED, assumption log 57.) -/
def Bank.read (b : Bank) (off : Nat) : Nat :=
  let part (v k : Nat) : Nat := v / 2 ^ (8 * k) % 2 ^ 32
  if off < 0x100 then part (tget 0 b.s (off / 8)) (off % 8)
  else if off < 0x180 then part (tget 0 b.a ((off - 0x100) / 8)) (off % 8)
  else if off = 0x180 then b.p ||| 1
  else if off = 0x184 then b.pc
  else if inR off 0x188 0x1A7 then
    match b.loop.reverse[(off - 0x188) / 8]? with
    | some (c, st) => if off % 8 = 0 then c else st
    | none => tget 0 b.above off
  else if off = 0x1A8 then b.loop.length + b.ret.length * 2 ^ 8
  else if inR off 0x1C0 0x1FF then (b.ret.reverse[(off - 0x1C0) / 4]?).getD (tget 0 b.above off)
  else if inR off 0x200 0x2FF then part (tget 0 b.q ((off - 0x200) / 16)) (off % 16)
  else if inR off 0x800 0xFFF then part (tget 0 b.t ((off - 0x800) / 32)) (off % 32)
  else 0

/-- A statistics slot (R185). -/
def StatSlot.read (x : StatSlot) (off : Nat) : Nat :=
  match off with
  | 0x00 => x.tag + b2n x.en * 2 ^ 31
  | 0x04 => x.flags
  | 0x08 => lo32 x.convLatch
  | 0x0C => hi32 x.convLatch
  | 0x10 => x.tokenCount
  | 0x14 => x.satCount
  | 0x18 => x.zrangeCount
  | 0x1C => x.misfitCount
  | 0x20 => lo32 x.errLatch
  | 0x24 => hi32 x.errLatch
  | 0x28 => lo32 x.sigLatch
  | 0x2C => hi32 x.sigLatch
  | 0x30 => x.nonfinCount
  | 0x34 => x.escCount
  | 0x38 => x.degradedCount
  | 0x3C => x.lastMisfit
  | _ => 0

/-- The sequencer registers (R264, R292). -/
def SeqRegs.read (q : SeqRegs) (off : Nat) : Nat :=
  match off with
  | 0x04 => q.st.code + q.slot * 16 + b2n q.trapF * 2 ^ 8 + b2n q.overrunF * 2 ^ 9 + b2n q.testOverdueF * 2 ^ 10
              + b2n q.yieldGapF * 2 ^ 11 + b2n q.eccCorrF * 2 ^ 12 + b2n q.startMissedF * 2 ^ 13 + b2n q.rxDropF * 2 ^ 14
  | 0x08 => q.cause + q.slotClass * 2 ^ 8 + b2n q.late * 2 ^ 10 + q.swCode * 2 ^ 16 + q.multi * 2 ^ 24
  | 0x0C => q.trapPc + q.faultPc * 2 ^ 16
  | 0x10 => q.trapInfo
  | 0x14 => lo32 q.trapMerLatch
  | 0x18 => hi32 q.trapMerLatch
  | 0x1C => q.resumePc
  | 0x20 => q.trapTimeout
  | 0x24 => q.stallMaxTile
  | 0x28 => q.stallMaxFab
  | 0x2C => q.stallMaxHbm
  | 0x30 => q.trapCount
  | 0x34 => q.overrunCount
  | 0x38 => q.startSkipCount
  | 0x3C => q.testOverdueCount
  | 0x40 => q.yieldGapCount
  | 0x44 => q.eccCorrCount
  | 0x48 => q.rxDropCount
  | 0x50 => q.scratchPage
  | 0x54 => q.ctxMissCount
  | 0x58 => q.ctxDropCount
  | 0x5C => q.egressLateCount
  | 0x60 => q.sendDropCount
  | _ => 0

/-- The DMU registers (R221). BUSY: an instruction is in the array. (DEDUCED, assumption log 36.) -/
def DmuRegs.read (x : DmuRegs) (busy : Bool) (off : Nat) : Nat :=
  match off with
  | 0x9000 => b2n x.nonfinF + b2n x.satF * 2 + b2n x.maskedF * 4 + b2n x.eccCorrF * 8 + b2n x.eccUncorrF * 16 + b2n busy * 32
  | 0x9004 => x.nonfinCount
  | 0x9008 => x.satCount
  | 0x900C => x.maskedRowCount
  | 0x9010 => x.eccCorrCount
  | 0x9014 => x.adaptStepCount
  | 0x9018 => lo32 x.busyLatch
  | 0x901C => hi32 x.busyLatch
  | _ =>
    if inR off 0x9040 0x907C then lget 0 (if off % 8 = 0 then x.actBase else x.actStep) ((off - 0x9040) / 8)
    else if inR off 0x9400 0x97FC then tget 0 x.escBal ((off - 0x9400) / 4)
    else 0

/-- A region block (R585). -/
def Region.read (g : Region) (now off : Nat) : Nat :=
  if inR off 0x80 0xBF then
    match g.rxwin[(off - 0x80) / 8]? with
    | some w => if off % 8 = 0 then w.base + b2n w.read * 2 ^ 31 else w.size
    | none => 0
  else if off < 0x1000 then g.regs.read off
  else if inR off 0x1000 0x17FF then (tget .reset g.ps ((off - 0x1000) / 0x80)).read (off % 0x80)
  else if inR off 0x8000 0x8FFF then (tget .reset g.stats ((off - 0x8000) / 64)).read (off % 64)
  else if inR off 0x9000 0x9FFF then g.dmu.read (decide (now < g.arrayDone)) off
  else if inR off 0xA000 0x11FFF then leValue (memRead g.act (off - 0xA000) 4)
  else if inR off 0x20000 0x2FFFF then (tget .reset g.arch ((off - 0x20000) / 0x1000)).read (off % 0x1000)
  else if inR off 0x40000 0x7FFFF then tget 0 g.imem ((off - 0x40000) / 16) / 2 ^ (8 * (off % 16)) % 2 ^ 32
  else if inR off 0x80000 0xBFFFF then leValue (memRead g.scratch (g.regs.scratchPage * 0x40000 + off - 0x80000) 4)
  else 0

def TileSt.code : TileSt → Nat | .parked => 0 | .idle => 1 | .applying => 2 | .tone => 3

def Health.code : Health → Nat | .normal => 0 | .observed => 1 | .withdrawn => 2 | .faulty => 3

/-- The trim word of an ADC (R114). -/
def AdcTrim.word (a : AdcTrim) : Nat := ux 7 a.offs + ux 8 a.gain * 2 ^ 8 + ux 6 a.skew * 2 ^ 16

/-- The sighting registers (R151). -/
def Sight.read (s : Sight) (off : Nat) : Nat :=
  match off with
  | 0x120 =>
    let (t, l, f, c, e) := s.pendCtrl.getD (s.trig, s.len, s.free, s.code, s.every)
    t + l * 2 ^ 2 + b2n f * 2 ^ 9 + c * 2 ^ 12 + e * 2 ^ 18
  | 0x124 => s.period
  | 0x128 => s.delay
  | 0x12C => s.pos + b2n (decide (s.trig ≠ 0) && decide (s.len ≠ 0)) * 2 ^ 6 + b2n s.eventF * 2 ^ 8 + b2n s.faultF * 2 ^ 9
               + b2n s.overrunF * 2 ^ 10 + b2n s.nearF * 2 ^ 11 + b2n s.edgeF * 2 ^ 12
  | 0x130 => s.loops
  | 0x134 => s.loopPeriod
  | 0x138 => ux 16 s.loopTemp
  | 0x13C => s.eventCount
  | 0x140 => s.faultCount
  | 0x144 => s.leSlot + s.leMode * 2 ^ 10 + b2n s.leApplied * 2 ^ 11 + s.leCount * 2 ^ 12 + ux 10 s.leDev * 2 ^ 22
  | 0x148 => s.kappa + b2n s.kappaNear * 2 ^ 16 + b2n s.kappaEdge * 2 ^ 17
  | 0x14C => ux 16 s.ktemp + ux 16 s.tk * 2 ^ 16
  | _ => if inR off 0x500 0x5FC then tget (tget 0 s.table ((off - 0x500) / 4)) s.pendTable ((off - 0x500) / 4) else 0

/-- The check registers (R448). -/
def Check.read (c : Check) (off : Nat) : Nat :=
  match off with
  | 0x150 => c.a0 + c.a1 * 16
  | 0x154 => c.health.code + b2n c.failF * 2 ^ 8 + b2n c.alarmF * 2 ^ 9 + b2n c.mismatchF * 2 ^ 10 + b2n c.suspectF * 2 ^ 11
  | 0x158 => c.failCount
  | 0x15C => c.clipFailCount
  | 0x160 => c.alarmCount
  | 0x164 => c.mismatchCount
  | 0x168 => c.lastFail
  | 0x16C => c.c0p + c.c0m * 2 ^ 16
  | 0x170 => c.c1p + c.c1m * 2 ^ 16
  | _ => 0

/-- The value last written to a register whose write waits for the next apply strobe, or what it holds (R13, R115). -/
def Tile.stagedOr (t : Tile) (off v : Nat) : Nat :=
  match t.staged.reverse.find? fun e => e.1 = off with | some e => e.2 | none => v

/-- A tile register block (R114, R448), with its STATE now and the die's park code. (DESIGN CHOICE, assumption log 35.) -/
def Tile.read (t : Tile) (st : TileSt) (park off : Nat) : Nat :=
  let w := t.stagedOr off
  match off with
  | 0x00 => t.span + t.inmode * 4 + t.range * 16 + t.parity * 128
  | 0x04 => st.code + b2n t.rowTripF * 2 ^ 8 + b2n t.shadowLateF * 2 ^ 9 + b2n t.adcClipF * 2 ^ 10 + b2n t.trimSatF * 2 ^ 11
              + b2n t.clamp128F * 2 ^ 12 + b2n t.toneClipF * 2 ^ 13 + b2n t.histIncompleteF * 2 ^ 14
  | 0x08 => w (t.ilim + t.tripTicks * 16) % 2 ^ 7 + park * 2 ^ 8
  | 0x0C => match t.firstTrip with | some r => r + 2 ^ 31 | none => 0
  | 0x10 => t.rowTripCount
  | 0x14 => t.clamp128Count
  | 0x18 => t.adcClipCount
  | 0x1C => t.trimSatCount
  | 0x20 => t.shadowLateCount
  | 0x24 => t.toneClipCount
  | 0x100 => bits (w (t.tone.span * 4 + t.tone.range * 16)) 6 2 * 4 + b2n t.tone.running * 128
  | 0x104 => w t.tone.ftw
  | 0x108 => w t.tone.phase0
  | 0x10C => w t.tone.stagger
  | 0x110 => w (t.tone.amp + ux 9 t.tone.offs * 2 ^ 16)
  | 0x114 => w (t.tone.first + t.tone.count * 2 ^ 16)
  | 0x118 => w t.tone.n
  | 0x11C => w (t.tone.histSlot + t.tone.histAdc * 2 ^ 16) % 2 ^ 17
  | _ =>
    if inR off 0x40 0x80 then flagWord fun i => t.parked.contains (8 * (off - 0x40) + i)
    else if inR off 0x120 0x14C ∨ inR off 0x500 0x5FC then t.sight.read off
    else if inR off 0x150 0x170 then t.check.read off
    else if inR off 0x200 0x40C then w (tget .reset t.adcTrim ((off - 0x200) / 4)).word
    else if inR off 0x800 0xFFF then
      tget 0 t.tone.hist ((off - 0x800) / 4 * 2) + tget 0 t.tone.hist ((off - 0x800) / 4 * 2 + 1) * 2 ^ 16
    else 0

/-- The high word of a trim entry (R149). -/
def TrimEntry.high (e : TrimEntry) : Nat := ux 14 e.offset + e.role * 2 ^ 14 + b2n e.near * 2 ^ 16 + b2n e.edge * 2 ^ 17

/-- A word of a compute die (R582). -/
def Device.partRead (d : Device) (n bank : Nat) (p : DiePart) : Nat :=
  match p with
  | .manager off => d.dieRead n bank off
  | .region g off => (d.region (6 * n + g)).read d.nowCycle off
  | .tile t off => (d.tile (864 * n + t)).read (d.tileState (864 * n + t)) (d.die n).park off
  | .trim i high =>
    let e : TrimEntry := tget .reset (d.tile (864 * n + i / 528)).trims (i % 528)
    if high then e.high else e.low
  | .rescale lt col => d.rescale (768 * n + lt) col
  | .reserved => 0

end Sys2Proof.Machine
end

