-- ==== Sys2Proof/Machine/Fence.lean ====
section
/-! DEFINITION. Fencing and unfencing of dies, and the re-placement of lost work (R56, R368, R435 to R439). -/
namespace Sys2Proof.Machine

/-! ### Causes of a die fence (R36, R56, R437) -/

/-- FORWARDED_CLOCK_LOSS (R36, R368): the link is not retrained; the die is fenced. -/
def execForwardedClockLoss (die : Nat) (s : State) : Host.Outcome State Fault Refusal :=
  .next (s.upd fun d =>
    if d.populated die then
      ((d.updLink die fun l => l.onEnds fun e => { e with clockLostF := true }).fenceDie die 0x0B).wakeRouters
    else d)

/-- REPLICA_TIMESTAMP (R56): the replica corrects itself; with the third disagreement of more than 4 Tc in a row the die is
fenced. (DEDUCED, assumption log 74.) -/
def execReplicaTimestamp (die : Nat) (difference : Int) (s : State) : Host.Outcome State Fault Refusal :=
  .next (s.upd fun d =>
    if !d.dieLive die then d
    else if difference.natAbs ≤ 4 then d.updDie die fun x => { x with replicaBad := 0 }
    else
      let n := (d.die die).replicaBad + 1
      let d := d.updDie die fun x => { x with replicaBad := n }
      if n < 3 then d else ({ d with tb := { d.tb with replicaErr := true } }).fenceDie die 0x0B)

/-- DM_WATCHDOG_MISS (R437): a miss within 2 ms of the one before follows it; the third in a row fences the die. (DEDUCED,
assumption log 75.) -/
def execDmWatchdogMiss (die : Nat) (s : State) : Host.Outcome State Fault Refusal :=
  .next (s.upd fun d =>
    if !d.dieLive die then d
    else
      let x := d.die die
      let row := if x.wdogRow ≠ 0 ∧ d.real < x.wdogAt + msTc 2 then x.wdogRow + 1 else 1
      let d := d.updDie die fun x =>
        { x with wdogMissF := true, wdogMissCount := satInc x.wdogMissCount, wdogRow := row, wdogAt := d.real }
      if row < 3 then d else d.fenceDie die 0x0E)

/-- FENCE_CTRL.FENCE (R437, R439, R449): a die already fenced stays as it is. -/
def Device.fenceCtrl (d : Device) (die : Nat) : Nat × Device :=
  if ¬ die < d.dieCount then (stFieldRange, d) else (stOK, d.fenceDie die 0x0F)

/-- FENCE_CTRL_FENCE (R437, R439, R449). -/
def execFenceCtrlFence (who die : Nat) (s : State) : Host.Outcome State Fault Refusal :=
  .next (s.upd fun d => d.rowWrite who .owner fun d => d.fenceCtrl die)

/-! ### The maps of a die (R26, R157, R552) -/

/-- The latest valid record of a physical tile. (DEDUCED, assumption log 45.) -/
def Device.lastRecord (d : Device) (p : Nat) : Option PlacementRecord :=
  ((d.placement.filter fun x => x.pt = p && x.kind ≠ 0).insertionSort fun a b => b.lseq ≤ a.lseq).head?

/-- The record that places a logical tile: the latest of its tile, of KIND 1 or 2. (DEDUCED, assumption log 45.) -/
def Device.placedBy (d : Device) (p : Nat) : Option PlacementRecord :=
  (d.lastRecord p).filter fun x => x.kind = 1 || x.kind = 2

/-- Highest dressing count found for a tile. -/
def Device.loggedCount (d : Device) (p : Nat) : Nat :=
  ((d.placement.filter fun x => x.pt = p).map fun x => x.count).foldl max 0

/-- A physical tile is faulty (R157, R552). (DEDUCED, assumption log 46.) -/
def Device.foundFaulty (d : Device) (p : Nat) : Bool :=
  (d.die (ptDie p)).faulty.contains (p % 864) || decide (((d.lastRecord p).map fun x => x.kind) = some 4) ||
    decide (20000 ≤ d.loggedCount p)

/-- The tile map of a cluster (R552): placed tiles first, then each tile left over takes the lowest-numbered physical tile
that is free and not faulty; 9 stands for none. -/
def Device.clusterMap (d : Device) (c : Nat) : List Nat :=
  let winner (t : Nat) : Option Nat :=
    (((List.range 9).filterMap fun k => (d.placedBy (9 * c + k)).bind fun x =>
      if x.lt = 8 * c + t then some (k, x.lseq) else none).insertionSort fun a b => b.2 ≤ a.2).head?.map fun e => e.1
  let placed := (List.range 8).map winner
  let taken := placed.filterMap id
  ((List.range 8).foldl (fun (acc : List Nat × List Nat) t =>
    match lget none placed t with
    | some k => (acc.1 ++ [k], acc.2)
    | none =>
      match (List.range 9).find? fun k => !acc.2.contains k && !d.foundFaulty (9 * c + k) with
      | some k => (acc.1 ++ [k], k :: acc.2)
      | none => (acc.1 ++ [9], acc.2)) ([], taken)).1

/-- A repair entry of die OTP (R608) on its tile's maps. (DEDUCED, assumption log 45.) -/
def Device.applyRepair (d : Device) (n e : Nat) : Device :=
  if !bit e 31 then d
  else d.updTile (864 * n + bits e 9 0) fun t =>
    if bit e 30 then t.mapCol (bits e 19 10) (bits e 29 20) else t.mapRow (bits e 19 10) (bits e 29 20)

/-- A physical tile as its latest record leaves it (R157, R396, R528): dressed when it places a logical tile. -/
def Device.applyRecord (d : Device) (p : Nat) : Device :=
  let count := d.loggedCount p
  let faulty := d.foundFaulty p
  let rec_ := d.placedBy p
  d.updTile p fun t =>
    let t := if faulty then t.setHealth .faulty else t
    let t := { t with dress := { t.dress with count := count } }
    match rec_ with
    | none => t
    | some x => { t with logModel := x.model, logVersion := x.version, logEpoch := x.epoch,
                         dress := { t.dress with dressed := true, logical := x.lt, dressedAt := none } }

/-- The maps of a die are built from its OTP and the placement log, and a logical tile without a physical tile is reported (R26,
R157, R552). (DEDUCED, assumption log 46.) -/
def Device.mapDie (d : Device) (n : Nat) : Device :=
  let d := d.updDie n fun x => { x with mapped := true }
  let d := forEach (d.die n).repairs (fun e d => d.applyRepair n e) d
  let logged := (d.placement.map fun x => x.pt).filter fun p => decide (ptDie p = n)
  let touched := (logged ++ (d.die n).faulty.map fun i => 864 * n + i).eraseDups
  let d := forEach touched (fun p d => d.applyRecord p) d
  forEach (touched.map ptCluster).eraseDups (fun c d =>
    let m := d.clusterMap c
    let d := d.updCluster c fun k => { k with map := m }
    forEach ((List.range 8).filter fun t => lget 9 m t = 9) (fun t d => d.fault (unitLt (8 * c + t)) 0 0x18 0 0) d) d

/-! ### The sighting scan (R158) -/

/-- Every slot that a logical column maps to counts as in use, whatever its ROLE (R158). -/
def Tile.allInUse (t : Tile) : Tile :=
  { t with trims := (List.range 522).foldl (fun ts c => tupd .reset ts (t.slotOf c) fun e => { e with role := max 1 e.role }) t.trims }

/-- The scan of one tile (R158), with FREE set: OFFSET of every slot in use from zero reads, then KAPPA from level reads of
the fixed stars, whose COLSUM comes from the table of R121. Answers whether R144 left the KAPPA update out. (DEDUCED, assumption
log 46.) -/
def Tile.scan (t : Tile) (cycle park : Nat) (temp : Int) (x : ScanResult) : Tile × Bool :=
  let star (ts : Table TrimEntry) (c : Nat) : Table TrimEntry :=
    tupd .reset ts (t.slotOf c) fun e => { e with colsum := 512 * starCode (c - 514), role := 3 }
  let t := { t with trims := (List.range' 514 8).foldl star t.trims, sight := { t.sight with free := true } }
  let zero := t.allInUse.means park temp false x.zero
  let t := (List.range 522).foldl (fun (t : Tile) c =>
    let s := t.slotOf c
    (t.offsetUpdate cycle temp { slot := s, entry := tget .reset t.trims s, mean := zero s, exp := 0 }).1) t
  let level := t.means park temp true x.level
  let all : List Compared := (List.range' 514 8).map fun c =>
    let s := t.slotOf c
    let e := tget TrimEntry.reset t.trims s
    { slot := s, entry := e, mean := level s, exp := expected true t.sight.code e }
  let stars := all.filter fun c => decide (262144 ≤ c.exp.natAbs)
  if stars.isEmpty then (t, false)
  else let (t, x) := t.kappaUpdate cycle temp stars
    (t, x = .refused)

/-- The scan of a dressed tile at start-up or at the end of a fence (R158, R438): a tile whose scan fails is reported and holds no
stream; one whose KAPPA is at the edge is queued for re-dress. (DEDUCED, assumption log 46.) -/
def Device.scanTile (d : Device) (p : Nat) (x : ScanResult) : Device :=
  let before := d.tile p
  let (t, refused) := before.scan d.clk.cycles (d.die (ptDie p)).park (d.dieTemp (ptDie p)) x
  let t := if refused then
      { t with sight := { t.sight with leApplied := false, faultF := true, faultCount := satInc t.sight.faultCount } }
    else t
  let d := (d.updTile p fun _ => t).requestRedress p before
  if refused then d.suspectTile p 0x04 0 else d

/-! ### Release and unfencing (R262, R438) -/

/-- A die's compute side is released with microcode verified in every region's store (R262, R263). -/
def Device.releaseDie (d : Device) (n : Nat) : Device :=
  let d := d.updDie n fun x => { x with dm := .inService, microcode := true }
  forEach (dieRegions n) (fun r d => d.updRegion r fun g =>
    { g with microcode := true, regs := { g.regs with st := .idle } }) d

/-- A die returns to service (R438): its link UP, its compute side released with microcode verified, its dressed tiles scanned,
its regions tested and their programs reloaded, its DIE_FENCED bit clear, with a CAPACITY notice. A die that missed step 5 of
start-up has its maps built first (R157, R552). -/
def Device.unfenceDie (d : Device) (n : Nat) (scans : List ScanResult) : Device :=
  let cause := tget 0 d.flt.fenceCause n
  let d := d.updLink n fun l => { l with st := .up, fails := 0, retrains := [] }
  let d := (d.releaseDie n).updDie n fun x => { x with wdogRow := 0, replicaBad := 0 }
  let d := forEach (d.dressedTiles n) (fun p d => match scans.find? fun x => x.tile = p with
    | some x => d.scanTile p x
    | none => d) d
  let d := forEach (dieRegions n) (fun r d => (d.updRegion r fun g => { g with lost := false }).reloadRegion r) d
  let d := d.updFlt fun f => { f with fenced := f.fenced.filter fun x => x ≠ n }
  (d.faultDie n cause 0xA 0).capacityNotice

/-- FENCE_CTRL.UNFENCE (R438, R439). The first of its steps that fails leaves the die fenced, and is reported: so does a cause
that is still present. The scan fails where a dressed tile has no reads. -/
def Device.unfenceCtrl (d : Device) (die : Nat) (linkOk microcodeOk : Bool) (scans : List ScanResult) (testsOk : Bool) :
    Nat × Device :=
  if ¬ die < d.dieCount then (stFieldRange, d)
  else if ¬ d.flt.fenced.contains die then (stWrongState, d)
  else if !linkOk then (stOK, d.faultDie die 0x0A 0 LinkSt.fenced.code)
  else if (d.die die).otpBad then (stOK, d.faultDie die 0x06 0x6 0)
  else if !microcodeOk then (stOK, d.faultDie die 0x07 0 0)
  else
    let m := if (d.die die).mapped then d else d.mapDie die
    if !((m.dressedTiles die).all fun p => scans.any fun x => x.tile = p && x.ok) then (stOK, d.faultDie die 0x04 0 0)
    else if !testsOk then (stOK, d.faultDie die 0x07 0 0)
    else (stOK, m.unfenceDie die scans)

/-- FENCE_CTRL_UNFENCE (R438, R439). `linkOk`, `microcodeOk`, `scans` and `testsOk` say how its steps end. -/
def execFenceCtrlUnfence (who die : Nat) (linkOk microcodeOk : Bool) (scans : List ScanResult) (testsOk : Bool) (s : State) :
    Host.Outcome State Fault Refusal :=
  .next (s.upd fun d => d.rowWrite who .owner fun d => d.unfenceCtrl die linkOk microcodeOk scans testsOk)

/-- DIE_MANAGER_RESTART (R37, R42, R434): the die's compute side resets, and its regions serve their streams again once the
microcode is back and they have passed a full test set. Inside a fence or a hub restart it is discarded. The restart is reported
(R20); R446 has no EVENT for it. (DEDUCED, assumption log 38, DESIGN CHOICE, assumption log 21.) -/
def execDieManagerRestart (die : Nat) (s : State) : Host.Outcome State Fault Refusal :=
  .next (s.upd fun d =>
    if !d.dieLive die || decide ((d.die die).dm = .reset) then d.discardReset
    else
      let (event, d) := takeFree 8 d
      let d := d.faultDie die event 0 0
      let d := (d.resetCompute die).updDie die fun x => { x with dm := .computeReset, wdogRow := 0, replicaBad := 0 }
      forEach (dieRegions die) (fun r d =>
        (d.updRegion r fun g => { g with lost := true }).breach 0x12 (unitRegion r) (d.streamsOfRegion r)) d)

/-! ### Re-placement (R435, R436) -/

/-- A record that named a lost region names the target (R436). -/
def ClaimRecord.moveTo (r t : Nat) (x : ClaimRecord) : ClaimRecord :=
  let reg (u : Nat) : Nat := if unitRegionOf u = r then unitRegion t else u
  match x with
  | .program u a b c e w v => .program (reg u) a b c e w v
  | .tile u sp rg mv si => .tile (if ltRegion (unitLtOf u) = r then unitLt (128 * t + unitLtOf u % 128) else u) sp rg mv si
  | .flow src k dst by_ arr => .flow (reg src) k (if k = 0 then reg dst else dst) by_ arr
  | .channel c m u w => .channel c m (reg u) w
  | y => y

/-- A region may take lost work (R435 step 1). -/
def Device.targetOk (d : Device) (t : Nat) : Bool :=
  d.regionLive t && ((d.region t).ps.all fun e => decide (e.2.st ≠ .valid)) &&
    !(d.liveStreams.any fun s => (d.stream s).tiles.any fun x => ltRegion x.1 = t) &&
    !(d.mm.slots.any fun e => e.2.holdsTiles.any fun lt => ltRegion lt = t) &&
    decide ((tget (0, 0, 0) d.adm.dark t).1 = 0)

/-- Regions in the order in which they are tried: those of the die, of its ring neighbours, then the rest (R435). -/
def Device.targetOrder (d : Device) (r : Nat) : List Nat :=
  let own := d.allRegions.filter fun t => t / 6 = r / 6
  let near := d.allRegions.filter fun t => d.neighbours (r / 6) (t / 6)
  own ++ near ++ d.allRegions.filter fun t => decide (t / 6 ≠ r / 6) && !d.neighbours (r / 6) (t / 6)

/-- The target of a lost region: the one that already takes its work, or the first that can (R435). (DEDUCED, assumption log
76.) -/
def Device.targetOf (d : Device) (r : Nat) : Option Nat :=
  match (d.flt.replacements.filter fun x => x.region = r).findSome? fun x => x.target with
  | some t => some t
  | none => (d.targetOrder r).find? fun t => decide (t ≠ r) && d.targetOk t

/-- Every tile of a model in a lost region is dressed at the same place of the target, from its digital copy, with the
sighting of the old tile (R435 step 2); the model's relocation moves the region onto the target (R436). -/
def Device.moveModel (d : Device) (n r t : Nat) : Device :=
  let one (a : Nat) (d : Device) : Device :=
    let x := d.area n a
    forEach (x.partner.map fun e => e.1) (fun i d =>
      let lt := x.dressedOn i
      let lt' := 128 * t + lt % 128
      match x.manifest.bind fun k => k.tiles[i]? with
      | none => d
      | some rec_ =>
        if ltRegion lt ≠ r ∨ ¬ x.dressed.contains i then d
        else match d.physOf lt' with
          | none => d
          | some p =>
            let targets := d.targetsOf x rec_
            let d := match d.physOf lt with
              | some old => d.updTile p fun y => copySight (d.tile old) y
              | none => d
            let d := (d.writeRescale x rec_ lt').queueDressing p lt' targets (d.modelSlot n).model x.version x.epoch
            let d := d.updTile p fun y => (List.range 512).foldl (fun (y : Tile) row => y.dressCells row) y.clearRoles
            let d := d.updTile p fun y => { y with dress := { y.dress with st := .active, rowsDone := 512 } }
            let d := d.dressComplete p
            d.updTile p fun y => { y with sight := { y.sight with loops := 1, free := false } }) d
  let d := one 1 (one 0 d)
  d.updModelSlot n fun m =>
    let mv (x : Area) : Area := { x with partner := x.partner.map fun e => if ltRegion e.2 = r then (e.1, 128 * t + e.2 % 128) else e }
    let back := m.reloc.map fun e => if e.2 = r then (e.1, t) else e
    { m with area0 := mv m.area0, area1 := mv m.area1,
             reloc := if m.reloc.any (fun e => e.2 = r) then back else back ++ [(r, t)],
             sel := m.sel.foldl (fun s e => if e.1 % 64 = r then tset s (e.1 - r + t) e.2 else tset s e.1 e.2) [] }

/-- The moved placement passes checks 3 to 16 with every other stream unchanged (R435 step 3). -/
def Device.checkMoved (d : Device) (s r t : Nat) : Bool :=
  match d.adm.convs.find? fun c => c.stream = s && c.tag = (d.stream s).tag with
  | none => false
  | some c =>
    let c : ClaimConv := { c with records := c.records.map fun (y : ClaimRecord) => y.moveTo r t }
    let h : ClaimHeader := c.header
    let l : List ClaimRecord := c.records
    let ss : List StartPlan := d.startPlans c
    let d : Device := (d.stream s).programs.foldl (fun (d : Device) p => d.updRegion p.region fun g => { g with ps := tdel g.ps p.slot }) d
    let d : Device := { d with adm := { d.adm with streams := tdel d.adm.streams s } }
    let d : Device := d.updMm fun m => { m with slots := tmap m.slots fun _ k => { k with plan := none } }
    (firstRefusal
      [d.check3 h l, check4 ss,
       unless_ (d.placePrograms (progWants l) []).isSome (refuse stNoCapacity 0x05),
       d.check6 h l, d.check7 h ss, d.check8 h l, check9 l ss, d.check10 h l ss, d.check11 h l ss, d.check12 h l,
       unless_ (decide (d.ledgerReserved + d.ledgerNeed h l ss ≤ 131072)) (refuse stNoCapacity 0x0D),
       unless_ (decide (d.ctxReserved + h.ctxQuota ≤ 2097152)) (refuse stNoCapacity 0x0E),
       d.check15 h l ss,
       unless_ (decide (d.powerUsed + d.price h l ss ≤ d.admCap)) (refuse stPower 0x10)]).isNone

/-- A program of a stream moves to the target region: slot, image, initial bank, windows (R435 step 3). -/
def Device.moveProgram (d : Device) (s r t : Nat) (p : StreamProgram) : Device × StreamProgram :=
  let was := d.region r
  let n := (d.freeSlot t []).getD 0
  let base := (firstFit (d.imemUsed t) p.len 16384).getD 0
  let q := { p with region := t, slot := n, base := base }
  let d := d.updRegion t fun g =>
    let g := g.beginLoad n fun _ =>
      { tget ProgSlot.reset was.ps p.slot with stream := s, base := base, len := p.len, actCount := 0 }
    let g := g.putImage q
    let g := { g with dmu := g.dmu.reserve s p.esc }
    let g := ((List.range 8).zip was.rxwin).foldl (fun g e => if e.2.read then g.openWindow e.1 e.2 else g) g
    g.endLoad n
  let d := d.updRegion r fun g => { g with ps := tupd .reset g.ps p.slot fun q => { ProgSlot.reset with actCount := q.actCount } }
  (d, q)

/-- The stream's own records name the target (R436). -/
def Device.moveStream (d : Device) (s r t : Nat) : Device :=
  let x := d.stream s
  let (d, progs) := x.programs.foldl (fun (st : Device × List StreamProgram) p =>
    if p.region = r then
      let (d, q) := st.1.moveProgram s r t p
      (d, st.2 ++ [q])
    else (st.1, st.2 ++ [p])) (d, [])
  let d := d.updStream s fun x =>
    { x with programs := progs,
             tiles := x.tiles.map fun e => if ltRegion e.1 = r then (128 * t + e.1 % 128, e.2) else e,
             flows := x.flows.map fun (f : FlowPlan) =>
               { f with src := if f.src = r then t else f.src, dest := if f.kind = 0 ∧ f.dest = r then t else f.dest },
             channels := x.channels.map fun e => if e.2.2.1 = r then (e.1, e.2.1, t, e.2.2.2) else e,
             moved := if x.moved.any (fun e => e.2 = r) then x.moved.map fun e => if e.2 = r then (e.1, t) else e
               else x.moved ++ [(r, t)] }
  let w := d.bindWord s 0
  let w' := w - bits w 9 4 * 16 + (t / 6 * 8 + t % 6) * 16
  let d := if tget InBind.reset d.dp.binds s ≠ InBind.reset ∧ d.bindRegion s = r then
      { d with dp := { d.dp with binds := tupd .reset d.dp.binds s fun b => { b with w := lset b.w 0 w' } } }
    else d
  ({ d with adm := { d.adm with convs := d.adm.convs.map fun (c : ClaimConv) =>
      if c.stream = s ∧ c.tag = x.tag then { c with records := c.records.map fun (y : ClaimRecord) => y.moveTo r t } else c } }).placeSightings

/-- A stream that cannot be re-placed is shed (R435): RELEASING, with a notice of kind SHED. -/
def Device.shedStream (d : Device) (s : Nat) : Device :=
  match d.flt.replacements.find? fun x => x.stream = s with
  | none => d
  | some x =>
    let d := d.updFlt fun f => { f with shedF := true, replacements := f.replacements.filter fun y => y.stream ≠ s }
    let d := (d.toReleasing s).faultRec (unitRegion x.region) (unitRegion x.region + 2 ^ 28) x.cause 0x9 1 0 s
    d.notice 0x12 kShed (unitRegion x.region) [(s, (d.stream s).st.code, (d.stream s).nextSeq)]

/-- The re-placement of a stream out of a lost region ends (R435, R436): on `target`, or with the stream shed when there is
no target, a check fails, a shard is poisoned, or `admitOk` says that the dressing failed. (DEDUCED, assumption log 76.) -/
def Device.replaceRegion (d : Device) (s target : Nat) (admitOk : Bool) : Device :=
  match d.flt.replacements.find? fun x => x.stream = s with
  | none => d
  | some x =>
    let r := x.region
    match d.targetOf r with
    | none => d.shedStream s
    | some t =>
      let n := d.slotOf (d.stream s).model
      let poisoned := match n with
        | none => false
        | some n => [0, 1].any fun a => (d.area n a).shards.any fun h => h.corrupt
      let moved := match n with
        | none => d
        | some n => if ((d.modelSlot n).holdsTiles).any (fun lt => ltRegion lt = r) then d.moveModel n r t else d
      if t ≠ target then d
      else if !admitOk || poisoned || !(moved.checkMoved s r t) then d.shedStream s
      else
        let d := moved.moveStream s r t
        let d := d.updFlt fun f =>
          { f with replaceCount := satInc f.replaceCount,
                   replacements := (f.replacements.filter fun y => !(y.stream = s && y.region = r)).map fun y =>
                     if y.region = r then { y with target := some t } else y }
        let d := d.faultRec (unitRegion t) (unitRegion t + 2 ^ 28) x.cause 0x8 1 0 s
        if d.flt.replacements.any fun y => y.stream = s then d
        else (d.restore 0x12 (unitRegion t) [s]).restore 0x01 (unitRegion t) [s]

/-- REGION_REPLACEMENT (R435, R436). -/
def execRegionReplacement (stream target : Nat) (admitOk : Bool) (s : State) : Host.Outcome State Fault Refusal :=
  .next (s.upd fun d => d.replaceRegion stream target admitOk)

/-- REMAP_LIMIT_EXPIRY (R435): a re-placement that takes longer than REMAP_LIMIT is shed. -/
def execRemapLimitExpiry (stream : Nat) (s : State) : Host.Outcome State Fault Refusal :=
  .next (s.upd fun d =>
    if d.flt.replacements.any fun x => x.stream = stream && d.ranOut x.since (msTc (1000 * d.flt.remapLimit)) then d.shedStream stream
    else d)

end Sys2Proof.Machine
end

