-- ==== Sys2Proof/Machine/RegWrite.lean ====
section
/-! DEFINITION. What a write of each register of control space does once its form is in order (chapter 18 and the register
tables of the other chapters). -/
namespace Sys2Proof.Machine

/-! ### Field ranges -/

/-- The stated range of a register that is one field: block, offset, least and greatest value (R76, R347, R375, R407,
R449, R474, R503). -/
def rangeTable : List (Nat × Nat × Nat × Nat) :=
  [(1, 0x30, 50, 90), (1, 0x34, 50, 90),
   (2, 0x04, 16, 24), (2, 0x08, 1, 1023), (2, 0x0C, 1, 15), (2, 0x10, 1, 3600), (2, 0x200, 1, 15), (2, 0x204, 1, 15),
   (2, 0x208, 1, 15), (2, 0x20C, 1, 15), (2, 0x210, 1, 15),
   (3, 0x18, 1, 1000), (3, 0x1C, 100, 1500), (3, 0x20, 20, 500), (3, 0x24, 200, 10000), (3, 0x28, 1, 50)] ++
  [(5, 0x04, 1, 65535), (5, 0x08, 5, 300), (5, 0x0C, 10, 600), (5, 0x10, 1024, 8960), (5, 0x14, 1024, 8960),
   (6, 0x08, 100, 2000), (6, 0x0C, 1, 100), (6, 0x10, 1, 255), (6, 0x14, 0, 100), (6, 0x18, 1, 65535), (6, 0x1C, 1, 3600)] ++
  [(11, 0x08, 4, 15), (11, 0x0C, 4, 15), (11, 0x10, 8, 64), (11, 0x14, 64, 1023), (11, 0x18, 1, 255), (11, 0x1C, 1, 1440),
   (11, 0x20, 2, 16), (11, 0x24, 1, 255), (11, 0x28, 1, 720), (11, 0x2C, 5, 600), (11, 0x30, 1, 1000)] ++
  [(12, 0x10, 100, 60000), (12, 0x14, 10, 3600), (12, 0x18, 500, 100000), (12, 0x1C, 1, 6000), (12, 0x20, 60, 86400),
   (12, 0x24, 1, 720), (12, 0x28, 100, 5000), (12, 0x2C, 1, 4096)]

/-- A value lies in the stated range of its register, where the register is one field. -/
def inRange (b off v : Nat) : Bool :=
  match rangeTable.find? fun e => e.1 = b && e.2.1 = off with
  | some (_, _, lo, hi) => decide (lo ≤ v) && decide (v ≤ hi)
  | none => true

/-- PTP_ASYM: signed, −10,000 to +10,000 (R76). -/
def asymOk (v : Nat) : Bool := decide ((sx 32 v).natAbs ≤ 10000)

/-! ### Hub blocks -/

/-- Identity (R580, R586). -/
def Device.identWrite (d : Device) (off v : Nat) : Nat × Device :=
  if off = 0x24 then (stOK, { d with glbEvent := d.glbEvent - (d.glbEvent &&& v) })
  else (stOK, { d with hostScratch := v })

/-- Admission (R325, R339, R347). -/
def Device.admWrite (d : Device) (off v : Nat) : Nat × Device :=
  let a := d.adm
  match off with
  | 0x00 => (stOK, { d with adm := { a with breachF := w1c a.breachF v 12, shedF := w1c a.shedF v 13,
                                             capacityF := w1c a.capacityF v 14 } })
  | 0x04 => d.pkgLimitWrite v
  | 0x30 => if 819000 * v / 100 < max (d.hbmReserved 0) (d.hbmReserved 1) then (stNoCapacity, d)
            else (stOK, { d with adm := { a with hbmResMax := v } })
  | 0x34 =>
    let all := d.ttHeld
    if (all.flatMap fun t => t.path).any fun k => decide (k.flits * v < 100 * linkLoad all k) then (stNoCapacity, d)
    else (stOK, { d with adm := { a with fabTtMax := v } })
  | 0x38 =>
    let len := bits v 23 0
    let p := bits v 31 24
    if len ≠ 0 ∧ (p = 0 ∨ 100 < p) then (stFieldRange, d)
    else (stOK, { d with adm := { a with unboundLen := len, unboundPeriod := p } })
  | _ => d.regionDarkWrite ((off - 0x200) / 8) (off / 4 % 2) v

/-- The flags of a link end (R375). -/
def LinkEnd.clearFlags (e : LinkEnd) (v : Nat) : LinkEnd :=
  { e with thrHitF := w1c e.thrHitF v 8, retrainedF := w1c e.retrainedF v 9, fencedF := w1c e.fencedF v 10,
           clockLostF := w1c e.clockLostF v 11 }

/-- A write in the block of a link end (R369, R375). A link that the grade does not have is not there. (DESIGN CHOICE,
assumption log 35.) -/
def Device.linkRegWrite (d : Device) (n : Nat) (far : Bool) (off v : Nat) : Nat × Device :=
  if !d.linkExists n then (stFieldRange, d)
  else if off = 0 then (stOK, d.updLink n fun l => l.onEnd far fun e => e.clearFlags v)
  else if bit v 0 then d.ctrlRetrain n far
  else if bit v 1 then d.ctrlUnfence n far
  else (stOK, d)

/-- Hub fabric (R375, R377). -/
def Device.fabWrite (d : Device) (off v : Nat) : Nat × Device :=
  match off with
  | 0x00 => (stOK, d.updFab fun f => { f with detourF := w1c f.detourF v 8 })
  | 0x04 => (stOK, d.updFab fun f => { f with errWindow := v })
  | 0x08 => (stOK, d.updFab fun f => { f with errThr := v })
  | 0x0C => (stOK, d.updFab fun f => { f with fenceRetrains := v })
  | 0x10 => (stOK, d.updFab fun f => { f with fencePeriod := v })
  | _ =>
    if off < 0x200 then d.linkRegWrite ((off - 0x40) / 0x20) false ((off - 0x40) % 0x20) v
    else (stOK, d.updFab fun f => { f with hubWeight := lset f.hubWeight ((off - 0x200) / 4) v })

/-- Timebase (R50, R66, R76, R77). -/
def Device.tbWrite (d : Device) (off v : Nat) : Nat × Device :=
  let put (f : Timebase → Timebase) : Nat × Device := (stOK, { d with tb := f d.tb })
  match off with
  | 0x00 => d.tbCtrlWrite v
  | 0x04 => put fun t => { t with loss := w1c t.loss v 8, expired := w1c t.expired v 9, stepBlocked := w1c t.stepBlocked v 10,
                                  lateEvent := w1c t.lateEvent v 11, replicaErr := w1c t.replicaErr v 12 }
  | 0x10 => d.frameOffsetLoWrite v
  | 0x14 => d.frameOffsetHiWrite v
  | 0x18 => put fun t => { t with oscStab := v }
  | 0x1C => put fun t => { t with teLimit := v }
  | 0x20 => put fun t => { t with lockTe := v }
  | 0x24 => put fun t => { t with stepThreshold := v }
  | 0x28 => put fun t => { t with slewMax := v }
  | 0x2C => d.refPrioWrite v
  | _ => if asymOk v then put fun t => { t with asym := lset t.asym ((off - 0x40) / 4) (sx 32 v) } else (stFieldRange, d)

/-- Ports A and B (R499, R505, R506). -/
def Device.pabWrite (d : Device) (off v : Nat) : Nat × Device :=
  let put (f : Pab → Pab) : Nat × Device := (stOK, d.updPab f)
  match off with
  | 0x00 => put fun p => { p with linkAF := w1c p.linkAF v 8, linkBF := w1c p.linkBF v 9 }
  | 0x04 =>
    if (!bit v 2 && decide (1500 < d.bcp.payloadA)) || (!bit v 3 && decide (1500 < d.bcp.payloadB)) then (stWrongState, d)
    else put fun p => { p with cfg := v }
  | 0x10 => put fun p => { p with aIp4 := v }
  | 0x30 => put fun p => { p with bIp4 := v }
  | 0x70 => put fun p => { p with collCfg := lset p.collCfg 0 v }
  | 0x90 => put fun p => { p with collCfg := lset p.collCfg 1 v }
  | _ =>
    if off < 0x24 then put fun p => { p with aIp6 := lset p.aIp6 ((off - 0x14) / 4) v }
    else if off < 0x44 then put fun p => { p with bIp6 := lset p.bIp6 ((off - 0x34) / 4) v }
    else if off < 0x70 then put fun p => { p with collIp := lset p.collIp 0 (lset (lget [] p.collIp 0) ((off - 0x60) / 4) v) }
    else put fun p => { p with collIp := lset p.collIp 1 (lset (lget [] p.collIp 1) ((off - 0x80) / 4) v) }

/-- BCP settings (R468, R474, R475, R499): a write that would disable BCP on the writing session's own port is refused. -/
def Device.bcpWrite (d : Device) (who off v : Nat) : Nat × Device :=
  let put (f : Bcp → Bcp) : Nat × Device := (stOK, { d with bcp := f d.bcp })
  match off with
  | 0x00 => if who < 8 ∧ bit v (d.session who).port = false then (stWrongState, d) else put fun b => { b with ctrl := v }
  | 0x04 => put fun b => { b with udpPort := v }
  | 0x08 => put fun b => { b with idle := v }
  | 0x0C => put fun b => { b with hold := v }
  | 0x10 => if 1500 < v ∧ bit d.pab.cfg 2 = false then (stWrongState, d) else put fun b => { b with payloadA := v }
  | 0x14 => if 1500 < v ∧ bit d.pab.cfg 3 = false then (stWrongState, d) else put fun b => { b with payloadB := v }
  | _ => put fun b => { b with hsFailF := w1c b.hsFailF v 8, tagFailF := w1c b.tagFailF v 9, supersededF := w1c b.supersededF v 10 }

/-- A word of a result destination is in range (R504). VID counts while the tag is present. (DEDUCED, assumption log 34.) -/
def destOk (k v : Nat) : Bool :=
  decide (k ≠ 0) || (decide (bits v 1 0 ≠ 3) && (!bit v 2 || (decide (1 ≤ bits v 17 6) && decide (bits v 17 6 ≤ 4094))))

/-- A word of an ingress binding is in range (R24, R504). -/
def Device.bindWordOk (d : Device) (k v : Nat) : Bool :=
  match k with
  | 0 => decide (bits v 6 4 ≤ 5) && decide (bits v 9 7 < d.dieCount)
  | 4 => decide (1 ≤ v)
  | 6 => decide (1 ≤ v) && decide (v ≤ 273)
  | _ => true

/-- Data ports (R481, R496, R503, R504). -/
def Device.dpWrite (d : Device) (off v : Nat) : Nat × Device :=
  let put (f : DataPorts → DataPorts) : Nat × Device := (stOK, d.updDp f)
  match off with
  | 0x00 => put fun x => { x with degradedF := w1c x.degradedF v 16, linkLostF := w1c x.linkLostF v 17,
                                  quarantineF := w1c x.quarantineF v 18, inputLostF := w1c x.inputLostF v 19 }
  | 0x04 => d.quadWrite v
  | 0x08 => put fun x => { x with trainLimit := v }
  | 0x0C => put fun x => { x with ingressMargin := v }
  | 0x10 => put fun x => { x with streamTimeout := v }
  | 0x14 => put fun x => { x with policeSlack := v }
  | 0x18 => put fun x => { x with quarThr := v }
  | 0x1C => put fun x => { x with quarHold := v }
  | _ =>
    if off < 0x500 then
      let p := (off - 0x100) / 0x40
      let w := off % 0x40 / 4
      (stOK, d.updPort p fun x => if w = 3 then { x with ip4 := v } else { x with ip6 := lset x.ip6 (w - 4) v })
    else if off < 0x1400 then d.partnerCtrl ((off - 0x1000) / 16) v
    else
      let s := off % 0x2000 / 0x20
      let k := off % 0x20 / 4
      if off < 0x4000 then
        if !destOk k v then (stFieldRange, d)
        else if (d.stream s).st ≠ .free then (stWrongState, d)
        else put fun x => { x with dests := tupd .reset x.dests s fun y => { y with w := lset y.w k v } }
      else if !d.bindWordOk k v then (stFieldRange, d)
      else if (d.stream s).st ≠ .free then (stWrongState, d)
      else put fun x => { x with binds := tupd .reset x.binds s fun y => { y with w := lset y.w k v } }

/-- HBM flags (R587). -/
def Device.hbmWrite (d : Device) (v : Nat) : Nat × Device :=
  (stOK, { d with hbm := { d.hbm with eccCorrF := w1c d.hbm.eccCorrF v 8, eccUncorrF := w1c d.hbm.eccUncorrF v 9 } })

/-- Thermal (R572, R574). -/
def Device.thermWrite (d : Device) (off v : Nat) : Nat × Device :=
  if off = 0 then (stOK, d.updTherm fun t => t.clearFlags v)
  else if off < 0x200 then
    let (st, t) := d.therm.setReg off v
    (st, { d with therm := t })
  else
    let i := 32 + (off - 0x200) / 16
    let (st, x) := if off % 16 = 0 then (d.therm.sensor i).setCfg v else (d.therm.sensor i).setParam v
    (st, d.updTherm fun t => { t with sensors := tset t.sensors i x })

/-- START_CTRL is in range (R575). -/
def Device.startCtrlOk (d : Device) (v : Nat) : Bool :=
  decide (1 ≤ bits v 3 0) && decide (bits v 3 0 ≤ d.sec.grade) && decide (bits v 15 8 ≤ 60)

/-- START_CTRL (R575). -/
def Device.startWrite (d : Device) (v : Nat) : Nat × Device :=
  if d.startCtrlOk v then (stOK, { d with start := { d.start with minDies := bits v 3 0, lockWait := bits v 15 8 } })
  else (stFieldRange, d)

/-- Fault reporting (R437, R438, R449). -/
def Device.fltWrite (d : Device) (off v : Nat) (env : WriteEnv) : Nat × Device :=
  let put (f : Faults → Faults) : Nat × Device := (stOK, d.updFlt f)
  match off with
  | 0x00 => put fun f => { f with fenceF := w1c f.fenceF v 0, quarantineF := w1c f.quarantineF v 1, shedF := w1c f.shedF v 2,
                                  testFailF := w1c f.testFailF v 3 }
  | 0x08 => put fun f => { f with ckK := v }
  | 0x0C => put fun f => { f with redK := v }
  | 0x10 => put fun f => { f with cusumK := v }
  | 0x14 => put fun f => { f with cusumH := v }
  | 0x18 => put fun f => { f with suspectFails := v }
  | 0x1C => put fun f => { f with testPeriod := v }
  | 0x20 => put fun f => { f with obsFactor := v }
  | 0x24 => put fun f => { f with obsClear := v }
  | 0x28 => put fun f => { f with obsPeriod := v }
  | 0x2C => put fun f => { f with remapLimit := v }
  | 0x30 => put fun f => { f with statTrig := v }
  | _ =>
    let n := bits v 2 0
    if bit v 8 && bit v 9 then (stFieldRange, d)
    else if bit v 8 then d.fenceCtrl n
    else if bit v 9 then d.unfenceCtrl n env.linkOk env.microcodeOk env.scans env.testsOk
    else (stOK, d)

/-- Model manager (R407, R408). -/
def Device.mmWrite (d : Device) (off v : Nat) : Nat × Device :=
  let put (f : ModelMgr → ModelMgr) : Nat × Device := (stOK, d.updMm f)
  match off with
  | 0x00 => put fun m => { m with loadFailF := w1c m.loadFailF v 0, rehashFailF := w1c m.rehashFailF v 1,
                                  auditFailF := w1c m.auditFailF v 2, switchDoneF := w1c m.switchDoneF v 3 }
  | 0x10 => put fun m => { m with shardTimeout := v }
  | 0x14 => put fun m => { m with idleLimit := v }
  | 0x18 => put fun m => { m with switchLead := v }
  | 0x1C => put fun m => { m with switchHorizon := v }
  | 0x20 => put fun m => { m with rehashPeriod := v }
  | 0x24 => put fun m => { m with auditPeriod := v }
  | 0x28 => put fun m => { m with auditTol := v }
  | _ => put fun m => { m with auditMax := v }

/-! ### Compute dies -/

/-- Die manager (R127, R376, R583, R584). -/
def Device.dieRegWrite (d : Device) (who n off v : Nat) : Nat × Device :=
  match off with
  | 0x00 => (stOK, d.updDie n fun x => { x with wdogMissF := w1c x.wdogMissF v 8, otpEccF := w1c x.otpEccF v 9 })
  | 0x10 => (stOK, if who < 8 then d.updSession who fun x => { x with bank := v } else d.updDie n fun x => { x with bank := v })
  | 0x4C0 => if (List.range 7).all fun g => decide (1 ≤ bits v (4 * g + 3) (4 * g)) then
               (stOK, d.updDie n fun x => { x with beWeight := v })
             else (stFieldRange, d)
  | _ =>
    if off < 0x300 then d.dressAllowWrite (6 * n + (off - 0x200) / 4) v
    else if off < 0x460 then
      let (l, far) := d.dieLink n ((off - 0x400) / 0x20)
      d.linkRegWrite l far ((off - 0x400) % 0x20) v
    else if v = 1 then d.routerReset (6 * n + (off - 0x480) / 4)
    else (stOK, d)

/-- SEQ_CTRL (R264): one action bit at most. -/
def Device.seqCtrlWrite (d : Device) (r v : Nat) : Nat × Device :=
  match (List.range 5).filter fun k => bit v k with
  | [] => (stOK, d)
  | [k] => d.seqCtrl r k
  | _ => (stFieldRange, d)

/-- A receive window register (R264, R265): base and EN, or size. -/
def Device.rxwinWrite (d : Device) (r w : Nat) (first : Bool) (v : Nat) : Nat × Device :=
  let g := d.region r
  let l := (List.range 8).map fun i => g.rxwin.getD i noWindow
  let x := lget noWindow l w
  let y : Window := if first then { x with base := bits v 16 0, read := bit v 31 } else { x with size := v }
  if 98304 < y.base + y.size then (stFieldRange, d) else (stOK, d.updRegion r fun g => { g with rxwin := lset l w y })

/-- PS_CTRL (R223, R264): the moves between FREE, LOADING and VALID, with STREAM where the slot is, or becomes, LOADING. -/
def Device.psCtrlWrite (d : Device) (r n v : Nat) : Nat × Device :=
  let p := tget .reset (d.region r).ps n
  let set (f : ProgSlot → ProgSlot) : Nat × Device := (stOK, d.updRegion r fun g => { g with ps := tupd .reset g.ps n f })
  let same : Bool := decide (bits v 15 8 = p.stream)
  match p.st, bits v 1 0 with
  | _, 3 => (stFieldRange, d)
  | .free, 0 => if same then (stOK, d) else (stWrongState, d)
  | .free, 1 => set fun p => { p with st := .loading, stream := bits v 15 8 }
  | .loading, 1 => set fun p => { p with stream := bits v 15 8 }
  | .loading, 2 => set fun p => { p with st := .valid, stream := bits v 15 8 }
  | .valid, 2 => if same then (stOK, d) else (stWrongState, d)
  | .loading, 0 => set fun p => { ProgSlot.reset with actCount := p.actCount }
  | .valid, 0 => if d.slotIdle r n then set fun p => { ProgSlot.reset with actCount := p.actCount } else (stWrongState, d)
  | _, _ => (stWrongState, d)

/-- A field of a program slot as a register write leaves it; none when it is out of its range (R264). -/
def ProgSlot.put (p : ProgSlot) (off v : Nat) : Option ProgSlot :=
  let ok (b : Bool) (q : ProgSlot) : Option ProgSlot := if b then some q else none
  match off with
  | 0x04 => ok (decide (v + p.len ≤ 16384)) { p with base := v }
  | 0x08 => ok (decide (1 ≤ v) && decide (p.base + v ≤ 16384)) { p with len := v }
  | 0x0C => ok (decide (1 ≤ v) && decide (v ≤ 1000)) { p with hold := v }
  | 0x10 => ok (decide (1 ≤ v) && decide (v ≤ 1250000)) { p with fabBound := v }
  | 0x14 => ok (decide (1 ≤ v) && decide (v ≤ 1250000)) { p with hbmBound := v }
  | _ =>
    let w := (off - 0x40) / 8
    let l := (List.range 8).map fun i => p.win.getD i noWindow
    let x := lget noWindow l w
    let y : Window := if off % 8 = 0 then { x with base := bits v 22 0, read := bit v 30, write := bit v 31 } else { x with size := v }
    ok (decide (y.base + y.size ≤ 8388608)) { p with win := lset l w y }

/-- A program slot register (R223, R264): outside LOADING only PS_CTRL.STATE is written. -/
def Device.psWrite (d : Device) (r n off v : Nat) : Nat × Device :=
  if off = 0 then d.psCtrlWrite r n v
  else
    let p := tget .reset (d.region r).ps n
    match p.put off v with
    | none => (stFieldRange, d)
    | some q => if p.st = .loading then (stOK, d.updRegion r fun g => { g with ps := tset g.ps n q }) else (stWrongState, d)

/-- A word with one of its 32-bit parts replaced. -/
def putPart (old k v : Nat) : Nat := old - old / 2 ^ (8 * k) % 2 ^ 32 * 2 ^ (8 * k) + v * 2 ^ (8 * k)

/-- The stacks of a bank at new depths: levels that come into use hold what their words read as (R264). -/
def Bank.setDepths (b : Bank) (loops rets : Nat) : Bank :=
  let level (off : Nat) : Nat := b.read off
  { b with loop := ((List.range loops).map fun k => (level (0x188 + 8 * k), level (0x18C + 8 * k))).reverse,
           ret := ((List.range rets).map fun k => level (0x1C0 + 4 * k)).reverse,
           above := (List.range 4).foldl (fun t k =>
             tset (tset t (0x188 + 8 * k) (level (0x188 + 8 * k))) (0x18C + 8 * k) (level (0x18C + 8 * k)))
             ((List.range 16).foldl (fun t k => tset t (0x1C0 + 4 * k) (level (0x1C0 + 4 * k))) b.above) }

/-- A word of an architected bank (R264); none when a depth is past the levels of its stack. -/
def Bank.put (b : Bank) (off v : Nat) : Option Bank :=
  if off < 0x100 then some (b.apply (.s (off / 8)) (putPart (tget 0 b.s (off / 8)) (off % 8) v))
  else if off < 0x180 then
    some (b.apply (.a ((off - 0x100) / 8)) (putPart (tget 0 b.a ((off - 0x100) / 8)) (off % 8) v % 2 ^ 48))
  else if off = 0x180 then some { b with p := v ||| 1 }
  else if off = 0x184 then some { b with pc := v }
  else if off = 0x1A8 then if 4 < bits v 2 0 ∨ 16 < bits v 12 8 then none else some (b.setDepths (bits v 2 0) (bits v 12 8))
  else if off < 0x1C0 then
    let k := (off - 0x188) / 8
    match b.loop.reverse[k]? with
    | some (c, st) => some { b with loop := (b.loop.reverse.set k (if off % 8 = 0 then (v, st) else (c, v))).reverse }
    | none => some { b with above := tset b.above off v }
  else if off < 0x200 then
    let k := (off - 0x1C0) / 4
    if k < b.ret.length then some { b with ret := (b.ret.reverse.set k v).reverse } else some { b with above := tset b.above off v }
  else if off < 0x300 then
    some (b.apply (.q ((off - 0x200) / 16)) (putPart (tget 0 b.q ((off - 0x200) / 16)) (off % 16) v))
  else some (b.apply (.t ((off - 0x800) / 32)) (putPart (tget 0 b.t ((off - 0x800) / 32)) (off % 32) v))

/-- A word of an architected-state window (R264): in LOADING, or of the trapped slot while the region is HALTED. -/
def Device.bankWrite (d : Device) (r n off v : Nat) : Nat × Device :=
  let g := d.region r
  match (tget .reset g.arch n).put off v with
  | none => (stFieldRange, d)
  | some b =>
    if (tget .reset g.ps n).st = .loading ∨ (g.regs.st = .halted ∧ g.regs.slot = n) then
      (stOK, d.updRegion r fun g => { g with arch := tset g.arch n b })
    else (stWrongState, d)

/-- A word of instruction memory: only within the range of a LOADING slot (R223, R264). -/
def Device.imemWrite (d : Device) (r off v : Nat) : Nat × Device :=
  let i := off / 16
  if (d.region r).ps.any fun e => decide (e.2.st = .loading) && decide (e.2.base ≤ i) && decide (i < e.2.base + e.2.len) then
    (stOK, d.updRegion r fun g => { g with imem := tupd 0 g.imem i fun w => putPart w (off % 16) v })
  else (stWrongState, d)

/-- Region block (R185, R210, R221, R264). -/
def Device.regionWrite (d : Device) (r off v : Nat) : Nat × Device :=
  let st := (d.region r).regs.st
  let stopped := decide (st = .halted) || decide (st = .quarantined)
  let slot := (off - 0x8000) / 64
  if off = 0x00 then d.seqCtrlWrite r v
  else if off = 0x04 then
    (stOK, d.updSeq r fun q =>
      { q with trapF := w1c q.trapF v 8, overrunF := w1c q.overrunF v 9, testOverdueF := w1c q.testOverdueF v 10,
               yieldGapF := w1c q.yieldGapF v 11, eccCorrF := w1c q.eccCorrF v 12, startMissedF := w1c q.startMissedF v 13,
               rxDropF := w1c q.rxDropF v 14 })
  else if off = 0x1C then
    if st ≠ .halted then (stWrongState, d)
    else if (tget .reset (d.region r).ps (d.region r).regs.slot).inRange v then (stOK, d.updSeq r fun q => { q with resumePc := v })
    else (stFieldRange, d)
  else if off = 0x20 then
    if v < 1 ∨ 10000 < v then (stFieldRange, d) else (stOK, d.updSeq r fun q => { q with trapTimeout := v })
  else if off = 0x50 then
    if 23 < v then (stFieldRange, d) else (stOK, d.updSeq r fun q => { q with scratchPage := v })
  else if off < 0x1000 then d.rxwinWrite r ((off - 0x80) / 8) (decide (off % 8 = 0)) v
  else if off < 0x1800 then d.psWrite r ((off - 0x1000) / 0x80) (off % 0x80) v
  else if inR off 0x20000 0x2FFFF then d.bankWrite r ((off - 0x20000) / 0x1000) (off % 0x1000) v
  else if inR off 0x40000 0x7FFFF then d.imemWrite r (off - 0x40000) v
  else if off < 0x9000 then
    if off % 64 = 0 then d.statTagWrite r slot v
    else
      let f (x : StatSlot) : StatSlot :=
        if off % 64 = 4 then { x with flags := x.flags - (x.flags &&& v) }
        else if bit v 31 then { x with lastMisfit := x.lastMisfit % 2 ^ 31 } else x
      (stOK, d.updRegion r fun g => { g with stats := tupd .reset g.stats slot f })
  else if off = 0x9000 then
    (stOK, d.updRegion r fun g =>
      { g with dmu := { g.dmu with nonfinF := w1c g.dmu.nonfinF v 0, satF := w1c g.dmu.satF v 1, maskedF := w1c g.dmu.maskedF v 2,
                                   eccCorrF := w1c g.dmu.eccCorrF v 3, eccUncorrF := w1c g.dmu.eccUncorrF v 4 } })
  else if !stopped then (stWrongState, d)
  else if off < 0xA000 then
    let i := (off - 0x9040) / 8
    (stOK, d.updRegion r fun g =>
      { g with dmu := if off % 8 = 0 then { g.dmu with actBase := lset g.dmu.actBase i v }
                      else { g.dmu with actStep := lset g.dmu.actStep i v } })
  else if off < 0x20000 then (stOK, d.updRegion r fun g => { g with act := memWrite g.act (off - 0xA000) (leBytes 4 v) })
  else (stOK, d.updRegion r fun g =>
    { g with scratch := memWrite g.scratch (g.regs.scratchPage * 0x40000 + off - 0x80000) (leBytes 4 v) })

/-- An entry of the sighting table is in range (R135). -/
def sightEntryOk (v : Nat) : Bool := decide (bits v 9 0 < 528) || decide (1020 ≤ bits v 9 0)

/-- The field ranges of a tile register (R113, R114, R135, R136, R151). -/
def Tile.regForm (t : Tile) (off v : Nat) : Nat :=
  let ok (b : Bool) : Nat := if b then stOK else stFieldRange
  match off with
  | 0x008 => ok (decide (bits v 6 4 ≠ 0))
  | 0x100 => ok (decide (bits v 3 2 ≠ 3))
  | 0x110 => ok (decide ((sx 9 (bits v 24 16)).natAbs ≤ 255))
  | 0x114 => ok (decide (1 ≤ bits v 25 16) && decide (bits v 9 0 + bits v 25 16 ≤ 516))
  | 0x118 => ok (decide (1 ≤ v))
  | 0x11C => ok (decide (bits v 9 0 < 528))
  | 0x120 => t.sight.ctrlForm v
  | 0x124 => t.sight.periodForm v
  | 0x128 => t.sight.delayForm v
  | 0x148 => kappaForm v
  | _ => if inR off 0x500 0x5FC then ok (sightEntryOk v) else stOK

/-- A write that waits for the next apply strobe (R115). (DEDUCED, assumption log 62.) -/
def Tile.stage (t : Tile) (off v : Nat) : Tile := { t with staged := (t.staged.filter fun e => e.1 ≠ off) ++ [(off, v)] }

/-- TONE_CTRL (R108, R109, R114): START is refused with BUSY while a run is in progress. (DESIGN CHOICE, assumption log 35.)
-/
def Device.toneCtrlWrite (d : Device) (p v : Nat) : Nat × Device :=
  if bit v 0 && (d.tile p).tone.running && !bit v 1 then (stBusy, d)
  else
    (stOK, d.updTile p fun t =>
      let t := if bit v 1 then t.endTone else t
      let t := t.stage 0x100 (bits v 6 2 * 4)
      if bit v 0 then t.startTone else t)

/-- ADC_TRIM of a pair is written between the parts of its ADCLIN: with a later part still due, the test starts again (R441). -/
def Device.adcTrimWritten (d : Device) (p pair : Nat) : Device :=
  match (d.region (ptRegion p)).tests.find? fun t => t.unit = unitPt p && t.code = 3 && t.part / 32 = pair && decide (2 ≤ t.part % 32) with
  | some t => d.adclinAgain (ptRegion p) t
  | none => d

/-- A write of a tile register whose form is in order, in a tile that accepts it (R22, R113 to R116, R139, R147, R448). -/
def Device.tileRegWrite (d : Device) (p off v : Nat) : Nat × Device :=
  let put (f : Tile → Tile) : Nat × Device := (stOK, d.updTile p f)
  match off with
  | 0x004 => put fun t =>
      { t with rowTripF := w1c t.rowTripF v 8, shadowLateF := w1c t.shadowLateF v 9, adcClipF := w1c t.adcClipF v 10,
               trimSatF := w1c t.trimSatF v 11, clamp128F := w1c t.clamp128F v 12, toneClipF := w1c t.toneClipF v 13,
               histIncompleteF := w1c t.histIncompleteF v 14 }
  | 0x00C => put fun t => if bit v 31 then { t with firstTrip := none } else t
  | 0x028 => if v = 1 then (stOK, d.tileReset p) else (stOK, d)
  | 0x100 => d.toneCtrlWrite p v
  | 0x11C => put fun t => (if bit v 24 then { t with tone := { t.tone with hist := [] } } else t).stage off (v % 2 ^ 17)
  | 0x120 => (stOK, d.writeSightCtrl p v)
  | 0x124 => (stOK, d.writeSightTimer p fun s => { s with period := v })
  | 0x128 => (stOK, d.writeSightTimer p fun s => { s with delay := v })
  | 0x12C => put fun t =>
      let s := t.sight
      { t with sight := { s with eventF := w1c s.eventF v 8, faultF := w1c s.faultF v 9, overrunF := w1c s.overrunF v 10,
                                 nearF := w1c s.nearF v 11, edgeF := w1c s.edgeF v 12 } }
  | 0x148 => (stOK, d.writeKappa p (bits v 15 0))
  | 0x14C => put fun t => { t with sight := { t.sight with ktemp := sx 16 v } }
  | 0x154 => put fun t =>
      let c := t.check
      { t with check := { c with failF := w1c c.failF v 8, alarmF := w1c c.alarmF v 9, mismatchF := w1c c.mismatchF v 10,
                                 suspectF := w1c c.suspectF v 11 } }
  | _ =>
    if inR off 0x500 0x5FC then (stOK, d.writeSightEntry p ((off - 0x500) / 4) v)
    else if inR off 0x200 0x40C then (stOK, (d.updTile p fun t => t.stage off v).adcTrimWritten p ((off - 0x200) / 8))
    else put fun t => t.stage off v

/-- SEC_STATUS (R546): the hub's firmware clears its flags. -/
def Device.secWrite (d : Device) (v : Nat) : Nat × Device :=
  (stOK, d.updSec fun s => { s with trngWarn := w1c s.trngWarn v 8, otpBurnFail := w1c s.otpBurnFail v 9,
                                    rollback := w1c s.rollback v 10, sigFail := w1c s.sigFail v 11 })

/-- Boot is complete (R13): the hub's firmware runs and the settings are applied. (DEDUCED, assumption log 100.) -/
def Device.booted (d : Device) : Bool := decide (d.start.st ≠ .reset) && decide (d.start.st ≠ .booting)

/-- A write of an RWL register before boot completes (R13, R336, R407). -/
def Device.rwlWrite (d : Device) (b off v : Nat) : Nat × Device :=
  let a := d.adm
  match b, off with
  | 1, 0x10 => (stOK, { d with adm := { a with pBase := v } })
  | 1, 0x14 => (stOK, { d with adm := { a with eMvm10 := v } })
  | 1, 0x18 => (stOK, { d with adm := { a with eMvm15 := v } })
  | 1, 0x1C => (stOK, { d with adm := { a with eMvm20 := v } })
  | 1, 0x20 => (stOK, { d with adm := { a with ePath := v } })
  | 1, 0x24 => (stOK, { d with adm := { a with eDmu := v } })
  | 1, 0x28 => (stOK, { d with adm := { a with eHbm := v } })
  | 1, _ => (stOK, { d with adm := { a with ePort := v } })
  | _, 0x04 => if 8192 < v + d.mm.storeSize then (stFieldRange, d) else (stOK, d.updMm fun m => { m with storeBase := v })
  | _, _ => if 8192 < d.mm.storeBase + v then (stFieldRange, d) else (stOK, d.updMm fun m => { m with storeSize := v })

/-- A write of a rescale entry (R181, R182): refused while a stream is bound to the logical tile. -/
def Device.rescaleWrite (d : Device) (lt col v : Nat) : Nat × Device :=
  if (List.range 256).any fun s => d.bound s lt then (stWrongState, d)
  else if !posNormal v then (stFieldRange, d)
  else (stOK, d.updCluster (ltCluster lt) fun c => { c with rescale := tset c.rescale (512 * ltTile lt + col) v })

/-- A write in the tile and trim window: its form, then the tile's state (R22, R113). -/
def Device.windowWrite (d : Device) (p : Nat) (form : Nat) (op : Nat × Device) : Nat × Device :=
  if form ≠ stOK then (form, d) else if !d.tileOpen p then (stWrongState, d) else op

/-- A write of a word of a trim entry (R148). -/
def Device.trimWrite (d : Device) (n i : Nat) (high : Bool) (v : Nat) : Nat × Device :=
  let p := trimTile n i
  if high then
    (stOK, d.writeTrim p (trimSlot i) v)
  else (stOK, d.updTile p fun t => { t with trims := tupd .reset t.trims (trimSlot i) fun e => { e with heldLow := some v } })

/-- A write in a compute die (R582, R583). The form of a tile register is checked before its tile's state. -/
def Device.partWrite (d : Device) (who n : Nat) (p : DiePart) (v : Nat) : Nat × Device :=
  let formed (f : RegForm) (op : Nat × Device) : Nat × Device := if formCheck f v = stOK then op else (formCheck f v, d)
  match p with
  | .manager off => formed (dieForm off) (d.dieRegWrite who n off v)
  | .region g off => formed (regionForm off) (d.regionWrite (6 * n + g) off v)
  | .tile t off =>
    formed (tileForm off) (d.windowWrite (864 * n + t) ((d.tile (864 * n + t)).regForm off v) (d.tileRegWrite (864 * n + t) off v))
  | .trim i high => d.windowWrite (trimTile n i) (if high then trimHighForm v else trimLowForm v) (d.trimWrite n i high v)
  | .rescale lt col => d.rescaleWrite (768 * n + lt) col v
  | .reserved => (stFieldRange, d)

end Sys2Proof.Machine
end

