-- ==== Sys2Proof/Machine/Settings.lean ====
section
/-! DEFINITION. Settings records in OTP (R566 to R571): which registers a TYPE holds, how they are applied at start, and the
commit of a staged record. -/
namespace Sys2Proof.Machine

/-- The form of a register of a hub block (R578). -/
def hubForm (b off : Nat) : RegForm :=
  match b with
  | 0 => identForm off
  | 1 => admForm off
  | 2 => fabForm off
  | 3 => tbForm off
  | 4 => pabForm off
  | 5 => bcpForm off
  | 6 => dpForm off
  | 7 => hbmForm off
  | 8 => thermForm off
  | 9 => startForm off
  | 10 => secForm off
  | 11 => fltForm off
  | 12 => mmForm off
  | 13 => if inR off 0x2000 0x207F then setForm (off - 0x2000) else none
  | _ => none

/-- Registers of a TYPE in the order of its DATA: block and offset (R567). Block 14 stands for the die managers. -/
def settingRegs (t : Nat) : List (Nat × Nat) :=
  match t with
  | 1 => [(4, 0x10), (4, 0x14), (4, 0x18), (4, 0x1C), (4, 0x20), (4, 0x04), (5, 0x10)]
  | 2 => [(4, 0x30), (4, 0x34), (4, 0x38), (4, 0x3C), (4, 0x40), (4, 0x04), (5, 0x14), (4, 0x60), (4, 0x64), (4, 0x68), (4, 0x6C),
          (4, 0x70)]
  | 3 => [(5, 0x00), (5, 0x04), (5, 0x08), (5, 0x0C)]
  | 4 => [(3, 0x00), (3, 0x18), (3, 0x1C), (3, 0x20), (3, 0x24), (3, 0x28), (3, 0x2C), (3, 0x40), (3, 0x44), (3, 0x48), (3, 0x4C)]
  | 5 => [(6, 0x04), (6, 0x08), (6, 0x0C)]
  | 6 => [(8, 0x04), (8, 0x08), (8, 0x0C), (8, 0x10), (8, 0x14)]
  | 7 => [(8, 0x200), (8, 0x210), (8, 0x220), (8, 0x230), (8, 0x204), (8, 0x214), (8, 0x224), (8, 0x234)]
  | 8 => [(8, 0x240), (8, 0x250), (8, 0x260), (8, 0x270), (8, 0x244), (8, 0x254), (8, 0x264), (8, 0x274)]
  | 9 => [(9, 0x04), (1, 0x04), (14, 0x200)]
  | _ => []

/-- A word is in the stated ranges of its register (R569). (DEDUCED, assumption log 34.) -/
def Device.settingWordOk (d : Device) (b off v : Nat) : Bool :=
  match b, off with
  | 3, 0x00 => decide (bits v 2 0 ≤ 1) && decide (24 ≤ bits v 15 8) && decide (bits v 15 8 ≤ 43)
  | 6, 0x04 => (List.range 4).all fun q => decide (bits v (8 * q + 3) (8 * q + 2) ≠ 3)
  | 8, 0x04 => decide (60 ≤ v) && decide (v ≤ 102)
  | 8, 0x08 => decide (63 ≤ v) && decide (v ≤ 105)
  | 8, 0x0C => decide (1 ≤ v) && decide (v ≤ 10)
  | 8, 0x10 => decide (1 ≤ v) && decide (v ≤ 1000)
  | 8, 0x14 => decide (100 ≤ v) && decide (v ≤ 60000)
  | 9, _ => d.startCtrlOk v
  | 1, _ => decide (pkgMinOf d.sec.grade ≤ v) && decide (v ≤ pkgMaxOf d.sec.grade)
  | 14, _ => decide (v ≤ 4000)
  | _, _ =>
    if b = 3 ∧ 0x40 ≤ off then asymOk v
    else if b = 8 ∧ off % 16 = 0 then
      decide (bits v 1 0 ≠ 3) && decide (bits v 15 8 ≤ 147) && decide (3 ≤ bits v 23 16) && decide (bits v 23 16 ≤ 150)
    else if b = 8 then extParamFits 1 v || extParamFits 2 v
    else inRange b off v

/-- The rules between the registers of one record (R499, R572). (DEDUCED, assumption log 34.) -/
def settingPairsOk (t : Nat) (w : List Nat) : Nat :=
  let g := lget 0 w
  let ok (b : Bool) : Nat := if b then stOK else stFieldRange
  if t = 1 then (if 1500 < g 6 ∧ bit (g 5) 2 = false then stWrongState else stOK)
  else if t = 2 then (if 1500 < g 6 ∧ bit (g 5) 3 = false then stWrongState else stOK)
  else if t = 6 then ok (decide (g 0 + 3 ≤ g 1))
  else if t = 7 ∨ t = 8 then
    ok ((List.range 4).all fun i =>
      decide (bits (g i) 15 8 + 3 ≤ bits (g i) 23 16) && extParamFits (bits (g i) 1 0) (g (4 + i)))
  else stOK

/-- The checks of a staged record: each word under its register's rules, the unused words zero (R569). -/
def Device.settingCheck (d : Device) (t : Nat) (w : List Nat) : Nat :=
  let regs := settingRegs t
  let form (e : Nat × Nat) : RegForm := if e.1 = 14 then dieForm e.2 else hubForm e.1 e.2
  let st := (List.range regs.length).foldl (fun st i =>
    if st ≠ stOK then st
    else
      let e := lget (0, 0) regs i
      let f := formCheck (form e) (lget 0 w i)
      if f ≠ stOK then f else if d.settingWordOk e.1 e.2 (lget 0 w i) then stOK else stFieldRange) stOK
  if st ≠ stOK then st
  else if (w.drop regs.length).any fun v => decide (v ≠ 0) then stReserved
  else settingPairsOk t w

/-- SET_COMMIT (R567, R569): the lowest blank generation is burned. A burn that fails leaves it spent. (DESIGN CHOICE,
assumption log 37, DESIGN CHOICE, assumption log 92.) -/
def Device.setCommit (d : Device) (t : Nat) (burnOk : Bool) : Nat × Device :=
  let gens := d.settings.gens t
  let w := d.settings.stage
  if t < 1 ∨ 9 < t then (stFieldRange, d)
  else if d.settingCheck t w ≠ stOK then (d.settingCheck t w, d)
  else match (List.range 4).find? fun g => (lget Generation.blank gens g).isBlank with
    | none => (stNoCapacity, d)
    | some g =>
      let x : Generation := if burnOk then .good 1 w else .spent
      let d := { d with settings := { d.settings with slots := tset d.settings.slots t (lset gens g x) } }
      if burnOk then (stOK, d)
      else (stInternal, d.updSec fun s => { s with otpBurnFailCount := satInc s.otpBurnFailCount })

/-- The DATA of the record in force of a TYPE (R568). -/
def Device.record? (d : Device) (t : Nat) : Option (List Nat) := (d.settings.inForce t).map fun e => e.2

/-- Bits of PAB_CFG that a port's record supplies (R567). -/
def mergeBits (old new mask : Nat) : Nat := (old - (old &&& mask)) + (new &&& mask)

/-- The address record of a port applied (R567): PORT_A also in recovery mode (R539). -/
def Device.applyPort (d : Device) (t : Nat) : Device :=
  match d.record? t with
  | none => d
  | some w =>
    let g := lget 0 w
    let ip6 := (w.drop 1).take 4
    if t = 1 then
      let d := d.updPab fun p => { p with aIp4 := g 0, aIp6 := ip6, cfg := mergeBits p.cfg (g 5) 5 }
      { d with bcp := { d.bcp with payloadA := g 6 } }
    else
      let d := d.updPab fun p => { p with bIp4 := g 0, bIp6 := ip6, cfg := mergeBits p.cfg (g 5) 10,
                                          collIp := lset p.collIp 0 ((w.drop 7).take 4), collCfg := lset p.collCfg 0 (g 11) }
      { d with bcp := { d.bcp with payloadB := g 6 } }

/-- An EXT record applied: channels from `c` on. -/
def Device.applyExt (d : Device) (t c : Nat) : Device :=
  match d.record? t with
  | none => d
  | some w => forEach (List.range 4) (fun i d => d.updTherm fun x =>
      let v := lget 0 w i
      let s := x.sensor (32 + c + i)
      let s : Sensor := { s with mode := bits v 1 0, failsafe := bit v 2, warn := bits v 15 8, limit := bits v 23 16,
                                 param := lget 0 w (4 + i), present := s.present && decide (s.mode = bits v 1 0),
                                 fault := s.fault && decide (s.mode = bits v 1 0) }
      { x with sensors := tset x.sensors (32 + c + i) s }) d

/-- Settings are applied (R568, R570): each record in force sets all its registers together; the spent generations and
those of an unknown FMT are counted. -/
def Device.applySettings (d : Device) : Device :=
  let bad (x : Generation) : Bool := match x with | .spent => true | .good f _ => !fmtKnown f | .blank => false
  let skips := (d.settings.slots.map fun e => (e.2.filter bad).length).sum
  let d : Device := { d with settings := { d.settings with skipCount := satAdd d.settings.skipCount skips } }
  let d := (d.applyPort 1).applyPort 2
  let d := match d.record? 3 with
    | none => d
    | some w => { d with bcp := { d.bcp with ctrl := lget 0 w 0, udpPort := lget 0 w 1, idle := lget 0 w 2, hold := lget 0 w 3 } }
  let d := match d.record? 4 with
    | none => d
    | some w =>
      let g := lget 0 w
      let d : Device := { d with tb := { d.tb with
        oscStab := g 1, teLimit := g 2, lockTe := g 3, stepThreshold := g 4, slewMax := g 5, refPrio := g 6,
        asym := ((w.drop 7).take 4).map (sx 32) } }
      (d.setTbFields (g 0)).setMode (bits (g 0) 2 0)
  let d := match d.record? 5 with
    | none => d
    | some w =>
      d.updDp fun x => { x with quadCfg := (List.range 4).map fun q => bits (lget 0 w 0) (8 * q + 7) (8 * q),
                                trainLimit := lget 0 w 1, ingressMargin := lget 0 w 2 }
  let d := match d.record? 6 with
    | none => d
    | some w =>
      d.updTherm fun x => { x with tWarn := lget 0 w 0, tLimit := lget 0 w 1, hyst := lget 0 w 2, stepUp := lget 0 w 3,
                                   stepDown := lget 0 w 4 }
  let d := (d.applyExt 7 0).applyExt 8 4
  match d.record? 9 with
  | none => d
  | some w =>
    let d : Device := { d with
      start := { d.start with minDies := bits (lget 0 w 0) 3 0, lockWait := bits (lget 0 w 0) 15 8 },
      adm := { d.adm with pkgLimit := lget 0 w 1 },
      settings := { d.settings with dressAllow := some (lget 0 w 2) } }
    forEach d.allRegions (fun r d => d.updRegion r fun x => { x with dressAllow := lget 0 w 2 }) d

end Sys2Proof.Machine
end

