-- ==== Sys2Proof/Machine/RegMap.lean ====
section
/-! DEFINITION. REG_READ and REG_WRITE: the control-space map with its roles (R468, R577 to R583). -/
namespace Sys2Proof.Machine

/-! ### Roles (R580, R581) -/

/-- The least role that reads a register. (DEDUCED, assumption log 31.) -/
def readRole (b bank off : Nat) : Role :=
  if b = 10 then .owner
  else if 14 ≤ b then
    match diePart bank off with
    | .region _ o => if inR o 0x1000 0x17FF ∨ inR o 0x20000 0x2FFFF ∨ inR o 0x40000 0xBFFFF then .owner else .observer
    | _ => .observer
  else .observer

/-- The least role that writes LINK_CTRL with a value: UNFENCE is an Owner's, RETRAIN a Maintainer's. -/
def linkCtrlRole (v : Nat) : Role := if bit v 1 then .owner else .maintainer

/-- The least role that writes a register with a value; none where no session may. REG_WRITE itself is a Maintainer's
(R467), TTW_SEL with it. (DEDUCED, assumption log 30, DEDUCED, assumption log 31.) -/
def Device.writeRole (d : Device) (b bank off v : Nat) : Option Role :=
  match b with
  | 0 => some .maintainer
  | 2 => if inR off 0x04 0x13 then some .owner
         else if inR off 0x40 0x13F ∧ inR (off % 0x20) 4 7 then some (linkCtrlRole v) else some .operator
  | 3 => if inR off 0x00 0x03 then some (if bits v 2 0 = d.tb.mode then .operator else .owner)
         else if inR off 0x10 0x17 then some .owner else some .operator
  | 4 => some .owner
  | 5 => some .owner
  | 6 => if inR off 0x1000 0x13FF ∧ inR (off % 16) 0xC 0xF then some .owner else some .operator
  | 9 => if inR off 4 7 then some .owner else some .operator
  | 10 => none
  | 11 => if inR off 0x44 0x47 then some .owner else some .operator
  | 13 => if inR off 0x2000 0x207F then some .owner else none
  | _ =>
    if b < 14 then some .operator
    else match diePart bank off with
      | .manager o =>
        if inR o 0x10 0x13 then some .maintainer
        else if inR o 0x480 0x497 then some .owner
        else if inR o 0x400 0x45F ∧ inR (o % 0x20) 4 7 then some (linkCtrlRole v)
        else some .operator
      | .region _ o =>
        if inR o 0x8000 0x8FFF then some .maintainer
        else if inR o 0x1000 0x17FF ∨ inR o 0x20000 0x2FFFF ∨ inR o 0x40000 0x7FFFF then none
        else some .owner
      | .tile _ _ => some .maintainer
      | .trim _ _ => some .owner
      | .rescale _ _ => none
      | .reserved => some .maintainer

/-! ### REG_READ -/

/-- What the read of a word does besides: low words latch their pair (R47, R185, R221, R264, R505). -/
def Device.latchFor (d : Device) (b off : Nat) : Device :=
  if b = 3 ∧ off = 0x08 then d.latchMeridian
  else if b = 4 ∧ off = 0xA0 then d.reportSeqLo.2.2
  else if 14 ≤ b then
    match diePart 0 off with
    | .region g o =>
      let r := 6 * (b - 14) + g
      let pair := if o % 64 = 0x08 then some 0 else if o % 64 = 0x20 then some 1 else if o % 64 = 0x28 then some 2 else none
      if o = 0x14 then d.updSeq r fun q => { q with trapMerLatch := q.trapMer }
      else if o = 0x9018 then d.updRegion r fun g => { g with dmu := { g.dmu with busyLatch := g.dmu.busyCycles } }
      else if inR o 0x8000 0x8FFF then
        match pair with
        | some k => d.updRegion r fun g => { g with stats := tupd .reset g.stats ((o - 0x8000) / 64) fun x => x.latch k }
        | none => d
      else d
    | _ => d
  else d

/-- One word read, with what the read does (R579). -/
def Device.readWord (d : Device) (b bank off : Nat) : Nat × Device :=
  let d := d.latchFor b off
  match b with
  | 0 => (d.identRead off, d)
  | 1 => (d.admRead off, d)
  | 2 => (d.fabRead off, d)
  | 3 => (d.tbRead off, d)
  | 4 => (d.pabRead off, d)
  | 5 => (d.bcpRead off, d)
  | 6 => (d.dpRead off, d)
  | 7 => (d.hbmRead off, d)
  | 8 => (d.thermRead off, d)
  | 9 => (d.startRead off, d)
  | 10 => (d.secRead off, d)
  | 11 => (d.fltRead off, d)
  | 12 => (d.mmRead off, d)
  | 13 => d.otpRead off
  | _ => (d.partRead (b - 14) bank (diePart bank off), d)

/-- Words read in ascending order (R468). -/
def Device.readWords (d : Device) (b bank off count : Nat) : List Nat × Device :=
  (List.range count).foldl (fun acc i =>
    let (v, d) := acc.2.readWord b bank (off + 4 * i)
    (acc.1 ++ [v % 2 ^ 32], d)) ([], d)

/-- The state of a block for an access: a compute die's own (R579). (DEDUCED, assumption log 31.) -/
def Device.blockAccess (d : Device) (b : Nat) : Nat := if 14 ≤ b then d.dieAccess (b - 14) else stOK

/-- REG_READ (R468, R579, R580). (DEDUCED, assumption log 31.) -/
def Device.regRead (d : Device) (who addr count : Nat) : Device :=
  d.cmd who cmdRegRead .observer fun d =>
    match blockOf addr with
    | none => (stFieldRange, [], d)
    | some (b, off) =>
      let bank := (d.session who).bank
      let inside := (List.range (max 1 (min count 64))).filter fun i => decide ((blockOf (addr + 4 * i)).map (fun e => e.1) = some b)
      if inside.any fun i => !d.hasRole who (readRole b bank (off + 4 * i)) then (stNotAuthorised, [], d)
      else if count = 0 ∨ 64 < count ∨ (blockOf (addr + 4 * count - 1)).map (fun e => e.1) ≠ some b then (stFieldRange, [], d)
      else if d.blockAccess b = stFieldRange then (stFieldRange, [], d)
      else if addr % 4 ≠ 0 then (stAlignment, [], d)
      else if d.blockAccess b ≠ stOK then (d.blockAccess b, [], d)
      else
        let (ws, d) := d.readWords b bank off count
        (stOK, ws, d)

/-! ### REG_WRITE -/

/-- A write of a hub block's register whose form is in order. -/
def Device.hubWrite (d : Device) (who b off v : Nat) (env : WriteEnv) : Nat × Device :=
  match b with
  | 0 => d.identWrite off v
  | 1 => d.admWrite off v
  | 2 => d.fabWrite off v
  | 3 => d.tbWrite off v
  | 4 => d.pabWrite off v
  | 5 => d.bcpWrite who off v
  | 6 => d.dpWrite off v
  | 7 => d.hbmWrite v
  | 8 => d.thermWrite off v
  | 9 => d.startWrite v
  | 10 => d.secWrite v
  | 11 => d.fltWrite off v env
  | 12 => d.mmWrite off v
  | _ =>
    if off = 0x2030 then d.setCommit v env.burnOk
    else (stOK, { d with settings := { d.settings with stage := lset d.settings.stage ((off - 0x2000) / 4) v } })

/-- The W1C flags that hardware sets on the very cycle on which a write would clear them: the flags of `races` that the write names
and that are set (R14). (DESIGN CHOICE, assumption log 92.) -/
def Device.raced (d : Device) (b bank off v races : Nat) : Nat :=
  if races = 0 then 0 else races &&& v &&& (w1cBits b bank off).1 &&& (d.readWord b bank off).1

/-- Races of flags that have no counter of their own (R14, R573). -/
def Device.countRaces (d : Device) (n : Nat) : Device :=
  if n = 0 then d else { d with start := { d.start with flagRaceCount := satAdd d.start.flagRaceCount n } }

/-- No register lies at an offset (R579). -/
def reservedAt (b bank off : Nat) : Bool :=
  if 14 ≤ b then
    match diePart bank off with
    | .manager o => (dieForm o).isNone
    | .region _ o => (regionForm o).isNone
    | .tile _ o => (tileForm o).isNone
    | .trim _ _ | .rescale _ _ => false
    | .reserved => true
  else (hubForm b off).isNone

/-- A register write past its role (R16, R468, R579): alignment, the die's state, the register's form and range, and the
register's own rules. A refused write changes nothing. A flag that hardware sets on the cycle of its clear stays set (R14). -/
def Device.poke (d : Device) (who b bank off v : Nat) (env : WriteEnv) : Nat × Device :=
  let race := d.raced b bank off v env.races
  let v := v - race
  let (st, d') :=
    if d.blockAccess b = stFieldRange then (stFieldRange, d)
    else if off % 4 ≠ 0 then (stAlignment, d)
    else if d.blockAccess b ≠ stOK then (d.blockAccess b, d)
    else if 14 ≤ b then d.partWrite who (b - 14) (diePart bank off) v
    else if isRwl b off && !d.booted then
      match hubForm b off with
      | some (mask, _) => if v &&& (m32 - mask) ≠ 0 then (stReserved, d) else d.rwlWrite b off v
      | none => (stFieldRange, d)
    else if formCheck (hubForm b off) v ≠ stOK then (formCheck (hubForm b off) v, d)
    else if !inRange b off v then (stFieldRange, d)
    else d.hubWrite who b off v env
  (st, if st = stOK ∨ st = stInternal then d'.countRaces (onesIn (race &&& (w1cBits b bank off).2)) else d)

/-- The requester's copy of TTW_SEL for a block (R583): a session's own, or the die manager's. -/
def Device.bankOf (d : Device) (who b : Nat) : Nat := if who < 8 then (d.session who).bank else (d.die (b - 14)).bank

/-- A register write of an on-chip agent (R16, R579, R581): it reaches every register; a refused one is ignored, and counted where
it names no register, a die that does not answer, a reserved bit or a register with nothing to write. -/
def Device.agentWrite (d : Device) (addr v : Nat) (env : WriteEnv) : Device :=
  match blockOf addr with
  | none => d.countIgnored
  | some (b, off) =>
    let (st, d') := d.poke 8 b (d.bankOf 8 b) off v env
    if st = stOK ∨ st = stInternal then d'
    else if d.blockAccess b ≠ stOK ∨ reservedAt b (d.bankOf 8 b) off = true then d.countIgnored
    else d.ignored st

/-- A register read of an on-chip agent (R579): what it latches. One that names no register's block, or a die that does not answer,
is counted. (DESIGN CHOICE, assumption log 29.) -/
def Device.agentRead (d : Device) (addr count : Nat) : Device :=
  match blockOf addr with
  | none => d.countIgnored
  | some (b, off) =>
    if (blockOf (addr + 4 * count - 1)).map (fun e => e.1) ≠ some b ∨ d.blockAccess b ≠ stOK then d.countIgnored
    else (d.readWords b (d.bankOf 8 b) off count).2

/-- REG_WRITE (R16, R468, R579, R580). (DEDUCED, assumption log 30.) -/
def Device.regWrite (d : Device) (who addr value : Nat) (env : WriteEnv) : Device :=
  d.cmd who cmdRegWrite .maintainer fun d =>
    let v := value % 2 ^ 32
    let bank := (d.session who).bank
    match blockOf addr with
    | none => (stFieldRange, [], d)
    | some (b, off) =>
      match d.writeRole b bank off v with
      | none => (stNotAuthorised, [], d)
      | some role =>
        if !d.hasRole who role then (stNotAuthorised, [], d)
        else
          let (st, d') := d.poke who b bank off v env
          (st, [], d')

/-- REG_READ (R468). -/
def execRegRead (session addr count : Nat) (s : State) : Host.Outcome State Fault Refusal :=
  .next (s.upd fun d => if session = 8 then d.agentRead addr count else d.regRead session addr count)

/-- REG_WRITE (R468). -/
def execRegWrite (session addr value : Nat) (env : WriteEnv) (s : State) : Host.Outcome State Fault Refusal :=
  .next (s.upd fun d => if session = 8 then d.agentWrite addr (value % 2 ^ 32) env else d.regWrite session addr value env)

/-- SET_COMMIT (R569): a write of the settings register, with the outcome of the burn. -/
def execSetCommit (who value : Nat) (burnOk : Bool) (s : State) : Host.Outcome State Fault Refusal :=
  .next (s.upd fun d =>
    let op (d : Device) : Nat × Device := if 255 < value then (stReserved, d) else d.setCommit value burnOk
    if who = 8 then (let (st, d') := op d; if st = stOK ∨ st = stInternal then d' else d.ignored st)
    else d.cmd who cmdRegWrite .owner fun d => let (st, d') := op d; (st, [], d'))

end Sys2Proof.Machine
end

