-- ==== Sys2Proof/Machine/Start.lean ====
section
/-! DEFINITION. Start-up and the resets of the whole part: package reset, secure boot, hub restart, the steps to READY,
supplies, the reference clock and the test access port (R37 to R43, R521 to R545, R548 to R557, R593 to R601). -/
namespace Sys2Proof.Machine

/-! ### What a package reset keeps (R37, R43) -/

/-- Die OTP. -/
def Die.kept (x : Die) : Die :=
  { Die.reset with ident := x.ident, stepping := x.stepping, park := x.park, digest := x.digest, faulty := x.faulty,
                   repairs := x.repairs, otpBad := x.otpBad }

/-- Cell conductances. -/
def Tile.kept (t : Tile) : Tile := { Tile.reset with cells := t.cells }

/-- Hub OTP (R511, R516, R524) and board flash (R527). (DEDUCED, assumption log 43.) -/
def Security.kept (s : Security) : Security :=
  { Security.reset with
    lifecycle := s.lifecycle, anchors := s.anchors, deviceId := s.deviceId, macBase := s.macBase,
    vendorAnchor := s.vendorAnchor, stepping := s.stepping, identityDigest := s.identityDigest, certChain := s.certChain,
    grade := s.grade, arb := s.arb, keystore := s.keystore, keystoreWrites := s.keystoreWrites, flashGen := s.flashGen,
    recordedB := s.recordedB, flashTorn := s.flashTorn }

/-- The part in package reset (R37): everything volatile is at its reset value; conductances, OTP and the board's flash
stay, and so does the level of VPP_PCM. THERM_TRIP_N is released by RST_N alone (R600). -/
def Device.inReset (d : Device) (rstHigh : Bool) : Device :=
  { Device.reset with
    free := d.free, out := d.out, placement := d.placement,
    sec := d.sec.kept, adm := .reset d.sec.grade,
    settings := { Settings.reset with slots := d.settings.slots },
    pins := { Pins.reset with rstHigh := rstHigh, recoveryHigh := d.pins.recoveryHigh, vppLow := d.pins.vppLow,
                              thermTripLow := d.pins.thermTripLow && rstHigh, tapInstr := d.pins.tapInstr,
                              tapOut := d.pins.tapOut },
    dies := tmap d.dies fun _ x => x.kept, tiles := tmap d.tiles fun _ t => t.kept }

/-! ### Secure boot (R521, R522, R537 to R539) -/

/-- The tests of R521 that a start runs, as a bit set: the boot ROM's three, the hub firmware's known answers, the identity
key. (DEDUCED, assumption log 44.) -/
def startTests : Nat := 31

/-- MODE ERROR at a start (R522). -/
def Device.bootError (d : Device) : Device :=
  { d.updSec fun s => { s with mode := .error } with start := { d.start with st := .error } }

/-- Recovery mode (R539): compute dies, data ports and port B stay off, port A comes up at its static address. CLAIM mode on
an UNOWNED part with RECOVERY_N low (R512, R599). (DEDUCED, assumption log 42.) -/
def Device.bootRecovery (d : Device) : Device :=
  let d := d.updSec fun s =>
    { s with mode := .recovery, claim := decide (s.lifecycle = .unowned) && !d.pins.recoverySampled }
  let d := d.applyPort 1
  let d := (forEach d.portList (fun p d => d.updPort p fun x => { x with st := .off, lanes := 0, rate := 0 }) d).updPab
    fun p => { p with linkA := true, linkB := false }
  { d with start := { d.start with st := .recovery } }

/-- Records of the key store that fail authentication are ignored and counted (R520, R544): those the start names, and those
sealed in another mode. (DEDUCED, assumption log 45.) -/
def Device.readKeys (d : Device) (bad : List Nat) : Device :=
  let store := d.sec.keystore
  let torn (i : Nat) : Bool := bad.contains i
  let kept := ((List.range store.length).zip store).filter fun e => !torn e.1
  let foreign := kept.filter fun e => e.2.debugKey != decide (d.sec.mode = .debug)
  let n := (store.length - kept.length) + foreign.length
  d.updSec fun s => { s with keystore := kept.map fun e => e.2, sigFailCount := satAdd s.sigFailCount n }

/-- The hub firmware of an image starts (R517, R518, R537, R544, R570): step 2 ends with the settings applied and ports A
and B up. A trip stays latched (R564). (DEDUCED, assumption log 42, DEDUCED, assumption log 43, DEDUCED, assumption log 44,
DESIGN CHOICE, assumption log 85.) -/
def Device.bootImage (d : Device) (h : FwHeader) (env : BootEnv) : Device :=
  let d := d.updSec fun s =>
    { s with mode := if s.debugNext.isSome ∨ s.mode = .debug then .debug else .normal,
             debugScope := s.debugNext.getD s.debugScope, debugNext := none,
             fwVersion := h.version, fwBuild := h.build, svnRun := (List.range 3).map fun k => (h.part k).svn,
             measLoader := (h.part 0).digest, measHub := (h.part 1).digest, measDie := (h.part 2).digest }
  let d := (d.readKeys env.badKeys).applySettings.updPab fun p => { p with linkA := true, linkB := true }
  { d with start := { d.start with st := if d.therm.tripped then .tripped else .starting, step := 3 } }

/-- The boot ROM (R521, R537, R538, R599). `fromRecovery`: the restart is the ACTIVATE that ends recovery mode (R539).
(DEDUCED, assumption log 40, DEDUCED, assumption log 43, DEDUCED, assumption log 44.) -/
def Device.boot (d : Device) (env : BootEnv) (restart fromRecovery : Bool) : Device :=
  let attempts := d.sec.bootAttempts
  let d : Device := { d with
    pins := { d.pins with recoveryHigh := env.recoveryHigh, recoverySampled := env.recoveryHigh },
    pab := { d.pab with bootId := env.bootId, rseq := 0 },
    start := { d.start with st := .booting, step := 2, startedAt := d.real, isRestart := restart, hbmFails := 0,
                            lockDone := false, scanDone := false } }
  let d := d.updSec fun s => { s with selfTest := env.selfTests % 128, bootAttempts := min 3 (attempts + 1), claim := false }
  if env.selfTests % 32 ≠ startTests then d.bootError
  else if !env.recoveryHigh || (decide (2 ≤ attempts) && !fromRecovery) then d.bootRecovery
  else match (match env.copyA with | some h => some h | none => env.copyB) with
    | none => d.bootRecovery
    | some h =>
      if d.sec.headerOk h && d.sec.svnsOk h && !d.sec.flashTorn && (env.firstTry || env.secondTry) then d.bootImage h env
      else d.bootRecovery

/-- Records of the placement log that fail authentication are ignored and counted (R528): those the start names, and those
tagged in MODE DEBUG (R544). (DEDUCED, assumption log 45.) -/
def Device.readLog (d : Device) (bad : List Nat) : Device :=
  let all := (List.range d.placement.length).zip d.placement
  let kept := (all.filter fun e => !bad.contains e.1 && !e.2.debugKey).map fun e => e.2
  { d with placement := kept }.updSec fun s =>
    { s with logTagFailCount := satAdd s.logTagFailCount (d.placement.length - kept.length) }

/-- PACKAGE_RESET (R37, R42, R548, R557, R593). While RST_N is low the part is held in reset; on its rising edge start-up
begins at step 2. (DESIGN CHOICE, assumption log 48.) -/
def execPackageReset (env : BootEnv) (released : Bool) (s : State) : Host.Outcome State Fault Refusal :=
  .next (s.updAlways fun d =>
    let d := d.inReset false
    if released then
      ({ d with pins := { d.pins with rstHigh := true } }.readLog env.badLog).boot env false false
    else d)

/-! ### The hub restart (R37, R556) -/

/-- The compute side and the die manager of every die in the grade that is not fenced are reset, every row parked (R37, R40). -/
def Device.restartDies (d : Device) : Device :=
  forEach ((List.range d.dieCount).filter fun n => d.dieLive n) (fun n d =>
    let d := (d.resetCompute n).updDie n fun x => { x with dm := .reset, wdogRow := 0, replicaBad := 0 }
    forEach (dieRegions n) (fun r d => d.updRegion r fun g => { g with lost := false }) d) d

/-- The network domain of every die is reset by a hub restart, fenced dies too (R37): routers, and the state of every link. -/
def Device.resetNetwork (d : Device) : Device :=
  let d := forEach d.allRegions (fun r d => d.updRegion r fun g => { g with router := .reset, inject := [] }) d
  forEach ((List.range 16).filter fun n => d.linkExists n) (fun n d =>
    d.updLink n fun l => { l with st := .down, fails := 0, retrains := [] }) d

/-- What a hub restart ends (R37, R74, R314, R402, R458, R470, R533, R541): sessions with reason RESTART, pending switches,
every stream, the Almanac and the ledger, unfinished conversations, SAKs. HBM goes into self-refresh. (DEDUCED, assumption
log 40.) -/
def Device.endHub (d : Device) : Device :=
  let d := forEach (List.range 8) (fun n d => d.closeSession n 3) d
  let d := d.switchAll
  let d := forEach d.liveStreams (fun s d => d.freeStream s) d
  let d := d.restartDies.resetNetwork
  let d := d.tbRestart
  let d := forEach d.portList (fun p d => d.updPort p fun x => { x with sakInstalled := false, sakSci := 0, mkaPeer := none }) d
  let staged := decide (d.sec.fw.st = .staged) && d.sec.activation.isNone
  let d := d.updSec fun s => { s with fw := if staged then s.fw else .reset, activation := none, drbgStopped := false, retestFails := 0 }
  { d with
    bcp := { d.bcp with handshakes := [], rejectTimes := [] }, held := [], hostScratch := 0,
    hbm := { d.hbm with selfRefresh := true },
    mm := { d.mm with buffers := [] },
    flt := { d.flt with replacements := [] },
    be := [], fab := { d.fab with egress := [], beResent := [], lostSlots := [] },
    dp := { d.dp with batches := [] },
    adm := { d.adm with engine := 0, closed := false, queue := [], convs := [], exchangeFrame := none, ledger := [], groups := [],
                        darkNow := [], draining := false } }

/-- A hub restart (R37, R556): by ACTIVATE, an Owner's RESTART or the hub watchdog. MODE ERROR is left by a package reset
alone (R522), and a hub whose processor is halted stays so (R564). (DEDUCED, assumption log 40.) -/
def Device.hubRestart (d : Device) (env : BootEnv) (fromRecovery : Bool) : Device :=
  if d.sec.mode = .error ∨ d.pins.hubHalted ∨ d.start.st = .reset then d else d.endHub.boot env true fromRecovery

/-- HUB_WATCHDOG_EXPIRY (R538). (DEDUCED, assumption log 41.) -/
def execHubWatchdogExpiry (env : BootEnv) (s : State) : Host.Outcome State Fault Refusal :=
  .next (s.upd fun d => d.hubRestart env false)

/-- ACTIVATION_RESTART (R539 to R541): at Q. (DEDUCED, assumption log 41.) -/
def execActivationRestart (env : BootEnv) (s : State) : Host.Outcome State Fault Refusal :=
  .next (s.upd fun d => match d.sec.activation with
    | some a => if a.q.any fun q => decide (q ≤ d.clk.now) then d.hubRestart env (decide (d.sec.mode = .recovery)) else d
    | none => d)

/-! ### Steps 3 to 11 (R548 to R556) -/

/-- A start-up step is under way. -/
def Device.atStep (d : Device) (n : Nat) : Bool := decide (d.start.st = .starting) && decide (d.start.step = n)

def Device.toStep (d : Device) (n : Nat) : Device := { d with start := { d.start with step := n, stepAt := d.real } }

/-- SERVICE (R554): the compute dies are held in reset with every row parked; data ports train as in step 8. (DESIGN CHOICE,
assumption log 50.) -/
def Device.enterService (d : Device) : Device :=
  let before := decide (d.start.step < 8) && !d.start.isRestart
  let d := d.restartDies
  let d := if before then forEach (List.range 4) (fun q d => d.trainQuad q) d else d
  { d with start := { d.start with st := .service } }

/-- Step 5 (R552): dies whose OTP is uncorrectable are fenced with EVENT 0x06; the maps of the others are built. (DEDUCED,
assumption log 46.) -/
def Device.buildMaps (d : Device) : Device :=
  let d := forEach ((List.range d.dieCount).filter fun n => d.dieLive n && (d.die n).otpBad) (fun n d => d.fenceDie n 0x06) d
  forEach ((List.range d.dieCount).filter fun n => d.dieLive n) (fun n d => d.mapDie n) d

/-- Links that step 4 still trains: both their ends are in service. -/
def Device.linksLeft (d : Device) : List Nat :=
  (List.range 16).filter fun n =>
    d.linkExists n && decide ((d.link n).st = .training) && d.dieLive (n % 8) &&
      (decide (n < 8) || d.dieLive ((n % 8 + 1) % d.dieCount))

/-- Step 4 ends when no link trains any more; a hub restart goes on with step 6 (R556). (DEDUCED, assumption log 46.) -/
def Device.afterLinks (d : Device) : Device :=
  if d.linksLeft ≠ [] then d else if d.start.isRestart then d.toStep 6 else d.buildMaps.toStep 6

/-- DIE_ENUMERATION (R548, R550): `answers` are the dies that answer in time with a good identity, `corrected` and `bad`
those whose OTP shows a corrected or an uncorrectable error. Step 4 then trains the links. (DEDUCED, assumption log 46.) -/
def execDieEnumeration (answers corrected bad : List Nat) (s : State) : Host.Outcome State Fault Refusal :=
  .next (s.upd fun d =>
    if !d.atStep 3 then d
    else
      let live := (List.range d.dieCount).filter fun n => d.dieLive n
      let d := forEach live (fun n d => d.updDie n fun x =>
        { x with otpEccF := x.otpEccF || corrected.contains n, otpBad := bad.contains n }) d
      let d := forEach (live.filter fun n => !answers.contains n) (fun n d => d.fenceDie n 0x0A) d
      let d := forEach ((List.range 16).filter fun n => d.linkExists n && d.dieLive (n % 8) &&
          (decide (n < 8) || d.dieLive ((n % 8 + 1) % d.dieCount)))
        (fun n d => d.updLink n fun l => { l with st := .training, fails := 0, retrains := [] }) d
      (d.toStep 4).afterLinks)

/-- LINK_QUALIFICATION (R551, R365), with the CRC failures of the pattern: a link that fails is trained once more; a second failure fences it. -/
def execLinkQualification (link failures : Nat) (s : State) : Host.Outcome State Fault Refusal :=
  .next (s.upd fun d =>
    if !d.atStep 4 || !d.linksLeft.contains link then d
    else if d.qualifies failures then (d.updLink link fun l => { l with st := .up, fails := 0 }).afterLinks
    else if (d.link link).fails = 0 then d.updLink link fun l => { l with fails := 1 }
    else (d.fenceLink link).afterLinks)

/-- The broadcast of microcode to some dies (R262, R263, R437): one whose microcode fails three times is fenced, and every other
is in service with its regions out of RESET. -/
def Device.broadcast (d : Device) (dies failed : List Nat) : Device :=
  let d := forEach (dies.filter fun n => failed.contains n) (fun n d => d.fenceDie n 0x07) d
  forEach (dies.filter fun n => !failed.contains n) (fun n d => d.releaseDie n) d

/-- MICROCODE_BROADCAST (R262, R263, R548, R556): step 6 of start-up, and in READY for the dies whose compute side was reset.
`failed` are the dies whose microcode fails after three broadcasts. -/
def execMicrocodeBroadcast (failed : List Nat) (s : State) : Host.Outcome State Fault Refusal :=
  .next (s.upd fun d =>
    let live := (List.range d.dieCount).filter fun n => d.dieLive n
    if d.start.st = .ready then d.broadcast (live.filter fun n => decide ((d.die n).dm = .computeReset)) failed
    else if !d.atStep 6 then d
    else
      let d := d.broadcast live failed
      if d.start.isRestart then { d with hbm := { d.hbm with selfRefresh := false } }.toStep 11
      else { d with hbm := { d.hbm with st0 := 1, st1 := 1 } }.toStep 7)

/-- HBM_TRAINING (R548, R553): the context table is cleared and steps 8 to 10 begin together; a second failure enters
SERVICE. (DESIGN CHOICE, assumption log 50.) -/
def execHbmTraining (ok0 ok1 : Bool) (s : State) : Host.Outcome State Fault Refusal :=
  .next (s.upd fun d =>
    if !d.atStep 7 then d
    else
      let again := decide (d.start.hbmFails = 0)
      let code (ok : Bool) : Nat := if ok then 2 else if again then 1 else 3
      let d : Device := { d with hbm := { d.hbm with st0 := code ok0, st1 := code ok1 } }
      if ok0 && ok1 then
        let d : Device := { d with hbm := { d.hbm with contexts := [] } }
        (forEach (List.range 4) (fun q d => d.trainQuad q) d).toStep 8
      else if again then { d with start := { d.start with hbmFails := 1 } }
      else d.enterService)

/-- LOCK_WAIT_EXPIRY (R548): LOCK_WAIT has passed since step 7 ended. -/
def execLockWaitExpiry (s : State) : Host.Outcome State Fault Refusal :=
  .next (s.upd fun d => if d.atStep 8 ∧ d.ranOut d.start.stepAt (msTc (1000 * d.start.lockWait)) then
      { d with start := { d.start with lockDone := true } } else d)

/-- STARTUP_SIGHTING_SCAN (R158, R548): every dressed tile. -/
def execStartupSightingScan (results : List ScanResult) (s : State) : Host.Outcome State Fault Refusal :=
  .next (s.upd fun d =>
    if !d.atStep 8 || d.start.scanDone then d
    else
      let tiles := ((List.range d.dieCount).filter fun n => d.dieLive n).flatMap fun n => d.dressedTiles n
      let d := forEach tiles (fun p d =>
        match results.find? fun x => x.tile = p && x.ok with
        | some x => d.scanTile p x
        | none => (d.updTile p fun t => t.setHealth .faulty).faultTile p 0x04 0 0) d
      { d with start := { d.start with scanDone := true } })

/-- Steps 8, 9 and 10 have ended, or the last step of a hub restart (R548, R556). -/
def Device.readyDue (d : Device) : Bool :=
  d.atStep 11 ||
    (d.atStep 8 && d.start.scanDone && (d.start.lockDone || decide (d.tb.st = .locked) || decide (d.tb.st = .localTime)) &&
      d.portList.all fun p => decide ((d.port p).st ≠ .training) || (d.port p).retry)

/-- The counters are burned up to the SVNs of the running image (R526): `burned` gives the values they reach. (DEDUCED,
assumption log 47.) -/
def Device.burnCounters (d : Device) (burned : List Nat) : Device :=
  let was := d.sec.arb
  let now := (List.range 3).map fun k =>
    max (lget 0 was k) (min (lget 0 d.sec.svnRun k) (max (lget 0 was k) (lget 0 burned k)))
  let d := d.updSec fun s => { s with arb := now }
  forEach ((List.range 3).filter fun k => decide (lget 0 now k < lget 0 d.sec.svnRun k)) (fun _ d => d.burnFailed) d

/-- READY (R526, R538, R542, R553, R555, R575): fewer dies than START_MIN_DIES enter SERVICE instead. (DEDUCED, assumption
log 43.) -/
def Device.goReady (d : Device) (burned : List Nat) : Device :=
  if d.diesUp.length < d.start.minDies then d.enterService
  else
    let d : Device := { d with start := { d.start with
      st := .ready, step := 11, startTime := (d.real - d.start.startedAt) / 1966080, capDies := maskOf d.diesUp,
      capTiles := d.tilesUp, capLinks := d.ringsFenced } }
    let d := d.burnCounters burned
    let d := d.updSec fun s => { s with bootAttempts := 0, migrating := s.migrating || decide (s.recordedB < s.fwVersion),
                                        recordedB := max s.recordedB s.fwVersion }
    d.capacityNotice

/-- (DEDUCED, assumption log 47.) -/
def execReady (burned : List Nat) (s : State) : Host.Outcome State Fault Refusal :=
  .next (s.upd fun d => if d.readyDue then d.goReady burned else d)

/-! ### Supplies, clock and test port (R594, R595, R597, R601) -/

/-- RAIL_FAULT (R594, R607): every block is held in package reset. (DESIGN CHOICE, assumption log 48.) -/
def execRailFault (s : State) : Host.Outcome State Fault Refusal :=
  .next (s.updAlways fun d =>
    if !d.pins.rstHigh || d.pins.railHold then d
    else
      let d := d.inReset true
      { d with pins := { d.pins with railHold := true } })

/-- REFCLK_LOSS (R597, R607): every port goes down and the hub is halted; HBM contents are lost. -/
def execRefclkLoss (s : State) : Host.Outcome State Fault Refusal :=
  .next (s.updAlways fun d =>
    if d.stopped then d
    else
      let d := d.resetDies
      let d := forEach d.portList (fun p d => d.updPort p fun x => { x with st := .down, lanes := 0, rate := 0 }) d
      { d with start := { d.start with st := .error },
               hbm := { d.hbm with mem := [], contexts := [], st0 := 0, st1 := 0 },
               pab := { d.pab with linkA := false, linkB := false },
               pins := { d.pins with refclkLost := true, hubHalted := true } })

/-- VPP_PCM_DROP (R125, R595): a dressing in progress is abandoned without finishing its row, and its request waits. (DESIGN
CHOICE, assumption log 48.) -/
def execVppPcmDrop (s : State) : Host.Outcome State Fault Refusal :=
  .next (s.updAlways fun d =>
    if d.pins.vppLow then d
    else
      let d : Device := { d with pins := { d.pins with vppLow := true } }
      let open_ := d.tiles.filter fun e =>
        decide (e.2.dress.st = .active) || decide (e.2.dress.st = .pausedAllowance) || decide (e.2.dress.st = .pausedTemp)
      forEach (open_.map fun e => e.1) (fun p d =>
        (d.updTile p fun t => let u := t.undress; { u with dress := { u.dress with st := .queued } }).faultTile p 0x15 0 0) d)

/-- VPP_PCM_RECOVER (R595): dressings that wait may start again. -/
def execVppPcmRecover (s : State) : Host.Outcome State Fault Refusal :=
  .next (s.updAlways fun d => { d with pins := { d.pins with vppLow := false } })

/-- IDCODE (R601). -/
abbrev idCode : Nat := 0x53580009

/-- Instructions of the test access port, by the model's numbers: 0 BYPASS, 1 IDCODE, 2 SAMPLE, 3 EXTEST; others belong to
the debug scope. (DESIGN CHOICE, assumption log 23, PRESUMED, assumption log 49.) -/
def Device.tap (d : Device) (instr : Nat) : Device :=
  let put (i v : Nat) (d : Device) : Device :=
    { d with pins := { d.pins with tapInstr := i, tapOut := v, extest := decide (i = 3) } }.emit (.tap v)
  if d.pins.rstHigh then put 0 0 d
  else if instr = 1 then put 1 idCode d
  else if instr = 2 ∨ instr = 3 then
    let (v, d) := takeFree 64 d
    put instr v d
  else put 0 0 d

/-- TEST_ACCESS_PORT_OPERATION (R601). An instruction that the port does not offer now acts as BYPASS. In MODE DEBUG the
scope of R543 opens a unit whose behaviour the spec does not give. (PRESUMED, assumption log 49.) -/
def execTestAccessPortOperation (instr : Nat) (s : State) : Host.Outcome State Fault Refusal :=
  if s.dev.sec.mode = .debug ∧ 3 < instr then .refused .debugScope else .next (s.updAlways fun d => d.tap instr)

end Sys2Proof.Machine
end

