-- ==== Sys2Proof/Machine/Bcp.lean ====
section
/-! DEFINITION. The commands of the Berif Control Protocol (R467 to R472): those of the session layer whole, the others by
their meanings in the files of their chapters, and the request a DATA datagram carries. -/
namespace Sys2Proof.Machine

/-! ### Session, time, test and log commands (R467) -/

/-- PING: Meridian now and the TB state. -/
def Device.ping (d : Device) (who : Nat) : Device :=
  d.cmd who 0x0001 .observer fun d => (stOK, [d.mer, d.tb.st.code], d)

/-- CLOSE (R458): the reply is sent first. -/
def Device.close (d : Device) (who : Nat) : Device :=
  let ok := d.served who && (d.modeCheck 0x0002).isNone
  let d := d.cmd who 0x0002 .observer fun d => (stOK, [], d)
  if ok then d.closeSession who 0 else d

/-- SESSION_INFO: role, port, BASE, block size, idle time left in ms. (DEDUCED, assumption log 80.) -/
def Device.sessionInfo (d : Device) (who : Nat) : Device :=
  d.cmd who 0x0003 .observer fun d =>
    let x := d.session who
    (stOK, [x.role.code, x.port, x.base, x.blockSize, (x.lastValid + msTc (1000 * d.bcp.idle) - d.real) / 1966080], d)

/-- TIME_OF_DAY (R60): the TAI second of the next edge; a supply less than 100 ms before it goes to the edge after.
(DEDUCED, assumption log 80.) -/
def Device.timeOfDay (d : Device) (who tai : Nat) : Device :=
  d.cmd who 0x0020 .operator fun d =>
    let late := match d.tb.ppsAt with
      | some t => decide (t + msTc 900 < d.real) && d.tb.ppsTai.isEmpty
      | none => false
    (stOK, [], { d with tb := { d.tb with ppsTai := d.tb.ppsTai ++ (if late then [none, some tai] else [some tai]) } })

/-- TIME_STEP (R73): every admitted stream is withdrawn; the reply counts them. (DEDUCED, assumption log 80.) -/
def Device.timeStep (d : Device) (who : Nat) : Device :=
  d.cmd who 0x0021 .owner fun d =>
    let l := d.liveStreams.filter fun s => (d.stream s).st ≠ .releasing
    (stOK, [l.length], (forEach l (fun s d => d.toReleasing s) d).breach 0x14 unitPackage l)

/-- The physical tile, or the region, that a TEST names by its logical unit (R27, R440), and the codes it admits. (DEDUCED,
assumption log 61.) -/
def Device.testTarget (d : Device) (unit : Nat) : Option (Nat × List Nat) :=
  if unitLevel unit = 0 then (d.physOf (unitLtOf unit)).map fun p => (unitPt p, [1, 2, 3, 4])
  else some (unitRegion (unitRegionOf unit), [5, 6, 7, 8])

/-- TEST (R440, R443): `codes` has a bit for each test code. A request that merges with one pending counts as queued.
(DEDUCED, assumption log 61.) -/
def Device.test (d : Device) (who unit codes : Nat) : Device :=
  d.cmd who 0x0060 .maintainer fun d =>
    if unitCheck d unit ≠ stOK then (unitCheck d unit, [], d)
    else if (unitLevel unit ≠ 0 ∧ unitLevel unit ≠ 2) ∨ unitPhys unit then (stFieldRange, [], d)
    else
      let admitted := if unitLevel unit = 0 then [1, 2, 3, 4] else [5, 6, 7, 8]
      let l := admitted.filter fun c => bit codes c
      if l = [] ∨ codes ≠ maskOf l then (stFieldRange, [], d)
      else if d.flt.fenced.contains (unitDieOf unit) then (stFenced, [], d)
      else match d.testTarget unit with
        | none => (stFenced, [], d)
        | some (u, _) => (stOK, [l.length], forEach l (fun c d => d.testDue u c 0) d)

/-- RESTART (R37, R467): the reply is sent first. -/
def Device.restart (d : Device) (who : Nat) (env : BootEnv) : Device :=
  let ok := d.served who && d.hasRole who .owner && (d.modeCheck 0x0061).isNone
  let d := d.cmd who 0x0061 .owner fun d => (stOK, [], d)
  if ok then d.hubRestart env false else d

/-- NOTICE_ACK (R469): every notice at or below the number is acknowledged. -/
def Device.noticeAck (d : Device) (who nSeq : Nat) : Device :=
  d.cmd who 0x0070 .observer fun d =>
    (stOK, [], d.updSession who fun x => { x with notices := x.notices.filter fun y => nSeq < y.nSeq })

/-- A notice as a message carries it (R469). -/
def Notice.words (n : Notice) : List Nat :=
  [n.seq, n.cause + b2n n.exception * 2 ^ 8 + n.kind * 2 ^ 9 + n.named.length * 2 ^ 16, n.mer, n.unit] ++
    (n.named.map fun e => e.1 * 2 ^ 56 + e.2.1 * 2 ^ 48 + e.2.2 % 2 ^ 32) ++ n.cap

/-- NOTICE_FETCH (R467, R469): notices of the log from a first number on, lowest first. -/
def Device.noticeFetch (d : Device) (who first count : Nat) : Device :=
  d.cmd who 0x0071 .observer fun d =>
    if count < 1 ∨ 8 < count then (stFieldRange, [], d)
    else
      let l := (d.adm.notices.filter fun n => decide (first ≤ n.seq) && decide (n.seq < first + count)).reverse
      (stOK, l.flatMap fun n => n.words, d)

/-- FAULT_FETCH (R445, R467). -/
def Device.faultFetch (d : Device) (who first count : Nat) : Device :=
  d.cmd who 0x0072 .observer fun d =>
    if count < 1 ∨ 32 < count then (stFieldRange, [], d)
    else
      let l := (d.flt.log.filter fun f => decide (first ≤ f.seq) && decide (f.seq < first + count)).reverse
      (stOK, l.flatMap fun f => f.words, d)

/-! ### The request of a DATA datagram -/

/-- A request as a session executes it (R462). -/
def Device.runReq (d : Device) (who : Nat) (r : BcpReq) : Device :=
  match r with
  | .ping => d.ping who
  | .close => d.close who
  | .sessionInfo => d.sessionInfo who
  | .regRead addr count => d.regRead who addr count
  | .regWrite addr value env => d.regWrite who addr value env
  | .timeOfDay tai => d.timeOfDay who tai
  | .timeStep => d.timeStep who
  | .admitOpen stream tag length => d.admitOpen who stream tag length
  | .admitBlock stream tag offset length data => d.admitBlock who stream tag offset length data
  | .admitCommit stream tag records => d.admitCommit who stream tag records
  | .admitStatus stream => d.admitStatus who stream
  | .release stream tag => d.release who stream tag
  | .modelOpen model version length source sourceId => d.modelOpen who model version length source sourceId
  | .modelBlock model version offset length manifest data => d.modelBlock who model version offset length manifest data
  | .modelManifest model version digest keyHash signatureOk => d.modelManifest who model version digest keyHash signatureOk
  | .modelStatus model version => d.modelStatus who model version
  | .modelResume model version => d.modelResume who model version
  | .modelDiscard model version => d.modelDiscard who model version
  | .switch model => d.switchModel who model
  | .adapterRestore model adapter => d.adapterRestore who model adapter
  | .redress unit => d.redressCommand who unit
  | .fwOpen data keyHash signatureOk => d.fwOpen who data keyHash signatureOk
  | .fwBlock version build offset length data digest => d.fwBlock who version build offset length data digest
  | .fwStatus version build => d.fwStatus who version build
  | .activate option limit reservedZero => d.activateFw who option limit reservedZero
  | .attest length nonce => d.attest who length nonce
  | .anchorSet body burned => d.anchorSet who body burned
  | .keySet body => d.keySet who body
  | .debugUnlock token => d.debugUnlock who token
  | .test unit codes => d.test who unit codes
  | .restart env => d.restart who env
  | .noticeAck nSeq => d.noticeAck who nSeq
  | .noticeFetch first count => d.noticeFetch who first count
  | .faultFetch first count => d.faultFetch who first count

/-! ### The commands -/

/-- PING (R467). -/
def execPing (session : Nat) (s : State) : Host.Outcome State Fault Refusal := .next (s.upd fun d => d.ping session)

/-- CLOSE (R458). -/
def execClose (session : Nat) (s : State) : Host.Outcome State Fault Refusal := .next (s.upd fun d => d.close session)

/-- SESSION_INFO (R467). -/
def execSessionInfo (session : Nat) (s : State) : Host.Outcome State Fault Refusal :=
  .next (s.upd fun d => d.sessionInfo session)

/-- TIME_OF_DAY (R60). -/
def execTimeOfDay (session tai : Nat) (s : State) : Host.Outcome State Fault Refusal :=
  .next (s.upd fun d => d.timeOfDay session tai)

/-- TIME_STEP (R73). -/
def execTimeStep (session : Nat) (s : State) : Host.Outcome State Fault Refusal := .next (s.upd fun d => d.timeStep session)

/-- MODEL_OPEN (R472). -/
def execModelOpen (session model version length source sourceId : Nat) (s : State) : Host.Outcome State Fault Refusal :=
  .next (s.upd fun d => d.modelOpen session model version length source sourceId)

/-- MODEL_BLOCK (R389, R472). -/
def execModelBlock (session model version offset length : Nat) (manifest : Bool) (data : List Byte) (s : State) :
    Host.Outcome State Fault Refusal :=
  .next (s.upd fun d => d.modelBlock session model version offset length manifest data)

/-- MODEL_MANIFEST (R384, R472). -/
def execModelManifest (session : Nat) (object : ManifestObject) (signatureOk : Bool) (s : State) : Host.Outcome State Fault Refusal :=
  .next (s.upd fun d => d.modelManifest session object.model object.version object.digest object.keyHash signatureOk)

/-- MODEL_STATUS (R472). -/
def execModelStatus (session model version : Nat) (s : State) : Host.Outcome State Fault Refusal :=
  .next (s.upd fun d => d.modelStatus session model version)

/-- MODEL_RESUME (R392). -/
def execModelResume (session model version : Nat) (s : State) : Host.Outcome State Fault Refusal :=
  .next (s.upd fun d => d.modelResume session model version)

/-- MODEL_DISCARD (R392, R403). -/
def execModelDiscard (session model version : Nat) (s : State) : Host.Outcome State Fault Refusal :=
  .next (s.upd fun d => d.modelDiscard session model version)

/-- SWITCH (R397 to R399). -/
def execSwitch (session model : Nat) (s : State) : Host.Outcome State Fault Refusal :=
  .next (s.upd fun d => d.switchModel session model)

/-- ADAPTER_RESTORE (R220). -/
def execAdapterRestore (session model adapter : Nat) (s : State) : Host.Outcome State Fault Refusal :=
  .next (s.upd fun d => d.adapterRestore session model adapter)

/-- REDRESS (R152). -/
def execRedress (session unit : Nat) (s : State) : Host.Outcome State Fault Refusal :=
  .next (s.upd fun d => d.redressCommand session unit)

/-- FW_OPEN (R532). -/
def execFwOpen (session : Nat) (data : List Byte) (stamp : FwStamp) (s : State) : Host.Outcome State Fault Refusal :=
  .next (s.upd fun d => d.fwOpen session data stamp.keyHash stamp.signatureOk)

/-- FW_BLOCK (R534). -/
def execFwBlock (session version build offset length : Nat) (data : List Byte) (digest : Nat) (s : State) :
    Host.Outcome State Fault Refusal :=
  .next (s.upd fun d => d.fwBlock session version build offset length data digest)

/-- FW_STATUS (R536). -/
def execFwStatus (session version build : Nat) (s : State) : Host.Outcome State Fault Refusal :=
  .next (s.upd fun d => d.fwStatus session version build)

/-- ACTIVATE (R540). -/
def execActivate (session option limit : Nat) (reservedZero : Bool) (s : State) : Host.Outcome State Fault Refusal :=
  .next (s.upd fun d => d.activateFw session option limit reservedZero)

/-- ATTEST (R519). -/
def execAttest (session length nonce : Nat) (s : State) : Host.Outcome State Fault Refusal :=
  .next (s.upd fun d => d.attest session length nonce)

/-- ANCHOR_SET (R513). -/
def execAnchorSet (session : Nat) (body : AnchorBody) (burned : Nat) (s : State) : Host.Outcome State Fault Refusal :=
  .next (s.upd fun d => d.anchorSet session body burned)

/-- KEY_SET (R520). -/
def execKeySet (session : Nat) (body : KeyBody) (s : State) : Host.Outcome State Fault Refusal :=
  .next (s.upd fun d => d.keySet session body)

/-- DEBUG_UNLOCK (R543). -/
def execDebugUnlock (session : Nat) (token : DebugToken) (s : State) : Host.Outcome State Fault Refusal :=
  .next (s.upd fun d => d.debugUnlock session token)

/-- TEST (R443). -/
def execTest (session unit codes : Nat) (s : State) : Host.Outcome State Fault Refusal :=
  .next (s.upd fun d => d.test session unit codes)

/-- RESTART (R37). -/
def execRestart (session : Nat) (env : BootEnv) (s : State) : Host.Outcome State Fault Refusal :=
  .next (s.upd fun d => d.restart session env)

/-- NOTICE_ACK (R469). -/
def execNoticeAck (session nSeq : Nat) (s : State) : Host.Outcome State Fault Refusal :=
  .next (s.upd fun d => d.noticeAck session nSeq)

/-- NOTICE_FETCH (R467). -/
def execNoticeFetch (session first count : Nat) (s : State) : Host.Outcome State Fault Refusal :=
  .next (s.upd fun d => d.noticeFetch session first count)

/-- FAULT_FETCH (R467). -/
def execFaultFetch (session first count : Nat) (s : State) : Host.Outcome State Fault Refusal :=
  .next (s.upd fun d => d.faultFetch session first count)

end Sys2Proof.Machine
end

