-- ==== Sys2Proof/Machine/Session.lean ====
section
/-! DEFINITION. The sessions of the Berif Control Protocol (R451 to R465): handshakes, datagrams, the request window, the reply
cache, and the timers of sessions and conversations. -/
namespace Sys2Proof.Machine

abbrev stBadFrame : Nat := 0x0101
abbrev stBadSequence : Nat := 0x0102
abbrev stSessionUnknown : Nat := 0x0103

def Device.updBcp (d : Device) (f : Bcp → Bcp) : Device := { d with bcp := f d.bcp }

/-- BCP answers on a port (R451, R474, R522, R539, R549): enabled, the link up, the hub running. -/
def Device.bcpOn (d : Device) (port : Nat) : Bool :=
  decide (port < 2) && bit d.bcp.ctrl port && d.pabUp port && !d.pins.hubHalted && decide (d.sec.mode ≠ .error) &&
    decide (d.start.st ≠ .reset) && decide (d.start.st ≠ .booting)

/-- A REJECT in clear, at most 10 a second to one source (R453). -/
def Device.reject (d : Device) (port peer status : Nat) : Device :=
  let recent := d.bcp.rejectTimes.filter fun e => decide (d.real < e.2 + msTc 1000)
  if 10 ≤ (recent.filter fun e => e.1 = peer).length then d.updBcp fun b => { b with rejectTimes := recent }
  else (d.updBcp fun b => { b with rejectTimes := (peer, d.real) :: recent, rejectCount := satInc b.rejectCount }).emit
    (.handshake port peer 4 status)

/-- A handshake is refused (R456): no state is kept for it. -/
def Device.refuseHandshake (d : Device) (port peer status : Nat) : Device :=
  (d.updBcp fun b => { b with hsFailF := true, hsFailCount := satInc b.hsFailCount }).reject port peer status

/-- TAI is known, so that validity periods are checked (R456). -/
def Device.taiKnown (d : Device) : Bool :=
  decide (d.tb.st = .locked) || decide (d.tb.st = .holdover) || decide (d.tb.st = .unreferenced)

/-- The anchor slot in force that holds a root's hash (R456, R511). -/
def Device.anchorOf (d : Device) (hash : Nat) : Option Nat :=
  (List.range 4).find? fun i => (d.sec.anchor i).inForce && decide ((d.sec.anchor i).hash = hash)

/-- The form of a HELLO (R454): version 1, MAX_PAYLOAD from 1,024 to 8,960. (DEDUCED, assumption log 81.) -/
def helloForm (m : HelloMsg) : Bool :=
  m.formatOk && decide (m.version = 1) && decide (1024 ≤ m.payload) && decide (m.payload ≤ 8960)

/-- Steps 3 and 4 of R456 with the rules of CLAIM and recovery mode (R512, R539): the anchor slot and the role. -/
def Device.authorise (d : Device) (m : HelloMsg) : Option (Nat × Role) :=
  if !m.chainOk || (d.taiKnown && !m.inPeriod) then none
  else if d.claimMode then (if m.selfSignedRoot && d.openSessions.isEmpty then some (0, .owner) else none)
  else match d.anchorOf m.rootHash with
    | none => none
    | some i =>
      if m.role.code < (d.sec.anchor i).ceiling then none
      else if m.port = 1 ∧ (m.role = .owner ∨ m.role = .operator) then none
      else if d.sec.mode = .recovery ∧ m.role ≠ .owner then none
      else some (i, m.role)

/-- A HELLO with TAKEOVER closes the sessions of the same leaf key with reason SUPERSEDED (R458). (DEDUCED, assumption log
81.) -/
def Device.takeOver (d : Device) (m : HelloMsg) : Device :=
  let l := if m.takeover then d.openSessions.filter fun n => (d.session n).key = m.leafKey else []
  let d := forEach l (fun n d => d.closeSession n 2) d
  if l = [] then d else d.updBcp fun b => { b with supersededF := true }

/-- HELLO (R454, R456 to R458, R512, R522, R523). (DEDUCED, assumption log 81.) -/
def Device.hello (d : Device) (m : HelloMsg) : Device :=
  if !d.bcpOn m.port then d
  else if d.sec.drbgStopped then d.refuseHandshake m.port m.peer stInternal
  else if !helloForm m then d.refuseHandshake m.port m.peer stBadFrame
  else if d.bcp.handshakes.any fun h => h.nonce = m.nonce && h.port = m.port && h.peer = m.peer then
    d.emit (.handshake m.port m.peer 1 stOK)
  else if 4 ≤ d.bcp.handshakes.length then d.refuseHandshake m.port m.peer stBusy
  else match d.authorise m with
    | none => d.refuseHandshake m.port m.peer stNotAuthorised
    | some (anchor, role) =>
      let d := d.takeOver m
      if 8 ≤ d.openSessions.length then d.refuseHandshake m.port m.peer stNoCapacity
      else if !m.ephemeralOk then d.enterError
      else
        let limit := if m.port = 0 then d.bcp.payloadA else d.bcp.payloadB
        let h : Handshake :=
          { port := m.port, peer := m.peer, nonce := m.nonce, key := m.leafKey, root := m.rootHash, anchor := anchor,
            role := role, id := m.sessionId, payload := min m.payload limit, noTime := !d.taiKnown, since := d.real }
        (d.updBcp fun b => { b with handshakes := b.handshakes ++ [h] }).emit (.handshake m.port m.peer 1 stOK)

/-- HELLO (R454). -/
def execHello (m : HelloMsg) (s : State) : Host.Outcome State Fault Refusal := .next (s.upd fun d => d.hello m)

/-- The session that a SESSION_ID names. -/
def Device.sessionOf (d : Device) (id : Nat) : Option Nat := d.openSessions.find? fun n => (d.session n).id = id

/-- SESSION_OPEN (R457, R464): the negotiated payload and the block size. -/
def Device.sessionOpen (d : Device) (n : Nat) : Device :=
  d.emit (.reply n 0 stOK [(d.session n).payload, (d.session n).blockSize])

/-- A valid FINISH opens the session in the lowest free entry (R457, R458, R464). -/
def Device.openSession (d : Device) (h : Handshake) (n : Nat) : Device :=
  let x : Session :=
    { Session.reset with
      inUse := true, role := h.role, port := h.port, id := h.id, base := 1, key := h.key, root := h.root, anchor := h.anchor,
      payload := h.payload, blockSize := (h.payload - 64) / 64 * 64, lastValid := d.real }
  let d := d.updBcp fun b =>
    { b with handshakes := b.handshakes.filter fun y => y.id ≠ h.id,
             notimeSessions := if h.noTime then satInc b.notimeSessions else b.notimeSessions }
  (d.updSession n fun _ => x).sessionOpen n

/-- FINISH (R453, R454, R456, R457, R545). (DEDUCED, assumption log 82.) -/
def Device.finish (d : Device) (port peer id : Nat) (formatOk signatureOk : Bool) : Device :=
  if !d.bcpOn port then d
  else match d.bcp.handshakes.find? fun h => h.id = id with
    | none =>
      match d.sessionOf id with
      | some n => if formatOk && signatureOk then d.sessionOpen n else d
      | none => d.reject port peer stSessionUnknown
    | some h =>
      let drop (d : Device) : Device := d.updBcp fun b => { b with handshakes := b.handshakes.filter fun y => y.id ≠ id }
      if !formatOk then (drop d).refuseHandshake port peer stBadFrame
      else if !signatureOk || (!d.claimMode && !(d.sec.anchor h.anchor).inForce) then
        (drop d).refuseHandshake port peer stNotAuthorised
      else match (List.range 8).find? fun n => !(d.session n).inUse with
        | none => (drop d).refuseHandshake port peer stNoCapacity
        | some n => d.openSession h n

/-- FINISH (R454). -/
def execFinish (port peer id : Nat) (formatOk signatureOk : Bool) (s : State) : Host.Outcome State Fault Refusal :=
  .next (s.upd fun d => d.finish port peer id formatOk signatureOk)

/-- HANDSHAKE_TIMEOUT (R457): one not finished 2 s after its first HELLO is abandoned. -/
def execHandshakeTimeout (id : Nat) (s : State) : Host.Outcome State Fault Refusal :=
  .next (s.upd fun d => d.updBcp fun b => { b with handshakes := b.handshakes.filter fun h => !(h.id = id && d.ranOut h.since (msTc 2000)) })

/-! ### Datagrams and the request window (R453, R459 to R462) -/

/-- RECORD numbers a session keeps for the replay test (R453). -/
def recWindow : Nat := 1024

/-- A RECORD has been received, or lies more than 1,024 below the highest (R453). -/
def Session.stale (x : Session) (record : Nat) : Bool :=
  x.recSeen.contains record || decide (record + recWindow + 1 < x.recHigh)

/-- A RECORD is taken. -/
def Session.took (x : Session) (record now : Nat) : Session :=
  let high := max x.recHigh (record + 1)
  { x with recHigh := high, lastValid := now,
           recSeen := record :: x.recSeen.filter fun k => decide (high ≤ k + recWindow + 1) }

/-- 0x0102 BAD_SEQUENCE: not cached, and BASE stays (R460). (DEDUCED, assumption log 82.) -/
def Device.badSequence (d : Device) (n : Nat) : Device :=
  (d.updBcp fun b => { b with badSeqCount := satInc b.badSeqCount }).emit (.reply n 0 stBadSequence [])

/-- A session executes one message (R459, R460, R462): its reply, at once or later, moves BASE past the SEQ. -/
def Device.runMsg (d : Device) (n seq fp : Nat) (msg : BcpMsg) : Device :=
  let d := d.updSession n fun x => { x with busy := some (seq, fp) }
  match msg with
  | .request r => d.runReq n r
  | _ => d.reply n 0 stBadFrame []

/-- A session whose RECORD reaches 2^47 in either direction closes with reason EXHAUSTED (R455). -/
def Device.exhaust (d : Device) (n : Nat) : Device :=
  if 2 ^ 47 < (d.session n).recHigh ∨ 2 ^ 47 < (d.session n).txRecord then d.closeSession n 4 else d

/-- A request by its distance from BASE (R460, R461). -/
def Device.takeRequest (d : Device) (n seq fp : Nat) (msg : BcpMsg) : Device :=
  let x := d.session n
  let dist := (seq % 2 ^ 32 + 2 ^ 32 - x.base) % 2 ^ 32
  if dist = 0 then
    match x.busy with
    | none => d.runMsg n (seq % 2 ^ 32) fp msg
    | some (_, f) => if f = fp then d else d.badSequence n
  else if dist < 64 then
    match d.held.find? fun h => h.session = n && h.seq = seq % 2 ^ 32 with
    | some h => if h.fingerprint = fp then d else d.badSequence n
    | none => { d with held := d.held ++ [{ session := n, seq := seq % 2 ^ 32, fingerprint := fp, msg := msg }] }
  else if 2 ^ 32 - 256 ≤ dist then
    match x.cache.find? fun c => c.seq = seq % 2 ^ 32 with
    | some c => if c.fingerprint = fp then d.emit (.reply n c.cmd c.status c.words) else d.badSequence n
    | none => d.badSequence n
  else d.badSequence n

/-- DATA_DATAGRAM (R453, R459 to R461). (DESIGN CHOICE, assumption log 93.) -/
def Device.dataDatagram (d : Device) (port peer id record seq fp : Nat) (outerOk tagOk : Bool) (msg : BcpMsg) : Device :=
  let discard (d : Device) : Device := d.updBcp fun b => { b with discards := b.discards + 1 }
  if !d.bcpOn port then d
  else if !outerOk then discard d
  else match d.sessionOf id with
    | none => d.reject port peer stSessionUnknown
    | some n =>
      if !tagOk then d.updBcp fun b => { b with tagFailF := true, tagFailCount := satInc b.tagFailCount }
      else if (d.session n).stale record then d.updBcp fun b => { b with replayDropCount := satInc b.replayDropCount }
      else
        let d := d.updSession n fun x => x.took record d.real
        if 2 ^ 47 ≤ record then d.closeSession n 4
        else match msg with
          | .short => discard d
          | m => (d.takeRequest n seq fp m).exhaust n

/-- DATA_DATAGRAM (R453). -/
def execDataDatagram (port peer id record seq fingerprint : Nat) (outerOk tagOk : Bool) (msg : BcpMsg) (s : State) :
    Host.Outcome State Fault Refusal :=
  .next (s.upd fun d => d.dataDatagram port peer id record seq fingerprint outerOk tagOk msg)

/-- HELD_REQUEST_EXECUTE (R460): the held request at BASE. -/
def Device.heldExecute (d : Device) (n : Nat) : Device :=
  let x := d.session n
  if !d.served n || x.busy.isSome then d
  else match d.held.find? fun h => h.session = n && h.seq = x.base with
    | none => d
    | some h =>
      ({ d with held := d.held.filter fun y => !(y.session = n && y.seq = h.seq) }.runMsg n h.seq h.fingerprint h.msg).exhaust n

/-- HELD_REQUEST_EXECUTE (R460). -/
def execHeldRequestExecute (session : Nat) (s : State) : Host.Outcome State Fault Refusal :=
  .next (s.upd fun d => d.heldExecute session)

/-! ### Timers (R458, R470, R471) -/

/-- BCP_IDLE_EXPIRY (R458): no valid DATA datagram came for BCP_IDLE. -/
def execBcpIdleExpiry (session : Nat) (s : State) : Host.Outcome State Fault Refusal :=
  .next (s.upd fun d =>
    if d.served session && d.ranOut (d.session session).lastValid (msTc (1000 * d.bcp.idle)) then d.closeSession session 1 else d)

/-- CONVERSATION_HOLD_EXPIRY (R470, R471, R533). `kind` 0: the claim of stream `index`, OPEN or REFUSED; 1: manifest buffer
`index`; 2: the firmware conversation in RECEIVING. One that took no request for BCP_HOLD is discarded. -/
def Device.holdExpiry (d : Device) (kind index : Nat) : Device :=
  let aged (t : Nat) : Bool := d.ranOut t (msTc (1000 * d.bcp.hold))
  if kind = 0 then
    { d with adm := { d.adm with convs := d.adm.convs.filter fun c =>
        !(decide (c.stream = index) && (decide (c.st = .opened) || decide (c.st = .refused)) && aged c.touchedAt) } }
  else if kind = 1 ∧ (d.mm.buffers[index]?).any (fun b => aged b.touchedAt) then { d with mm := { d.mm with buffers := d.mm.buffers.eraseIdx index } }
  else if kind = 2 ∧ d.sec.fw.st = .receiving ∧ aged d.sec.fw.touchedAt then d.updSec fun s => { s with fw := .reset }
  else d

/-- CONVERSATION_HOLD_EXPIRY (R470). -/
def execConversationHoldExpiry (kind index : Nat) (s : State) : Host.Outcome State Fault Refusal :=
  .next (s.upd fun d => d.holdExpiry kind index)

end Sys2Proof.Machine
end

