-- ==== Sys2Proof/Machine/Dispatch.lean ====
section
/-! DEFINITION. What each command does: one arm for each constructor of `Instr`, a direct call of its meaning. -/
namespace Sys2Proof.Machine

/-- The effect of a command on everything but the queue. -/
def exec (i : Instr) (s : State) : Host.Outcome State Fault Refusal :=
  match i with
  | .packageReset env released => Sys2Proof.Machine.execPackageReset env released s
  | .hubWatchdogExpiry env => Sys2Proof.Machine.execHubWatchdogExpiry env s
  | .dieEnumeration answers corrected bad => Sys2Proof.Machine.execDieEnumeration answers corrected bad s
  | .linkQualification link failures => Sys2Proof.Machine.execLinkQualification link failures s
  | .microcodeBroadcast failed => Sys2Proof.Machine.execMicrocodeBroadcast failed s
  | .hbmTraining ok0 ok1 => Sys2Proof.Machine.execHbmTraining ok0 ok1 s
  | .lockWaitExpiry => Sys2Proof.Machine.execLockWaitExpiry s
  | .startupSightingScan results => Sys2Proof.Machine.execStartupSightingScan results s
  | .ready burned => Sys2Proof.Machine.execReady burned s
  | .regionReset r => Sys2Proof.Machine.execRegionReset r s
  | .regionResetForcedStop r => Sys2Proof.Machine.execRegionResetForcedStop r s
  | .tileCtrlReset who pt => Sys2Proof.Machine.execTileCtrlReset who pt s
  | .forwardedClockLoss die => Sys2Proof.Machine.execForwardedClockLoss die s
  | .railFault => Sys2Proof.Machine.execRailFault s
  | .refclkLoss => Sys2Proof.Machine.execRefclkLoss s
  | .thermalTrip diode => Sys2Proof.Machine.execThermalTrip diode s
  | .hubHaltAfterTrip => Sys2Proof.Machine.execHubHaltAfterTrip s
  | .vppPcmDrop => Sys2Proof.Machine.execVppPcmDrop s
  | .vppPcmRecover => Sys2Proof.Machine.execVppPcmRecover s
  | .meridianLoRead who => Sys2Proof.Machine.execMeridianLoRead who s
  | .frameOffsetHiWrite who value => Sys2Proof.Machine.execFrameOffsetHiWrite who value s
  | .frameOffsetStep => Sys2Proof.Machine.execFrameOffsetStep s
  | .tbCtrlModeWrite who value => Sys2Proof.Machine.execTbCtrlModeWrite who value s
  | .refPrioWrite who value => Sys2Proof.Machine.execRefPrioWrite who value s
  | .ptpSyncExchange quad time rate => Sys2Proof.Machine.execPtpSyncExchange quad time rate s
  | .ptpAnnounce quad msg => Sys2Proof.Machine.execPtpAnnounce quad msg s
  | .announceReceiptTimeout quad => Sys2Proof.Machine.execAnnounceReceiptTimeout quad s
  | .syncExchangeTimeout quad => Sys2Proof.Machine.execSyncExchangeTimeout quad s
  | .ppsEdge ahead rising => Sys2Proof.Machine.execPpsEdge ahead rising s
  | .ppsEdgeMissing => Sys2Proof.Machine.execPpsEdgeMissing s
  | .holdoverExpiry => Sys2Proof.Machine.execHoldoverExpiry s
  | .replicaTimestamp die difference => Sys2Proof.Machine.execReplicaTimestamp die difference s
  | .applyStrobe pt shadowReady => Sys2Proof.Machine.execApplyStrobe pt shadowReady s
  | .mvmOutputComplete pt no errs badTrims => Sys2Proof.Machine.execMvmOutputComplete pt no errs badTrims s
  | .checkVerdict pt no => Sys2Proof.Machine.execCheckVerdict pt no s
  | .rowTrip pt rows => Sys2Proof.Machine.execRowTrip pt rows s
  | .toneCtrlStart who pt => Sys2Proof.Machine.execToneCtrlStart who pt s
  | .toneCtrlStop who pt => Sys2Proof.Machine.execToneCtrlStop who pt s
  | .toneStrobe pt errs => Sys2Proof.Machine.execToneStrobe pt errs s
  | .toneRunEnd pt => Sys2Proof.Machine.execToneRunEnd pt s
  | .histSelClear who pt => Sys2Proof.Machine.execHistSelClear who pt s
  | .dressingStart pt => Sys2Proof.Machine.execDressingStart pt s
  | .dressRow pt reads => Sys2Proof.Machine.execDressRow pt reads s
  | .dressingComplete pt => Sys2Proof.Machine.execDressingComplete pt s
  | .dressAllowWrite who r value => Sys2Proof.Machine.execDressAllowWrite who r value s
  | .sightTimerTrigger pt => Sys2Proof.Machine.execSightTimerTrigger pt s
  | .sightApplyTrigger pt => Sys2Proof.Machine.execSightApplyTrigger pt s
  | .sightingInterval pt => Sys2Proof.Machine.execSightingInterval pt s
  | .sightingRead pt errs => Sys2Proof.Machine.execSightingRead pt errs s
  | .sightCtrlWrite who pt value => Sys2Proof.Machine.execSightCtrlWrite who pt value s
  | .sightPeriodWrite who pt value => Sys2Proof.Machine.execSightPeriodWrite who pt value s
  | .sightDelayWrite who pt value => Sys2Proof.Machine.execSightDelayWrite who pt value s
  | .trimEntryLowWrite who die index value => Sys2Proof.Machine.execTrimEntryLowWrite who die index value s
  | .trimEntryHighWrite who die index value => Sys2Proof.Machine.execTrimEntryHighWrite who die index value s
  | .kappaWrite who pt value => Sys2Proof.Machine.execKappaWrite who pt value s
  | .redressStart lt => Sys2Proof.Machine.execRedressStart lt s
  | .tileMapSwitch lt => Sys2Proof.Machine.execTileMapSwitch lt s
  | .activationStart r slot entry start => Sys2Proof.Machine.execActivationStart r slot entry start s
  | .escBalRefill stream => Sys2Proof.Machine.execEscBalRefill stream s
  | .stallOverrun r => Sys2Proof.Machine.execStallOverrun r s
  | .lateTrap r code slotClass info faultPc => Sys2Proof.Machine.execLateTrap r code slotClass info faultPc s
  | .trapTimeoutExpiry r => Sys2Proof.Machine.execTrapTimeoutExpiry r s
  | .seqCtrlHalt who r => Sys2Proof.Machine.execSeqCtrlHalt who r s
  | .seqCtrlResume who r => Sys2Proof.Machine.execSeqCtrlResume who r s
  | .seqCtrlAbort who r => Sys2Proof.Machine.execSeqCtrlAbort who r s
  | .seqCtrlQuarantine who r => Sys2Proof.Machine.execSeqCtrlQuarantine who r s
  | .seqCtrlRelease who r => Sys2Proof.Machine.execSeqCtrlRelease who r s
  | .yieldGap r => Sys2Proof.Machine.execYieldGap r s
  | .testDue unit code part => Sys2Proof.Machine.execTestDue unit code part s
  | .testStart r code => Sys2Proof.Machine.execTestStart r code s
  | .testEnd r pass detail => Sys2Proof.Machine.execTestEnd r pass detail s
  | .yieldOfferExpiry r => Sys2Proof.Machine.execYieldOfferExpiry r s
  | .testOverdue r index => Sys2Proof.Machine.execTestOverdue r index s
  | .remoteWriteArrival r offset data => Sys2Proof.Machine.execRemoteWriteArrival r offset data s
  | .transferComplete r id found => Sys2Proof.Machine.execTransferComplete r id found s
  | .nop r g last cls ecc => Sys2Proof.Machine.execNop r g last cls ecc s
  | .br r g last target => Sys2Proof.Machine.execBr r g last target s
  | .brc r g last rs cond off => Sys2Proof.Machine.execBrc r g last rs cond off s
  | .call r g last target => Sys2Proof.Machine.execCall r g last target s
  | .ret r g last => Sys2Proof.Machine.execRet r g last s
  | .loopI r g last count => Sys2Proof.Machine.execLoopI r g last count s
  | .loopR r g last rs => Sys2Proof.Machine.execLoopR r g last rs s
  | .loopE r g last => Sys2Proof.Machine.execLoopE r g last s
  | .waitm r g last rs => Sys2Proof.Machine.execWaitm r g last rs s
  | .waitmRelease r => Sys2Proof.Machine.execWaitmRelease r s
  | .waitb r g last => Sys2Proof.Machine.execWaitb r g last s
  | .waitbRelease r => Sys2Proof.Machine.execWaitbRelease r s
  | .yieldTest r g last offer => Sys2Proof.Machine.execYieldTest r g last offer s
  | .seal r g last => Sys2Proof.Machine.execSeal r g last s
  | .halt r g last => Sys2Proof.Machine.execHalt r g last s
  | .trap r g last code => Sys2Proof.Machine.execTrap r g last code s
  | .aluAdd r g last rd rs => Sys2Proof.Machine.execAluAdd r g last rd rs s
  | .aluSub r g last rd rs => Sys2Proof.Machine.execAluSub r g last rd rs s
  | .aluAnd r g last rd rs => Sys2Proof.Machine.execAluAnd r g last rd rs s
  | .aluOr r g last rd rs => Sys2Proof.Machine.execAluOr r g last rd rs s
  | .aluXor r g last rd rs => Sys2Proof.Machine.execAluXor r g last rd rs s
  | .aluShl r g last rd rs => Sys2Proof.Machine.execAluShl r g last rd rs s
  | .aluShr r g last rd rs => Sys2Proof.Machine.execAluShr r g last rd rs s
  | .aluSar r g last rd rs => Sys2Proof.Machine.execAluSar r g last rd rs s
  | .aluMul r g last rd rs => Sys2Proof.Machine.execAluMul r g last rd rs s
  | .aluMin r g last rd rs => Sys2Proof.Machine.execAluMin r g last rd rs s
  | .aluMax r g last rd rs => Sys2Proof.Machine.execAluMax r g last rd rs s
  | .aluMinu r g last rd rs => Sys2Proof.Machine.execAluMinu r g last rd rs s
  | .aluMaxu r g last rd rs => Sys2Proof.Machine.execAluMaxu r g last rd rs s
  | .aluMeradd r g last rd rs => Sys2Proof.Machine.execAluMeradd r g last rd rs s
  | .aluFadd r g last rd rs => Sys2Proof.Machine.execAluFadd r g last rd rs s
  | .aluFmul r g last rd rs => Sys2Proof.Machine.execAluFmul r g last rd rs s
  | .addi r g last rd imm => Sys2Proof.Machine.execAddi r g last rd imm s
  | .movi r g last rd imm => Sys2Proof.Machine.execMovi r g last rd imm s
  | .shli r g last rd sh => Sys2Proof.Machine.execShli r g last rd sh s
  | .shri r g last rd sh => Sys2Proof.Machine.execShri r g last rd sh s
  | .sari r g last rd sh => Sys2Proof.Machine.execSari r g last rd sh s
  | .cmpEq r g last pd rs rt => Sys2Proof.Machine.execCmpEq r g last pd rs rt s
  | .cmpNe r g last pd rs rt => Sys2Proof.Machine.execCmpNe r g last pd rs rt s
  | .cmpLt r g last pd rs rt => Sys2Proof.Machine.execCmpLt r g last pd rs rt s
  | .cmpLe r g last pd rs rt => Sys2Proof.Machine.execCmpLe r g last pd rs rt s
  | .cmpLtu r g last pd rs rt => Sys2Proof.Machine.execCmpLtu r g last pd rs rt s
  | .cmpLeu r g last pd rs rt => Sys2Proof.Machine.execCmpLeu r g last pd rs rt s
  | .limm r last sd h sx imm => Sys2Proof.Machine.execLimm r last sd h sx imm s
  | .movS r g last sd ss => Sys2Proof.Machine.execMovS r g last sd ss s
  | .movSa r g last ad ss => Sys2Proof.Machine.execMovSa r g last ad ss s
  | .movAs r g last sd as_ => Sys2Proof.Machine.execMovAs r g last sd as_ s
  | .movAi r g last ad imm => Sys2Proof.Machine.execMovAi r g last ad imm s
  | .movAa r g last ad ss => Sys2Proof.Machine.execMovAa r g last ad ss s
  | .movTa r g last tn as_ => Sys2Proof.Machine.execMovTa r g last tn as_ s
  | .movTs r g last tn fld ss => Sys2Proof.Machine.execMovTs r g last tn fld ss s
  | .movSt r g last sd tn fld => Sys2Proof.Machine.execMovSt r g last sd tn fld s
  | .movPs r g last ss => Sys2Proof.Machine.execMovPs r g last ss s
  | .movSp r g last sd => Sys2Proof.Machine.execMovSp r g last sd s
  | .movQs r g last qn h ss => Sys2Proof.Machine.execMovQs r g last qn h ss s
  | .movSq r g last sd qn h => Sys2Proof.Machine.execMovSq r g last sd qn h s
  | .movL r g last sd as_ off ecc => Sys2Proof.Machine.execMovL r g last sd as_ off ecc s
  | .movW r g last ss as_ off => Sys2Proof.Machine.execMovW r g last ss as_ off s
  | .movSm r g last sd beat => Sys2Proof.Machine.execMovSm r g last sd beat s
  | .xferD r g last td ts => Sys2Proof.Machine.execXferD r g last td ts s
  | .xferB r g last ad as_ sl => Sys2Proof.Machine.execXferB r g last ad as_ sl s
  | .ctxGet r g last sk ad => Sys2Proof.Machine.execCtxGet r g last sk ad s
  | .ctxPut r g last sk as_ del ecc => Sys2Proof.Machine.execCtxPut r g last sk as_ del ecc s
  | .send r g last ts ch ecc => Sys2Proof.Machine.execSend r g last ts ch ecc s
  | .egress r g last ts sm ecc => Sys2Proof.Machine.execEgress r g last ts sm ecc s
  | .tileMvm r g last rc ts td pm ecc => Sys2Proof.Machine.execTileMvm r g last rc ts td pm ecc s
  | .tileLoad r g last rc ts rm ecc => Sys2Proof.Machine.execTileLoad r g last rc ts rm ecc s
  | .tileRead r g last rc td pm => Sys2Proof.Machine.execTileRead r g last rc td pm s
  | .tileChk r g last rc pd sd => Sys2Proof.Machine.execTileChk r g last rc pd sd s
  | .tileSight r g last rc => Sys2Proof.Machine.execTileSight r g last rc s
  | .vmm r g last ta tb td ecc => Sys2Proof.Machine.execVmm r g last ta tb td ecc s
  | .vmmE r g last ta tb td rc ecc => Sys2Proof.Machine.execVmmE r g last ta tb td rc ecc s
  | .vadd r g last ta tb td bc sub ecc => Sys2Proof.Machine.execVadd r g last ta tb td bc sub ecc s
  | .vmul r g last ta tb td bc ecc => Sys2Proof.Machine.execVmul r g last ta tb td bc ecc s
  | .vact r g last ts td tbl fn rs ecc => Sys2Proof.Machine.execVact r g last ts td tbl fn rs ecc s
  | .vsmax r g last ts td ecc => Sys2Proof.Machine.execVsmax r g last ts td ecc s
  | .vnormL r g last ts td tg re ecc => Sys2Proof.Machine.execVnormL r g last ts td tg re ecc s
  | .vnormR r g last ts td tg re ecc => Sys2Proof.Machine.execVnormR r g last ts td tg re ecc s
  | .vadapt r g last tw tg tm adaptive rh ecc => Sys2Proof.Machine.execVadapt r g last tw tg tm adaptive rh ecc s
  | .qscan r g last ts td ecc => Sys2Proof.Machine.execQscan r g last ts td ecc s
  | .qconv r g last ts td pm ecc => Sys2Proof.Machine.execQconv r g last ts td pm ecc s
  | .dq r g last ts td rc ecc => Sys2Proof.Machine.execDq r g last ts td rc ecc s
  | .statTagWrite who r slot value => Sys2Proof.Machine.execStatTagWrite who r slot value s
  | .statLoRead who r slot pair => Sys2Proof.Machine.execStatLoRead who r slot pair s
  | .busyCyclesLoRead who r => Sys2Proof.Machine.execBusyCyclesLoRead who r s
  | .trapMerLoRead who r => Sys2Proof.Machine.execTrapMerLoRead who r s
  | .reportSeqLoRead who => Sys2Proof.Machine.execReportSeqLoRead who s
  | .egressGroupTimeout r stream => Sys2Proof.Machine.execEgressGroupTimeout r stream s
  | .egressDataArrival r => Sys2Proof.Machine.execEgressDataArrival r s
  | .resultVerdict stream seq => Sys2Proof.Machine.execResultVerdict stream seq s
  | .egressInstant stream slot instant => Sys2Proof.Machine.execEgressInstant stream slot instant s
  | .sealFrame stream group => Sys2Proof.Machine.execSealFrame stream group s
  | .claimEvaluation => Sys2Proof.Machine.execClaimEvaluation s
  | .almanacBankExchange => Sys2Proof.Machine.execAlmanacBankExchange s
  | .streamFree stream => Sys2Proof.Machine.execStreamFree stream s
  | .pkgLimitWrite who value => Sys2Proof.Machine.execPkgLimitWrite who value s
  | .regionDarkWrite who r word value => Sys2Proof.Machine.execRegionDarkWrite who r word value s
  | .darkSlotStart unit => Sys2Proof.Machine.execDarkSlotStart unit s
  | .darkSlotEnd unit => Sys2Proof.Machine.execDarkSlotEnd unit s
  | .fabricSlotBoundary r => Sys2Proof.Machine.execFabricSlotBoundary r s
  | .noticeResend session => Sys2Proof.Machine.execNoticeResend session s
  | .linkFrameReceive link far crcOk late => Sys2Proof.Machine.execLinkFrameReceive link far crcOk late s
  | .retrainComplete link failures => Sys2Proof.Machine.execRetrainComplete link failures s
  | .linkCtrlRetrain who link far => Sys2Proof.Machine.execLinkCtrlRetrain who link far s
  | .linkCtrlUnfence who link far => Sys2Proof.Machine.execLinkCtrlUnfence who link far s
  | .bePacketTimeout unit packet => Sys2Proof.Machine.execBePacketTimeout unit packet s
  | .routerCtrlReset who r => Sys2Proof.Machine.execRouterCtrlReset who r s
  | .routerSlotMove r instant => Sys2Proof.Machine.execRouterSlotMove r instant s
  | .routerDrainEnd r flits => Sys2Proof.Machine.execRouterDrainEnd r flits s
  | .routerLinksTrained r => Sys2Proof.Machine.execRouterLinksTrained r s
  | .routerRejoin r => Sys2Proof.Machine.execRouterRejoin r s
  | .shardComplete slot area shard digest => Sys2Proof.Machine.execShardComplete slot area shard digest s
  | .shardTimeoutExpiry slot area shard => Sys2Proof.Machine.execShardTimeoutExpiry slot area shard s
  | .idleLimitExpiry slot area => Sys2Proof.Machine.execIdleLimitExpiry slot area s
  | .shardReqFrame port mac model version shard icvOk => Sys2Proof.Machine.execShardReqFrame port mac model version shard icvOk s
  | .shardDataFrame port mac model version shard offset icvOk data => Sys2Proof.Machine.execShardDataFrame port mac model version shard offset icvOk data s
  | .epochTileDress slot area dressing => Sys2Proof.Machine.execEpochTileDress slot area dressing s
  | .switchInstant slot r => Sys2Proof.Machine.execSwitchInstant slot r s
  | .shardRehash slot area shard digest => Sys2Proof.Machine.execShardRehash slot area shard digest s
  | .tileAudit pt deviations => Sys2Proof.Machine.execTileAudit pt deviations s
  | .fenceCtrlFence who die => Sys2Proof.Machine.execFenceCtrlFence who die s
  | .fenceCtrlUnfence who die linkOk microcodeOk scans testsOk => Sys2Proof.Machine.execFenceCtrlUnfence who die linkOk microcodeOk scans testsOk s
  | .dmWatchdogMiss die => Sys2Proof.Machine.execDmWatchdogMiss die s
  | .regionReplacement stream target admitOk => Sys2Proof.Machine.execRegionReplacement stream target admitOk s
  | .remapLimitExpiry stream => Sys2Proof.Machine.execRemapLimitExpiry stream s
  | .faultMergeWindowEnd pt => Sys2Proof.Machine.execFaultMergeWindowEnd pt s
  | .hello m => Sys2Proof.Machine.execHello m s
  | .finish port peer id formatOk signatureOk => Sys2Proof.Machine.execFinish port peer id formatOk signatureOk s
  | .dataDatagram port peer id record seq fingerprint outerOk tagOk msg => Sys2Proof.Machine.execDataDatagram port peer id record seq fingerprint outerOk tagOk msg s
  | .heldRequestExecute session => Sys2Proof.Machine.execHeldRequestExecute session s
  | .handshakeTimeout id => Sys2Proof.Machine.execHandshakeTimeout id s
  | .bcpIdleExpiry session => Sys2Proof.Machine.execBcpIdleExpiry session s
  | .conversationHoldExpiry kind index => Sys2Proof.Machine.execConversationHoldExpiry kind index s
  | .ping session => Sys2Proof.Machine.execPing session s
  | .close session => Sys2Proof.Machine.execClose session s
  | .sessionInfo session => Sys2Proof.Machine.execSessionInfo session s
  | .regRead session addr count => Sys2Proof.Machine.execRegRead session addr count s
  | .regWrite session addr value env => Sys2Proof.Machine.execRegWrite session addr value env s
  | .timeOfDay session tai => Sys2Proof.Machine.execTimeOfDay session tai s
  | .timeStep session => Sys2Proof.Machine.execTimeStep session s
  | .admitOpen session stream tag length => Sys2Proof.Machine.execAdmitOpen session stream tag length s
  | .admitBlock session stream tag offset length data => Sys2Proof.Machine.execAdmitBlock session stream tag offset length data s
  | .admitCommit session stream tag records => Sys2Proof.Machine.execAdmitCommit session stream tag records s
  | .admitStatus session stream => Sys2Proof.Machine.execAdmitStatus session stream s
  | .release session stream tag => Sys2Proof.Machine.execRelease session stream tag s
  | .modelOpen session model version length source sourceId => Sys2Proof.Machine.execModelOpen session model version length source sourceId s
  | .modelBlock session model version offset length manifest data => Sys2Proof.Machine.execModelBlock session model version offset length manifest data s
  | .modelManifest session object signatureOk => Sys2Proof.Machine.execModelManifest session object signatureOk s
  | .modelStatus session model version => Sys2Proof.Machine.execModelStatus session model version s
  | .modelResume session model version => Sys2Proof.Machine.execModelResume session model version s
  | .modelDiscard session model version => Sys2Proof.Machine.execModelDiscard session model version s
  | .switch session model => Sys2Proof.Machine.execSwitch session model s
  | .adapterRestore session model adapter => Sys2Proof.Machine.execAdapterRestore session model adapter s
  | .redress session unit => Sys2Proof.Machine.execRedress session unit s
  | .fwOpen session data stamp => Sys2Proof.Machine.execFwOpen session data stamp s
  | .fwBlock session version build offset length data digest => Sys2Proof.Machine.execFwBlock session version build offset length data digest s
  | .fwStatus session version build => Sys2Proof.Machine.execFwStatus session version build s
  | .activate session option limit reservedZero => Sys2Proof.Machine.execActivate session option limit reservedZero s
  | .attest session length nonce => Sys2Proof.Machine.execAttest session length nonce s
  | .anchorSet session body burned => Sys2Proof.Machine.execAnchorSet session body burned s
  | .keySet session body => Sys2Proof.Machine.execKeySet session body s
  | .debugUnlock session token => Sys2Proof.Machine.execDebugUnlock session token s
  | .test session unit codes => Sys2Proof.Machine.execTest session unit codes s
  | .restart session env => Sys2Proof.Machine.execRestart session env s
  | .noticeAck session nSeq => Sys2Proof.Machine.execNoticeAck session nSeq s
  | .noticeFetch session first count => Sys2Proof.Machine.execNoticeFetch session first count s
  | .faultFetch session first count => Sys2Proof.Machine.execFaultFetch session first count s
  | .flashWriteComplete ok => Sys2Proof.Machine.execFlashWriteComplete ok s
  | .activationRestart env => Sys2Proof.Machine.execActivationRestart env s
  | .trngHealthFail => Sys2Proof.Machine.execTrngHealthFail s
  | .trngRetest pass => Sys2Proof.Machine.execTrngRetest pass s
  | .portTrainingComplete port lanes rate trained => Sys2Proof.Machine.execPortTrainingComplete port lanes rate trained s
  | .portRetryTimer => Sys2Proof.Machine.execPortRetryTimer s
  | .portLinkLoss port => Sys2Proof.Machine.execPortLinkLoss port s
  | .quadCfgWrite who value => Sys2Proof.Machine.execQuadCfgWrite who value s
  | .uplaneFrame port mac eaxc seq frameId subframe slot symbol ok sections bytes => Sys2Proof.Machine.execUplaneFrame port mac eaxc seq frameId subframe slot symbol ok sections bytes s
  | .tensorFrame port mac flow seq mer token0 fmt ok tokens records bytes => Sys2Proof.Machine.execTensorFrame port mac flow seq mer token0 fmt ok tokens records bytes s
  | .fabricFrame port mac channel seq ok icvOk data => Sys2Proof.Machine.execFabricFrame port mac channel seq ok icvOk data s
  | .quarHoldExpiry partner => Sys2Proof.Machine.execQuarHoldExpiry partner s
  | .pCtrlRelease who partner => Sys2Proof.Machine.execPCtrlRelease who partner s
  | .batchCutoff stream => Sys2Proof.Machine.execBatchCutoff stream s
  | .mkaFrame port ckn peer icvOk sci serverKey => Sys2Proof.Machine.execMkaFrame port ckn peer icvOk sci serverKey s
  | .mkaLifeExpiry port => Sys2Proof.Machine.execMkaLifeExpiry port s
  | .pabDatagram port kind src forUs => Sys2Proof.Machine.execPabDatagram port kind src forUs s
  | .reportDatagramSend => Sys2Proof.Machine.execReportDatagramSend s
  | .reportHeartbeat => Sys2Proof.Machine.execReportHeartbeat s
  | .thermalSample sensor reading fault => Sys2Proof.Machine.execThermalSample sensor reading fault s
  | .pkgPowerUpdate milliwatts => Sys2Proof.Machine.execPkgPowerUpdate milliwatts s
  | .setCommit who value burnOk => Sys2Proof.Machine.execSetCommit who value burnOk s
  | .drainLimitExpiry => Sys2Proof.Machine.execDrainLimitExpiry s
  | .dieManagerRestart die => Sys2Proof.Machine.execDieManagerRestart die s
  | .portAbLinkChange port up => Sys2Proof.Machine.execPortAbLinkChange port up s
  | .testAccessPortOperation instr => Sys2Proof.Machine.execTestAccessPortOperation instr s
  | .migrationComplete => Sys2Proof.Machine.execMigrationComplete s
  | .testPeriodEnd unit => Sys2Proof.Machine.execTestPeriodEnd unit s
  | .mkaHelloTimer => Sys2Proof.Machine.execMkaHelloTimer s

end Sys2Proof.Machine
end

