-- ==== Sys2Proof/Machine/Step.lean ====
section
/-! DEFINITION. One step of the block: the command at the front of the queue, or one cycle of the timebase when none
waits. -/
namespace Sys2Proof.Machine

/-- One step: the command at the front of the queue runs with the rest of the queue; on an empty queue the timebase advances
by one cycle (R46, assumption log 8). (DESIGN CHOICE, assumption log 27, DESIGN CHOICE, assumption log 95.) -/
def step (s : State) : Host.Outcome State Fault Refusal :=
  match s.pending with
  | [] => .next (s.upd Device.tick)
  | c :: rest => exec c { s with pending := rest }

/-- The state with the command that a word spells at the front of its queue; unchanged where it spells none. (DESIGN CHOICE,
assumption log 8.) -/
def State.withFetchWord (s : State) (nbits w : Nat) : State :=
  match decodeTableWord nbits w with
  | some c => { s with pending := c :: s.pending }
  | none => s

end Sys2Proof.Machine
end

