-- ==== Sys2Proof/Safety.lean ====
section
/-! DEFINITION. What the statements say of a run: a command that completes, a part that runs, a session that may send a
command, status pins that agree with the state. -/
namespace Sys2Proof.Safety

open Sys2Proof.Machine

/-- The command answers a next state in which the queue is as before and the device has a property. -/
def Completes (i : Instr) (s : State) (p : Device → Prop) : Prop :=
  ∃ t, exec i s = .next t ∧ t.pending = s.pending ∧ p t.dev

/-- The state with another device, its status pins settled (R586, R600). -/
def becomes (s : State) (d : Device) : State := { s with dev := d.settle }

/-- The part runs: neither reset, a rail fault nor the loss of the reference clock holds it (R593, R594, R597). -/
abbrev Runs (s : State) : Prop := s.dev.stopped = false

/-- An open session holds the role a command needs, and the part's mode admits the command (R462, R512, R539, R549). -/
abbrev MaySend (d : Device) (who code : Nat) (need : Role) : Prop :=
  d.served who = true ∧ d.hasRole who need = true ∧ d.modeCheck code = none

/-- An access of a register by a session that may send it, or by the part's own firmware (R581). -/
abbrev MayWrite (d : Device) (who : Nat) (need : Role) : Prop := who = 8 ∨ MaySend d who cmdRegWrite need
abbrev MayRead (d : Device) (who : Nat) (need : Role) : Prop := who = 8 ∨ MaySend d who cmdRegRead need

/-- The last thing to leave the part is this reply. -/
abbrev LastReply (d : Device) (who cmd st : Nat) (body : List Nat) : Prop := d.out.head? = some (.reply who cmd st body)

/-- Everything but one session and what has left the part is as it was. -/
def SameButSession (d d' : Device) (who : Nat) : Prop :=
  d'.regions = d.regions ∧ d'.tiles = d.tiles ∧ d'.clusters = d.clusters ∧ d'.dies = d.dies ∧ d'.hbm = d.hbm ∧
    d'.adm = d.adm ∧ d'.mm = d.mm ∧ d'.flt = d.flt ∧ d'.fab = d.fab ∧ d'.be = d.be ∧ d'.dp = d.dp ∧ d'.pab = d.pab ∧ d'.sec = d.sec ∧
    d'.tb = d.tb ∧ d'.clk = d.clk ∧ d'.start = d.start ∧ d'.therm = d.therm ∧ d'.settings = d.settings ∧ d'.held = d.held ∧
    d'.hostScratch = d.hostScratch ∧ d'.glbEvent = d.glbEvent ∧ d'.placement = d.placement ∧
    ∀ n, n ≠ who → d'.session n = d.session n

/-- A command whose one effect is its answer (R462). -/
def OnlyAnswers (i : Instr) (s : State) (who cmd st : Nat) (body : List Nat) : Prop :=
  Completes i s fun d => SameButSession s.dev d who ∧ LastReply d who cmd st body

/-- A command with an effect and its answer. -/
def Answers (i : Instr) (s : State) (who cmd st : Nat) (body : List Nat) (p : Device → Prop) : Prop :=
  Completes i s fun d => p d ∧ LastReply d who cmd st body

/-- The status pins agree with the state: BOOT_STAT is START_STATUS.STATE, FAULT_N and INT_N are low in their cases
(R586, R600). -/
def PinsAgree (s : State) : Prop :=
  s.dev.pins.bootStat = s.dev.start.st.code ∧ s.dev.pins.faultLow = s.dev.faultPin ∧
    s.dev.pins.intLow = decide (s.dev.glbEvent ≠ 0)

/-- Every memory is in its one canonical form: HBM, the buffers of firmware and manifests, and the memories of every region. The form is
the model's own (DESIGN CHOICE, assumption log 15). -/
def MemoriesCanonical (s : State) : Prop :=
  memWf s.dev.hbm.mem = true ∧ memWf s.dev.sec.fw.buf = true ∧ (∀ b, b ∈ s.dev.mm.buffers → memWf b.data = true) ∧
    ∀ r, memWf (s.dev.region r).scratch = true ∧ memWf (s.dev.region r).fw = true ∧ memWf (s.dev.region r).act = true

/-- The reference time of a PTP exchange on a source: the time that the exchange brings, with the source's asymmetry correction (R49,
R76). -/
def ptpTime (d : Device) (q time : Nat) : Nat := ((time : Int) + offNs (lget 0 d.tb.asym q)).toNat

/-- The session, the command code and the least role of a command that needs more than the Observer role (R467, R580). A register's
row is a REG_WRITE; TB_CTRL needs at least the Operator role, REG_WRITE the Maintainer role. -/
def commandOf (i : Instr) : Option (Nat × Nat × Role) :=
  match i with
  | .frameOffsetHiWrite who _ => some (who, cmdRegWrite, .owner)
  | .tbCtrlModeWrite who _ => some (who, cmdRegWrite, .operator)
  | .refPrioWrite who _ => some (who, cmdRegWrite, .operator)
  | .tileCtrlReset who _ => some (who, cmdRegWrite, .maintainer)
  | .toneCtrlStart who _ => some (who, cmdRegWrite, .maintainer)
  | .toneCtrlStop who _ => some (who, cmdRegWrite, .maintainer)
  | .histSelClear who _ => some (who, cmdRegWrite, .maintainer)
  | .dressAllowWrite who _ _ => some (who, cmdRegWrite, .operator)
  | .sightCtrlWrite who _ _ => some (who, cmdRegWrite, .maintainer)
  | .sightPeriodWrite who _ _ => some (who, cmdRegWrite, .maintainer)
  | .sightDelayWrite who _ _ => some (who, cmdRegWrite, .maintainer)
  | .trimEntryLowWrite who _ _ _ => some (who, cmdRegWrite, .owner)
  | .trimEntryHighWrite who _ _ _ => some (who, cmdRegWrite, .owner)
  | .kappaWrite who _ _ => some (who, cmdRegWrite, .maintainer)
  | .seqCtrlHalt who _ => some (who, cmdRegWrite, .owner)
  | .seqCtrlResume who _ => some (who, cmdRegWrite, .owner)
  | .seqCtrlAbort who _ => some (who, cmdRegWrite, .owner)
  | .seqCtrlQuarantine who _ => some (who, cmdRegWrite, .owner)
  | .seqCtrlRelease who _ => some (who, cmdRegWrite, .owner)
  | .statTagWrite who _ _ _ => some (who, cmdRegWrite, .maintainer)
  | .pkgLimitWrite who _ => some (who, cmdRegWrite, .operator)
  | .regionDarkWrite who _ _ _ => some (who, cmdRegWrite, .operator)
  | .linkCtrlRetrain who _ _ => some (who, cmdRegWrite, .maintainer)
  | .linkCtrlUnfence who _ _ => some (who, cmdRegWrite, .owner)
  | .routerCtrlReset who _ => some (who, cmdRegWrite, .owner)
  | .fenceCtrlFence who _ => some (who, cmdRegWrite, .owner)
  | .fenceCtrlUnfence who _ _ _ _ _ => some (who, cmdRegWrite, .owner)
  | .quadCfgWrite who _ => some (who, cmdRegWrite, .operator)
  | .pCtrlRelease who _ => some (who, cmdRegWrite, .owner)
  | .setCommit who _ _ => some (who, cmdRegWrite, .owner)
  | .regWrite who _ _ _ => some (who, cmdRegWrite, .maintainer)
  | .timeOfDay who _ => some (who, 0x0020, .operator)
  | .timeStep who => some (who, 0x0021, .owner)
  | .admitOpen who _ _ _ => some (who, 0x0030, .operator)
  | .admitBlock who _ _ _ _ _ => some (who, 0x0031, .operator)
  | .admitCommit who _ _ _ => some (who, 0x0032, .operator)
  | .release who _ _ => some (who, 0x0034, .operator)
  | .modelOpen who _ _ _ _ _ => some (who, 0x0040, .operator)
  | .modelBlock who _ _ _ _ _ _ => some (who, 0x0041, .operator)
  | .modelManifest who _ _ => some (who, 0x0042, .operator)
  | .modelResume who _ _ => some (who, 0x0044, .operator)
  | .modelDiscard who _ _ => some (who, 0x0045, .operator)
  | .switch who _ => some (who, 0x0046, .operator)
  | .adapterRestore who _ _ => some (who, 0x0047, .operator)
  | .redress who _ => some (who, 0x0048, .maintainer)
  | .fwOpen who _ _ => some (who, 0x0050, .owner)
  | .fwBlock who _ _ _ _ _ _ => some (who, 0x0051, .owner)
  | .activate who _ _ _ => some (who, 0x0053, .owner)
  | .anchorSet who _ _ => some (who, 0x0055, .owner)
  | .keySet who _ => some (who, 0x0056, .owner)
  | .debugUnlock who _ => some (who, 0x0057, .owner)
  | .test who _ _ => some (who, 0x0060, .maintainer)
  | .restart who _ => some (who, 0x0061, .owner)
  | _ => none

/-! ### The error of tile outputs (R10, R110, R111) -/

/-- The RMS error bound of a class, as a part of full scale (R111). -/
def classBound (cls : Nat) : Rat := if cls = 0 then 1 / 200 else if cls = 1 then 1 / 100 else 1 / 50

/-- Outputs of a RANGE, each with twice its exact value, keep the bound of a class: the RMS of y − ŷ against full scale, 2^(16 + RANGE)
output units (R110, R111). This is what R10 promises of the analogue errors that the tile commands bring, while `classOk` holds; the
statements hold for every error. -/
def WithinClass (cls range : Nat) (outs : List (Int × Int)) : Prop :=
  (outs.map fun o => (((2 * o.1 - o.2 : Int) : Rat) / 2) ^ 2).sum ≤ outs.length * (classBound cls * 2 ^ (16 + range)) ^ 2

/-! ### Regions and the bundles that issue in them -/

/-- A region of the grade takes the next bundle now: the part runs, the region runs, nothing is gathered, held or waited for,
and no reset was asked. -/
def Ready (d : Device) (r : Nat) : Prop :=
  d.stopped = false ∧ r < 6 * d.dieCount ∧ (d.region r).regs.st = .running ∧ (d.region r).staged = [] ∧
    (d.region r).held = [] ∧ (d.region r).wait = none ∧ (d.region r).resetAsked = false

/-- What the one instruction of a bundle sees when it issues (R237, R239). -/
def seen (d : Device) (r : Nat) (g : Guard) (op : SlotOp) : Ctx := d.ctx r (d.issueAt r [{ g := g, op := op }])

/-- What a bundle sees that waits for no unit and no bytes: it issues at the region's next cycle. -/
def seenNow (d : Device) (r : Nat) : Ctx := d.ctx r (d.region r).cyc

/-- A region takes the next bundle now, and no predicate of an earlier MVM is due first (R241). -/
def ReadyNow (d : Device) (r : Nat) : Prop := Ready d r ∧ d.predicateDue (seenNow d r) = false

/-- A bundle of one instruction issues with its effect: legal, within the program, its guard true, no check of its entry
failing and nothing it waits for (R237, R238, R240, R242, R255). -/
def IssuesNow (d : Device) (r : Nat) (g : Guard) (op : SlotOp) : Prop :=
  Ready d r ∧ (seen d r g op).guard g = true ∧ Slot.legal { g := g, op := op } = true ∧
    (seen d r g op).ps.inRange ((seen d r g op).bank.pc + 1) = true ∧
    d.causes (seen d r g op) [{ g := g, op := op }] = [] ∧ d.bundleHeld (seen d r g op) [{ g := g, op := op }] = false

/-- The memories of a region are as they were. -/
def SameMemories (d d' : Device) (q : Nat) : Prop :=
  (d'.region q).scratch = (d.region q).scratch ∧ (d'.region q).fw = (d.region q).fw ∧ (d'.region q).act = (d.region q).act ∧
    (d'.region q).imem = (d.region q).imem

/-- Every other region's sequencer, banks and memories are as they were. -/
def OtherRegions (d d' : Device) (r : Nat) : Prop :=
  ∀ q, q ≠ r → (d'.region q).regs = (d.region q).regs ∧ (d'.region q).arch = (d.region q).arch ∧
    (d'.region q).pend = (d.region q).pend ∧ (d'.region q).xfers = (d.region q).xfers ∧ SameMemories d d' q

/-- Tiles, clusters, HBM, streams, models, the fabric, sessions, security and the timebase are as they were. -/
def SameOutside (d d' : Device) : Prop :=
  d'.tiles = d.tiles ∧ d'.clusters = d.clusters ∧ d'.hbm = d.hbm ∧ d'.adm = d.adm ∧ d'.mm = d.mm ∧ d'.fab = d.fab ∧
    d'.bcp = d.bcp ∧ d'.sec = d.sec ∧ d'.tb = d.tb ∧ d'.clk = d.clk ∧ d'.dp = d.dp ∧ d'.out = d.out

/-- The bank of the running slot with what flow gives it, and the cycle of the next bundle (R239, R272). -/
def Flows (d : Device) (c : Ctx) (pc : Nat) (loop : List (Nat × Nat)) (ret : List Nat) (gap : Nat) : Prop :=
  tget .reset (d.region c.r).arch c.slot = { c.bank with pc := pc, loop := loop, ret := ret } ∧
    (d.region c.r).cyc = c.cycle + gap

/-- The bundle falls through to the next index. -/
def FallsThrough (d : Device) (c : Ctx) : Prop := Flows d c ((c.bank.pc + 1) % 2 ^ 14) c.bank.loop c.bank.ret 1

/-- The register writes in flight of a region after a bundle: those not yet visible, then the bundle's own (R241). -/
def WritesAre (d d' : Device) (c : Ctx) (ws : List RegWrite) : Prop :=
  (d'.region c.r).pend = ((d.region c.r).pend.filter fun w => decide (c.cycle < w.cycle)) ++ ws

/-- A bundle has written some registers, left the DMU's registers at a value, fallen through and changed nothing else but
statistics (R239, R241). -/
def OnlyWritesAnd (d d' : Device) (c : Ctx) (ws : List RegWrite) (dmu : DmuRegs) : Prop :=
  WritesAre d d' c ws ∧ FallsThrough d' c ∧ SameMemories d d' c.r ∧ OtherRegions d d' c.r ∧ SameOutside d d' ∧
    (d'.region c.r).regs = (d.region c.r).regs ∧ (d'.region c.r).xfers = (d.region c.r).xfers ∧
    (d'.region c.r).wait = none ∧ (d'.region c.r).dmu = dmu

/-- A bundle has written some registers, fallen through and changed nothing else but statistics (R239, R241). -/
def OnlyWrites (d d' : Device) (c : Ctx) (ws : List RegWrite) : Prop := OnlyWritesAnd d d' c ws (d.region c.r).dmu

/-- A transfer of a region may complete now: it is outstanding, every piece of it stays in the region's own spaces or HBM, and no
bundle waits behind it. -/
def LocalXfer (d : Device) (r id : Nat) (x : Xfer) : Prop :=
  (d.region r).xfers.find? (fun y => y.id = id) = some x ∧ (d.region r).held = [] ∧
    ∀ w, w ∈ x.writes → d.remoteOf x.stream r (spaceOf w.1) = none

/-- Bytes of a region's scratch outside some ranges read as before. -/
def ScratchOutside (d d' : Device) (r : Nat) (l : List (Nat × Nat)) : Prop :=
  ∀ a, (∀ w, w ∈ l → a < w.1 ∨ w.2 ≤ a) → memGet (d'.region r).scratch a = memGet (d.region r).scratch a

/-- The records of a tensor lie apart from its tokens, or it has none. -/
def RecordsApart (c : Ctx) (x : Desc) : Prop :=
  x.sref ≠ 1 ∨ ∀ t, t < x.count → x.tok t + x.len * x.es ≤ c.recAddr x 0 ∨ c.recAddr x x.count ≤ x.tok t

/-- A corrected error of a memory has been counted and flagged (R207, R236, R587). -/
def EccCounted (d d' : Device) (r : Nat) (m : EccMem) : Prop :=
  match m with
  | .region => (d'.region r).regs.eccCorrF = true ∧ (d'.region r).regs.eccCorrCount = satInc (d.region r).regs.eccCorrCount
  | .fast => (d'.region r).dmu.eccCorrF = true ∧ (d'.region r).dmu.eccCorrCount = satInc (d.region r).dmu.eccCorrCount
  | .hbm => d'.hbm.eccCorrF = true ∧ d'.hbm.eccCorr = satInc d.hbm.eccCorr

/-- An error corrected in what a command reads is counted, and the bundle goes on, while fewer than 17 have met the region
within 1 s (R236, R428). -/
def CorrectedIsCounted (s : State) (i : Ecc → Instr) (c : Ctx) (ms : List EccMem) : Prop :=
  (pushEvent (s.dev.region c.r).corrTimes s.dev.real 17).2 = false → ∀ m, m ∈ ms →
    Completes (i (.corrected m)) s fun d => EccCounted s.dev d c.r m ∧ FallsThrough d c ∧
      (d.region c.r).regs.trapF = (s.dev.region c.r).regs.trapF

/-- An uncorrectable error in what a command reads raises DATA_ECC late (R207, R236, R256). -/
def UncorrectableTraps (s : State) (i : Ecc → Instr) (c : Ctx) (cl : Nat) (ms : List EccMem) : Prop :=
  ∀ m, m ∈ ms → Completes (i (.uncorrectable m)) s fun d =>
    (d.region c.r).regs.trapF = true ∧ (d.region c.r).regs.cause = 0x0C ∧ (d.region c.r).regs.slotClass = cl ∧
      (d.region c.r).regs.late = true ∧ (d.region c.r).regs.faultPc = c.bank.pc

end Sys2Proof.Safety
end

