-- ==== Sys2Proof/Certificates/Slice0/Obligations.lean ====
section
/-! DEFINITION. The statements of this model: what each command does when it completes, what it leaves unchanged, and the rules
that hold for every command. Three forms are the model's own and not the spec's, in every statement: commands come from one
queue and an event row asserts that its instant has come (assumption log 26 and 27), a Finern command is one slot of a bundle
(log 13), and a writer numbered 8 is the part's own firmware, which gets no reply (log 29). -/

open Sys2Proof Sys2Proof.Machine Sys2Proof.Safety

/-! ### The queue, the pins and what holds the part -/

/-- A step takes the command at the front of the queue and runs it with the rest of the queue. Model's choices: assumption
log 27. -/
def Obligations.StepRunsTheFrontCommand : Prop :=
  ∀ (c : Instr) (s : State), step { s with pending := c :: s.pending } = exec c s

/-- A step on an empty queue is one cycle of the timebase (R44, R46): 3, 4 or 5 Tc, and FRAME one up as TC passes the end of
the frame. Model's choices: assumption log 8. -/
def Obligations.IdleStepAdvancesMeridian : Prop :=
  ∀ s : State, s.pending = [] → Runs s → s.dev.clk.tc < 19660800 →
    ∃ (t : State) (n : Nat), step s = .next t ∧ t.pending = [] ∧ 3 ≤ n ∧ n ≤ 5 ∧
      t.dev.clk.tc < 19660800 ∧
      t.dev.clk.tc = (if s.dev.clk.tc + n < 19660800 then s.dev.clk.tc + n else s.dev.clk.tc + n - 19660800) ∧
      t.dev.clk.frame = (if s.dev.clk.tc + n < 19660800 then s.dev.clk.frame else (s.dev.clk.frame + 1) % 2 ^ 39) ∧
      t.dev.clk.cycles = s.dev.clk.cycles + 1 ∧
      t.dev.tb = s.dev.tb ∧ t.dev.hbm = s.dev.hbm ∧ t.dev.regions = s.dev.regions ∧ t.dev.tiles = s.dev.tiles ∧
      t.dev.bcp = s.dev.bcp ∧ t.dev.adm = s.dev.adm ∧ t.dev.sec = s.dev.sec ∧ t.dev.out = s.dev.out

/-- Every step leaves the status pins agreeing with the state (R586, R600), and takes at most one command off the queue, from
its front. Model's choices: assumption log 27. -/
def Obligations.EveryStepKeepsPinsAndQueue : Prop :=
  ∀ s t : State, PinsAgree s → step s = .next t → PinsAgree t ∧ t.pending = s.pending.tail

/-- Every step leaves each memory in its canonical form: addresses rising, no byte listed that reads as it would unlisted
(the model's own form, assumption log 15). -/
def Obligations.MemoriesStayCanonical : Prop :=
  ∀ s t : State, MemoriesCanonical s → step s = .next t → MemoriesCanonical t

/-- After reset the pins agree with the state and every memory is in its canonical form. Model's choices: assumption log 15.
-/
def Obligations.ResetMeetsTheInvariants : Prop := PinsAgree State.reset ∧ MemoriesCanonical State.reset

/-- No command has a fault, and the one refusal is the debug scope of the test access port (R543, R601). While RST_N, a rail
fault or the loss of the reference clock holds the part, only the events of pins, rails, the clock and the test access port
change more than the pins (R593, R594, R597): every other command leaves the device. Model's choices: assumption log 49. -/
def Obligations.CommandsCompleteAndHeldPartIgnoresThem : Prop :=
  (∀ (c : Instr) (s : State),
    (∃ t, exec c s = .next t ∧ t.pending = s.pending) ∨
      ((∃ i, c = .testAccessPortOperation i ∧ 3 < i) ∧ s.dev.sec.mode = .debug ∧ exec c s = .refused .debugScope)) ∧
  (∀ (c : Instr) (s : State), s.dev.stopped = true →
    (∀ env b, c ≠ .packageReset env b) → c ≠ .railFault → c ≠ .refclkLoss → c ≠ .vppPcmDrop → c ≠ .vppPcmRecover →
    (∀ i, c ≠ .testAccessPortOperation i) → exec c s = .next (becomes s s.dev))

/-! ### Resets and start-up (chapters 01, 16, 17 and 19) -/

/-- PACKAGE_RESET with RST_N held low (R37, R43, R593): everything volatile is at its reset value; OTP, conductances, board
flash and the level of VPP_PCM stay; THERM_TRIP_N is released. On the release the boot ROM starts (R521, R537): a failed
self-test ends in ERROR, RECOVERY_N low in recovery. Model's choices: assumption log 44, 48. -/
def Obligations.PackageResetKeepsOtpFlashAndCells : Prop :=
  ∀ (s : State) (env : BootEnv),
    Completes (.packageReset env false) s (fun d =>
      d.start = StartUp.reset ∧ d.pins.rstHigh = false ∧ d.pins.thermTripLow = false ∧ d.pins.vppLow = s.dev.pins.vppLow ∧
      d.clk = Clock.reset ∧ d.tb = Timebase.reset ∧ d.therm = Thermal.reset ∧ d.bcp = Bcp.reset ∧ d.dp = DataPorts.reset ∧
      d.mm = ModelMgr.reset ∧ d.flt = Faults.reset ∧ d.hbm = Hbm.reset ∧ d.fab = Fabric.reset ∧ d.regions = [] ∧
      d.clusters = [] ∧ d.be = [] ∧ d.adm = Admission.reset s.dev.sec.grade ∧
      d.settings.slots = s.dev.settings.slots ∧ d.placement = s.dev.placement ∧
      d.sec.lifecycle = s.dev.sec.lifecycle ∧ d.sec.anchors = s.dev.sec.anchors ∧ d.sec.arb = s.dev.sec.arb ∧
      d.sec.keystore = s.dev.sec.keystore ∧ d.sec.deviceId = s.dev.sec.deviceId ∧ d.sec.grade = s.dev.sec.grade ∧
      d.sec.mode = .normal ∧ d.sec.bootAttempts = 0 ∧ d.sec.fw = FwConv.reset ∧
      (∀ n, (d.die n).park = (s.dev.die n).park ∧ (d.die n).repairs = (s.dev.die n).repairs ∧ (d.die n).dm = .reset) ∧
      (∀ p, (d.tile p).cells = (s.dev.tile p).cells ∧ (d.tile p).st = .parked)) ∧
    (env.selfTests % 32 ≠ 31 → Completes (.packageReset env true) s (fun d =>
      d.start.st = .error ∧ d.sec.mode = .error ∧ d.pins.rstHigh = true ∧ d.pab.bootId = env.bootId)) ∧
    (env.selfTests % 32 = 31 → env.recoveryHigh = false → Completes (.packageReset env true) s (fun d =>
      d.start.st = .recovery ∧ d.sec.mode = .recovery ∧ d.pins.rstHigh = true ∧ d.pab.bootId = env.bootId ∧
      d.pab.linkA = true ∧ d.pab.linkB = false))

/-- A hub restart (R37, R538, R541, R556) closes what the hub carried and starts the boot ROM again: by the hub watchdog, and
at Q of an activation. MODE ERROR and a halted hub ignore it (R522, R564). Model's choices: assumption log 40, 41. -/
def Obligations.HubRestartEndsHubWorkAndBoots : Prop :=
  (∀ (s : State) (env : BootEnv), Runs s → s.dev.sec.mode ≠ .error → s.dev.pins.hubHalted = false → s.dev.start.st ≠ .reset →
    Completes (.hubWatchdogExpiry env) s (fun d =>
      d.held = [] ∧ d.bcp.handshakes = [] ∧ d.adm.queue = [] ∧ d.adm.ledger = [] ∧ d.hostScratch = 0 ∧
      d.pab.bootId = env.bootId ∧ d.start.isRestart = true ∧ d.sec.activation = none ∧ d.hbm.selfRefresh = true ∧
      d.hbm.mem = s.dev.hbm.mem ∧
      (d.start.st = .error ∨ d.start.st = .recovery ∨ d.start.st = .starting ∨ d.start.st = .tripped))) ∧
  (∀ (s : State) (env : BootEnv) (a : Activation), Runs s → s.dev.sec.activation = some a →
    (a.q.any fun q => decide (q ≤ s.dev.clk.now)) = true → s.dev.sec.mode ≠ .error → s.dev.pins.hubHalted = false → s.dev.start.st ≠ .reset →
    Completes (.activationRestart env) s (fun d =>
      d.held = [] ∧ d.adm.queue = [] ∧ d.pab.bootId = env.bootId ∧ d.start.isRestart = true ∧ d.sec.activation = none)) ∧
  (∀ (s : State) (env : BootEnv) (a : Activation), Runs s → s.dev.sec.activation = some a →
    (a.q.any fun q => decide (q ≤ s.dev.clk.now)) = false → exec (.activationRestart env) s = .next (becomes s s.dev)) ∧
  (∀ (s : State) (env : BootEnv), s.dev.sec.mode = .error ∨ s.dev.pins.hubHalted = true →
    exec (.hubWatchdogExpiry env) s = .next (becomes s s.dev))

/-- Steps 3 and 4 of start-up (R548, R550, R551): a die that does not answer is fenced; the state of the OTP of each other die
that was in service is kept, and its hub link trains. A link that qualifies comes UP, one that fails is trained once more, and a
second failure fences it; step 6 follows when no link is left to train. Model's choices: assumption log 46. -/
def Obligations.StartUpFindsDiesAndTrainsLinks : Prop :=
  (∀ (s : State) (answers corrected bad : List Nat), Runs s → s.dev.start.st = .starting → s.dev.start.step = 3 →
    s.dev.sec.grade ≤ 8 → (∃ n, n ∈ answers ∧ s.dev.dieLive n = true) →
    Completes (.dieEnumeration answers corrected bad) s (fun d =>
      d.start.step = 4 ∧
      ∀ n, s.dev.dieLive n = true →
        (d.flt.fenced.contains n = !answers.contains n) ∧ ((d.die n).otpBad = bad.contains n) ∧
        (d.die n).otpEccF = ((s.dev.die n).otpEccF || corrected.contains n) ∧
        (n ∈ answers → (d.link n).st = .training))) ∧
  (∀ (s : State) (n k : Nat), Runs s → s.dev.start.st = .starting → s.dev.start.step = 4 → n ∈ s.dev.linksLeft →
    (k ≤ s.dev.fab.errThr / 4 → Completes (.linkQualification n k) s (fun d =>
      d.start.step = (if s.dev.linksLeft = [n] then 6 else 4) ∧ d.start.st = .starting ∧
      (s.dev.linksLeft ≠ [n] ∨ (∀ k, (s.dev.die k).otpBad = false) → (d.link n).st = .up))) ∧
    (s.dev.fab.errThr / 4 < k → (s.dev.link n).fails = 0 → Completes (.linkQualification n k) s (fun d =>
      (d.link n).fails = 1 ∧ (d.link n).st = .training ∧ d.start = s.dev.start)) ∧
    (s.dev.fab.errThr / 4 < k → (s.dev.link n).fails ≠ 0 → Completes (.linkQualification n k) s (fun d => (d.link n).st = .fenced)))

/-- Steps 6 to 11 (R262, R263, R548, R553, R555, R556, R575): with no die failing, every die manager in service holds the
microcode and its regions are IDLE, and a first start goes on to step 7, a hub restart to step 11; trained HBM clears the
context table; one failure is trained again, two enter SERVICE; LOCK_WAIT and the scan each end once; READY records the
capacity. Model's choices: assumption log 46, 50. -/
def Obligations.StartUpReachesReady : Prop :=
  (∀ s : State, Runs s → s.dev.start.st = .starting → s.dev.start.step = 6 →
    Completes (.microcodeBroadcast []) s (fun d =>
      (∀ n, s.dev.dieLive n = true → (d.die n).dm = .inService ∧ (d.die n).microcode = true ∧
        ∀ g, g < 6 → (d.region (6 * n + g)).microcode = true ∧ (d.region (6 * n + g)).regs.st = .idle) ∧
      d.start.step = (if s.dev.start.isRestart then 11 else 7) ∧ d.tiles = s.dev.tiles ∧ d.adm = s.dev.adm ∧
      d.hbm.mem = s.dev.hbm.mem)) ∧
  (∀ s : State, Runs s → s.dev.start.st = .starting → s.dev.start.step = 7 →
    Completes (.hbmTraining true true) s (fun d =>
      d.start.step = 8 ∧ d.hbm.contexts = [] ∧ d.hbm.st0 = 2 ∧ d.hbm.st1 = 2 ∧ d.hbm.mem = s.dev.hbm.mem) ∧
    (s.dev.start.hbmFails = 0 → Completes (.hbmTraining false true) s (fun d => d.start.step = 7 ∧ d.start.hbmFails = 1)) ∧
    (s.dev.start.hbmFails ≠ 0 → Completes (.hbmTraining true false) s (fun d => d.start.st = .service ∧ d.pins.faultLow = true))) ∧
  (∀ s : State, Runs s → s.dev.start.st = .starting → s.dev.start.step = 8 →
    exec .lockWaitExpiry s = .next (becomes s
      (if s.dev.start.stepAt + msTc (1000 * s.dev.start.lockWait) ≤ s.dev.real then
        { s.dev with start := { s.dev.start with lockDone := true } } else s.dev))) ∧
  (∀ (s : State) (results : List ScanResult), Runs s → s.dev.start.st = .starting → s.dev.start.step = 8 →
    s.dev.start.scanDone = false →
    Completes (.startupSightingScan results) s (fun d =>
      d.start.scanDone = true ∧ d.start.st = .starting ∧ d.start.step = 8)) ∧
  (∀ (s : State) (burned : List Nat), Runs s → s.dev.readyDue = true → s.dev.start.minDies ≤ s.dev.diesUp.length →
    Completes (.ready burned) s (fun d =>
      d.start.st = .ready ∧ d.start.capDies = maskOf s.dev.diesUp ∧ d.start.capTiles = s.dev.tilesUp ∧
      d.start.capLinks = s.dev.ringsFenced ∧ d.sec.bootAttempts = 0 ∧ d.adm.capacityF = true ∧
      d.adm.noticeSeq = s.dev.adm.noticeSeq % 2 ^ 32 + 1)) ∧
  (∀ (s : State) (burned : List Nat), Runs s → s.dev.readyDue = true → s.dev.diesUp.length < s.dev.start.minDies →
    Completes (.ready burned) s (fun d => d.start.st = .service))

/-- The rails, the reference clock, VPP_PCM and the test access port (R594, R595, R597, R601, R607): a rail fault holds every block
in package reset with THERM_TRIP_N kept; the loss of the reference clock halts the hub with every port down and the contents of
HBM lost; when VPP_PCM drops no dressing runs on, and its return changes that level alone. Outside MODE DEBUG the port answers
IDCODE while RST_N is low, SAMPLE and EXTEST select their registers, and with RST_N high it is disabled. Model's choices:
assumption log 48, 49. -/
def Obligations.SuppliesAndReferenceClock : Prop :=
  (∀ s : State, s.dev.pins.rstHigh = true → s.dev.pins.railHold = false → Completes .railFault s (fun d =>
    d.pins.railHold = true ∧ d.stopped = true ∧ d.pins.faultLow = true ∧ d.pins.thermTripLow = s.dev.pins.thermTripLow ∧
    d.start.st = .reset ∧ d.clk = Clock.reset ∧ d.regions = [] ∧ d.settings.slots = s.dev.settings.slots ∧
    ∀ p, (d.tile p).cells = (s.dev.tile p).cells)) ∧
  (∀ s : State, Runs s → Completes .refclkLoss s (fun d =>
    d.pins.refclkLost = true ∧ d.pins.hubHalted = true ∧ d.stopped = true ∧ d.pins.faultLow = true ∧ d.start.st = .error ∧
    d.hbm.mem = [] ∧ d.hbm.contexts = [] ∧ d.pab.linkA = false ∧ d.pab.linkB = false ∧
    ∀ p, p ∈ s.dev.portList → (d.port p).st = .down)) ∧
  (∀ s : State, s.dev.pins.vppLow = false → Completes .vppPcmDrop s (fun d =>
    d.pins.vppLow = true ∧ ∀ p, (d.tile p).dress.st ≠ .active)) ∧
  (∀ s : State, exec .vppPcmRecover s =
    .next (becomes s { s.dev with pins := { s.dev.pins with vppLow := false } })) ∧
  (∀ s : State, s.dev.sec.mode ≠ .debug → s.dev.pins.rstHigh = false →
    Completes (.testAccessPortOperation 1) s (fun d => d.pins.tapOut = 0x53580009 ∧ d.pins.tapInstr = 1 ∧ d.pins.extest = false) ∧
    Completes (.testAccessPortOperation 2) s (fun d => d.pins.tapInstr = 2 ∧ d.pins.extest = false) ∧
    Completes (.testAccessPortOperation 3) s (fun d => d.pins.tapInstr = 3 ∧ d.pins.extest = true)) ∧
  (∀ (s : State) (i : Nat), s.dev.sec.mode ≠ .debug → s.dev.pins.rstHigh = true →
    Completes (.testAccessPortOperation i) s (fun d => d.pins.tapOut = 0 ∧ d.pins.tapInstr = 0 ∧ d.pins.extest = false))
/-! ### The timebase (chapter 02) -/

/-- The registers of the timebase (R46 to R50, R66, R76, R77). A read of MERIDIAN_LO latches all 64 bits with TC[1:0] cleared and
returns the low word. A FRAME_OFFSET whose FRAME is in range is taken with no stream admitted, for the next frame boundary,
where FRAME alone moves; it is refused with a stream admitted, or out of range. TB_CTRL takes its fields, and a change of MODE
enters the state of the new one; REF_PRIO takes its value, and one with a reserved bit is refused. Model's choices: assumption
log 29, 98. -/
def Obligations.TimebaseRegistersTakeEffect : Prop :=
  (∀ (s : State) (who : Nat), Runs s → MayRead s.dev who .observer → Completes (.meridianLoRead who) s (fun d =>
    d.clk.latch = merOf (s.dev.clk.now / 4 * 4) ∧ d.clk.frame = s.dev.clk.frame ∧ d.clk.tc = s.dev.clk.tc ∧ d.tb = s.dev.tb ∧
    (who ≠ 8 → LastReply d who cmdRegRead stOK [merOf (s.dev.clk.now / 4 * 4) % 2 ^ 32]))) ∧
  (∀ (s : State) (who v : Nat), Runs s → MayWrite s.dev who .owner → s.dev.noStream = true →
    0 ≤ s.dev.frameAfter (frameOffsetOf v s.dev.tb.frameOffsetLo) →
    s.dev.frameAfter (frameOffsetOf v s.dev.tb.frameOffsetLo) < 2 ^ 39 - 2 ^ 32 →
    Completes (.frameOffsetHiWrite who v) s (fun d =>
      d.tb.frameOffset = frameOffsetOf v s.dev.tb.frameOffsetLo ∧ d.tb.frameOffsetHi = v % 2 ^ 32 ∧
      d.tb.stepPending = some (frameOffsetOf v s.dev.tb.frameOffsetLo - s.dev.tb.offsetNow) ∧
      d.tb.stepAt = (s.dev.clk.frame + 1) * 19660800 ∧ d.clk = s.dev.clk)) ∧
  (∀ (s : State) (who v : Nat), Runs s → MayWrite s.dev who .owner → s.dev.noStream = false →
    Completes (.frameOffsetHiWrite who v) s (fun d =>
      d.tb = s.dev.tb ∧ d.clk = s.dev.clk ∧ (who ≠ 8 → LastReply d who cmdRegWrite stWrongState []))) ∧
  (∀ (s : State) (who v : Nat), Runs s → MayWrite s.dev who .owner → s.dev.noStream = true →
    s.dev.frameAfter (frameOffsetOf v s.dev.tb.frameOffsetLo) < 0 ∨
      2 ^ 39 - 2 ^ 32 ≤ s.dev.frameAfter (frameOffsetOf v s.dev.tb.frameOffsetLo) →
    Completes (.frameOffsetHiWrite who v) s (fun d =>
      d.tb = s.dev.tb ∧ d.clk = s.dev.clk ∧ (who ≠ 8 → LastReply d who cmdRegWrite stFieldRange []))) ∧
  (∀ (s : State) (k : Int), Runs s → s.dev.tb.stepPending = some k → s.dev.tb.stepAt ≤ s.dev.clk.now → s.dev.clk.tc < 19660800 →
    0 ≤ (s.dev.clk.frame : Int) + k → (s.dev.clk.frame : Int) + k < 2 ^ 39 →
    Completes .frameOffsetStep s (fun d =>
      (d.clk.frame : Int) = s.dev.clk.frame + k ∧ d.clk.tc = s.dev.clk.tc ∧ d.tb.stepPending = none)) ∧
  (∀ (s : State) (who v : Nat), Runs s → MayWrite s.dev who .owner → (bits v 2 0 ≠ s.dev.tb.mode → s.dev.noStream = true) →
    bits v 7 5 = 0 → bits v 31 24 = 0 → bits v 2 0 ≤ 1 → 24 ≤ bits v 15 8 → bits v 15 8 ≤ 43 →
    Completes (.tbCtrlModeWrite who v) s (fun d =>
      d.tb.mode = bits v 2 0 ∧ d.tb.ptpEn = bit v 3 ∧ d.tb.ppsEn = bit v 4 ∧ d.tb.ptpDomain = bits v 15 8 ∧
      d.tb.classMax = bits v 23 16 ∧
      (s.dev.tb.mode ≠ bits v 2 0 → d.tb.st = (if bits v 2 0 = 1 then .localTime else .freerun) ∧ d.tb.refSrc = 15))) ∧
  (∀ (s : State) (who v : Nat), Runs s → MayWrite s.dev who .operator →
    Completes (.refPrioWrite who v) s (fun d =>
      if v < 2 ^ 20 then d.tb.refPrio = v
      else d.tb = s.dev.tb ∧ (who ≠ 8 → LastReply d who cmdRegWrite stReserved [])))

/-- PTP (R49, R58, R59, R61 to R64). The first measurement in FREERUN enters ACQUIRING on its source, and Meridian takes the value of
the reference time; a selected source within STEP_THRESHOLD steers the phase of a timebase that is LOCKED; a master of a refused
Sync rate gives no reference. An Announce of the domain and within CLASS_MAX from the master a source has, or from the first, gives
it its clock class; one above CLASS_MAX from that master, a refused rate or a time-out stops the source, and in ACQUIRING the
selected one with the state FREERUN; messages of other domains and management messages are discarded and counted. Model's choices:
assumption log 26, 98. -/
def Obligations.PtpExchangesMeasure : Prop :=
  ((∀ (s : State) (q time rate : Nat), Runs s → q < 4 → s.dev.enabled q = true → 16 ≤ rate → rate ≤ 128 →
     (s.dev.source q).clockClass ≤ s.dev.tb.classMax → s.dev.tb.sources.length = 5 →
     (s.dev.tb.st = .freerun → Completes (.ptpSyncExchange q ⟨s.dev.tb.ptpDomain, time⟩ rate) s (fun d =>
       d.tb.st = .acquiring ∧ d.tb.refSrc = q ∧ (d.source q).live = true ∧ d.tb.lastGoodAt = s.dev.real ∧
       (0 ≤ meridianOf (ptpTime s.dev q time) s.dev.tb.offsetNow →
         meridianOf (ptpTime s.dev q time) s.dev.tb.offsetNow < 2 ^ 39 * 19660800 →
         (d.clk.now : Int) = meridianOf (ptpTime s.dev q time) s.dev.tb.offsetNow))) ∧
     (s.dev.tb.st = .locked → s.dev.tb.refSrc = q →
       within (s.dev.offsetFrom 0 (ptpTime s.dev q time)) s.dev.tb.stepThreshold = true →
       Completes (.ptpSyncExchange q ⟨s.dev.tb.ptpDomain, time⟩ rate) s (fun d =>
         d.tb.st = .locked ∧ d.tb.refSrc = q ∧ d.tb.phaseOffset = toTc (s.dev.offsetFrom 0 (ptpTime s.dev q time)) ∧
         d.clk.slew = -toTc (s.dev.offsetFrom 0 (ptpTime s.dev q time)) ∧ d.tb.lastGoodAt = s.dev.real ∧
         d.tb.freqEst.natAbs ≤ 25600000))) ∧
   (∀ (s : State) (q dom time rate : Nat), Runs s → q < 4 → s.dev.enabled q = true → dom ≠ s.dev.tb.ptpDomain →
     exec (.ptpSyncExchange q ⟨dom, time⟩ rate) s =
       .next (becomes s { s.dev with tb := { s.dev.tb with ptpDiscards := satInc s.dev.tb.ptpDiscards } })) ∧
   (∀ (s : State) (q time rate : Nat), Runs s → q < 4 → s.dev.enabled q = true → rate < 16 ∨ 128 < rate →
     s.dev.tb.sources.length = 5 →
     Completes (.ptpSyncExchange q ⟨s.dev.tb.ptpDomain, time⟩ rate) s (fun d =>
       (d.source q).refused = true ∧ (d.source q).qualified = false ∧
       (s.dev.tb.refSrc ≠ q → d.tb.st = s.dev.tb.st ∧ d.clk = s.dev.clk) ∧
       (s.dev.tb.refSrc = q → s.dev.tb.st = .acquiring → d.tb.st = .freerun ∧ d.tb.refSrc = 15 ∧ d.tb.loss = true)))) ∧
  ((∀ (s : State) (q : Nat) (a : PtpAnnounce), Runs s → q < 4 → s.dev.enabled q = true → s.dev.tb.sources.length = 5 →
     a.domain = s.dev.tb.ptpDomain →
     ((s.dev.source q).master = none ∨ ∃ m, (s.dev.source q).master = some m ∧ m.identity = a.identity) →
     Completes (.ptpAnnounce q (.announce a)) s (fun d =>
       (d.source q).clockClass = a.clockClass ∧ (d.source q).master = some a ∧
       (a.clockClass ≤ s.dev.tb.classMax → d.tb.st = s.dev.tb.st ∧ (d.source q).qualified = (s.dev.source q).qualified) ∧
       (s.dev.tb.classMax < a.clockClass → s.dev.tb.refSrc ≠ q →
         (d.source q).live = false ∧ (d.source q).qualified = false ∧ d.tb.st = s.dev.tb.st) ∧
       (s.dev.tb.classMax < a.clockClass → s.dev.tb.refSrc = q → s.dev.tb.st = .acquiring →
         d.tb.st = .freerun ∧ d.tb.refSrc = 15 ∧ d.tb.loss = true))) ∧
   (∀ (s : State) (q : Nat) (m : PtpMsg), Runs s → q < 4 → s.dev.enabled q = true →
     (∀ a, m = .announce a → a.domain ≠ s.dev.tb.ptpDomain) →
     exec (.ptpAnnounce q m) s =
       .next (becomes s { s.dev with tb := { s.dev.tb with ptpDiscards := satInc s.dev.tb.ptpDiscards } })) ∧
   (∀ (s : State) (q : Nat), Runs s → q < 4 → s.dev.tb.sources.length = 5 → s.dev.tb.refSrc ≠ q →
     ((s.dev.source q).announceAt + msTc 375 ≤ s.dev.real → Completes (.announceReceiptTimeout q) s (fun d =>
       (d.source q).live = false ∧ (d.source q).qualified = false ∧ (d.source q).master = none ∧ d.tb.st = s.dev.tb.st)) ∧
     ((s.dev.source q).exchangeAt + (s.dev.source q).syncTimeout ≤ s.dev.real → Completes (.syncExchangeTimeout q) s (fun d =>
       (d.source q).live = false ∧ (d.source q).qualified = false ∧ d.tb.st = s.dev.tb.st))) ∧
   (∀ (s : State) (q : Nat), Runs s → q < 4 → s.dev.tb.refSrc = q → s.dev.tb.st = .acquiring →
     ((s.dev.source q).announceAt + msTc 375 ≤ s.dev.real →
       Completes (.announceReceiptTimeout q) s (fun d => d.tb.st = .freerun ∧ d.tb.refSrc = 15 ∧ d.tb.loss = true)) ∧
     ((s.dev.source q).exchangeAt + (s.dev.source q).syncTimeout ≤ s.dev.real →
       Completes (.syncExchangeTimeout q) s (fun d => d.tb.st = .freerun ∧ d.tb.refSrc = 15 ∧ d.tb.loss = true))) ∧
   (∀ (s : State) (q : Nat), Runs s →
     (s.dev.real < (s.dev.source q).announceAt + msTc 375 → exec (.announceReceiptTimeout q) s = .next (becomes s s.dev)) ∧
     (s.dev.real < (s.dev.source q).exchangeAt + (s.dev.source q).syncTimeout →
       exec (.syncExchangeTimeout q) s = .next (becomes s s.dev))))

/-- 1PPS and holdover (R46, R49, R60, R61, R64, R71, R342). An edge in its window marks the second the host supplied, and in FREERUN
Meridian takes the value of that second, and a falling edge changes nothing; an edge that misses its window stops the source; the end of HOLDOVER enters UNREFERENCED
and clears the guarantee flag of every admitted stream. Model's choices: assumption log 26, 98. -/
def Obligations.PpsEdgesAndHoldoverEnd : Prop :=
  (∀ (s : State) (ahead tai : Nat) (rest : List (Option Nat)), Runs s → s.dev.enabled 4 = true → s.dev.tb.st = .freerun →
    s.dev.tb.ppsTai = some tai :: rest →
    (∀ t, s.dev.tb.ppsAt = some t → within (offTc (ppsDeviation t (s.dev.real - ahead))) 200 = true) →
    Completes (.ppsEdge ahead true) s (fun d =>
      d.tb.ppsLast = some tai ∧ d.tb.ppsTai = rest ∧ d.tb.ppsAt = some (s.dev.real - ahead) ∧ d.tb.st = .acquiring ∧ d.tb.refSrc = 4 ∧
      (0 ≤ (100 * tai + s.dev.tb.offsetNow) * 19660800 + ahead →
        (100 * tai + s.dev.tb.offsetNow) * 19660800 + ahead < 2 ^ 39 * 19660800 →
        (d.clk.now : Int) = (100 * tai + s.dev.tb.offsetNow) * 19660800 + ahead))) ∧
  (∀ (s : State) (ahead : Nat), Runs s → exec (.ppsEdge ahead false) s = .next (becomes s s.dev)) ∧
  (∀ (s : State) (t : Nat), Runs s → s.dev.tb.sources.length = 5 → s.dev.tb.ppsAt = some t →
    200 * 196608 < offTc (ppsDeviation t s.dev.real) →
    Completes .ppsEdgeMissing s (fun d =>
      d.tb.ppsLast = none ∧ d.tb.ppsAt = none ∧
      (s.dev.tb.refSrc ≠ 4 → (d.source 4).live = false ∧ (d.source 4).qualified = false ∧ d.tb.st = s.dev.tb.st) ∧
      (s.dev.tb.refSrc = 4 → s.dev.tb.st = .acquiring → d.tb.st = .freerun ∧ d.tb.refSrc = 15 ∧ d.tb.loss = true))) ∧
  (∀ s : State, Runs s → s.dev.tb.st = .holdover → s.dev.tb.lastGoodAt + s.dev.tb.holdLen + 4 ≤ s.dev.real →
    Completes .holdoverExpiry s (fun d =>
      d.tb.st = .unreferenced ∧ d.tb.expired = true ∧ d.tb.refSrc = 15 ∧ d.clk.now = s.dev.clk.now ∧
      ∀ n, n ∈ s.dev.liveStreams → (d.stream n).guarantee = false ∧ 3 ∈ (d.stream n).clearedBy))


/-! ### The analogue tile (chapter 03) and its check (chapter 13) -/

/-- The apply strobe (R53 to R55, R85, R86, R95, R102, R302): when the strobe of the burst at the head is due, the active register
takes the shadow register, the MVM is numbered and its parity shown, and the shadow register takes the codes of the burst's next
token; a shadow register that is late is counted and cancels the burst. No other tile changes. Model's choices: assumption log
26, 27, 99. -/
def Obligations.ApplyStrobeStartsOneMvm : Prop :=
  ∀ (s : State) (p : Nat) (b : Burst) (rest : List Burst) (k : BurstToken) (ks : List BurstToken), Runs s →
    (s.dev.tile p).bursts = b :: rest → b.tokens = k :: ks → (s.dev.region (ptRegion p)).held = [] →
    s.dev.strobeDue p b = true → s.dev.came (b.at_.getD s.dev.clk.now) = true → s.dev.inOrder (unitPt p) ordStrobe = true →
    ((s.dev.tile p).check.health ≠ .faulty → k.bad = false → Completes (.applyStrobe p true) s (fun d =>
      (d.tile p).active = (s.dev.tile p).shadow ∧
      (∀ k' ks', ks = k' :: ks' → (d.tile p).shadow = (k'.codes ++ List.replicate 512 0).take 512) ∧
      (d.tile p).mvmNo = (s.dev.tile p).mvmNo + 1 ∧ (d.tile p).parity = (s.dev.tile p).mvmNo % 2 ∧ (d.tile p).st = .applying ∧
      (d.tile p).span = b.span ∧ (d.tile p).range = b.range ∧ (d.tile p).inmode = b2n b.signed ∧
      (d.tile p).staged = [] ∧ (d.tile p).cells = (s.dev.tile p).cells ∧ (d.tile p).strobeAt = some s.dev.clk.now ∧
      (d.tile p).bursts = (if ks = [] then rest else { b with tokens := ks, at_ := none } :: rest) ∧
      (∃ m, (d.tile p).flight = (s.dev.tile p).flight ++ [m] ∧ m.no = (s.dev.tile p).mvmNo ∧ m.dst = k.dst ∧ m.complete = false ∧
        m.at_ = s.dev.clk.now) ∧
      (∀ q, q ≠ p → d.tile q = s.dev.tile q) ∧ d.regions = s.dev.regions ∧ d.hbm = s.dev.hbm)) ∧
    Completes (.applyStrobe p false) s (fun d =>
      (d.tile p).bursts = rest ∧ (d.tile p).shadowLateF = true ∧
      (d.tile p).shadowLateCount = satInc (s.dev.tile p).shadowLateCount ∧ (d.tile p).mvmNo = (s.dev.tile p).mvmNo ∧
      (d.tile p).active = (s.dev.tile p).active ∧ ∀ q, q ≠ p → d.tile q = s.dev.tile q)

/-- The outputs of an MVM (R97, R102, R303): its charges are converted and trimmed, and it is complete; an MVM of TILE.LOAD writes
the hold of its logical tile, any other stores its token and record in the region's scratch, and every other byte of scratch is
as before; a trim entry found uncorrectable on the way makes the tile suspect, and forces the verdict where a column in use is
among them (R148, R428). Model's choices: assumption log 25, 97. -/
def Obligations.MvmOutputReachesHoldOrScratch : Prop :=
  ∀ (s : State) (p no : Nat) (errs : List Int) (m : Mvm), Runs s → (s.dev.tile p).waiting no = some m → m.twin = false →
    (s.dev.region (ptRegion p)).held = [] →
    (m.hold = true → Completes (.mvmOutputComplete p no errs []) s (fun d =>
      (∃ h : Hold, (∀ x, tget x (d.cluster (ltCluster m.logical)).holds (ltTile m.logical) = h) ∧ h.ready = true ∧
        h.pass = !m.forced ∧ h.record = m.recIn ∧ h.y.length = 512 ∧ h.stream = m.stream) ∧
      (∀ r a, memGet (d.region r).scratch a = memGet (s.dev.region r).scratch a) ∧ d.hbm = s.dev.hbm)) ∧
    (m.hold = false → Completes (.mvmOutputComplete p no errs []) s (fun d =>
      (∃ m', m' ∈ (d.tile p).flight ∧ m'.no = no ∧ m'.complete = true ∧
        m'.ys = (convert m.no m.range m.kappaT m.zp2 m.trims m.adc (rawCodes m.span m.range m.charge errs)).ys) ∧
      (∀ a, (a < offsetOf m.dst ∨ offsetOf m.dst + m.outs * elemBytes m.fmt ≤ a) → (a < m.recd ∨ m.recd + 8 ≤ a) →
        memGet (d.region m.region).scratch a = memGet (s.dev.region m.region).scratch a) ∧
      (∀ r a, r ≠ m.region → memGet (d.region r).scratch a = memGet (s.dev.region r).scratch a) ∧
      d.hbm = s.dev.hbm)) ∧
    (∀ slot, (tget .reset (s.dev.tile p).trims slot).bad = false → (s.dev.tile p).check.health = .normal →
      (s.dev.tile p).check.eccAt = none → (s.dev.tile p).check.obsEndedAt = none → s.dev.strict = false →
      Completes (.mvmOutputComplete p no errs [slot]) s (fun d =>
        (tget .reset (d.tile p).trims slot).bad = true ∧ (d.tile p).check.suspectF = true ∧
        (d.tile p).check.health = .observed ∧ (d.tile p).check.eccAt = some s.dev.real ∧
        (m.hold = true → (tget .reset m.trims slot).role ≠ 0 →
          ∃ h : Hold, (∀ x, tget x (d.cluster (ltCluster m.logical)).holds (ltTile m.logical) = h) ∧ h.pass = false)))

/-- The checksum verdict (R411, R412, R416, R420) of an MVM without a pair: a residual above CK_K units, a forced MVM or an
alarm is a FAIL, counted once; with both residuals inside their windows, no force and no accumulator at CUSUM_H the MVM
leaves flight and nothing is counted. The merge window of a tile's FAILs ends in one record with their number (R447). -/
def Obligations.CheckVerdictCountsFails : Prop :=
  (∀ (s : State) (p no : Nat) (m : Mvm), Runs s →
    (s.dev.tile p).flight.find? (fun x => x.no = no && x.complete && x.judged = none) = some m →
    m.at_ + nsTc 168 ≤ s.dev.clk.now → m.pair = none →
    (m.forced = true ∨ (s.dev.tile p).check.health = .withdrawn ∨
      ((s.dev.flt.ckK * s.dev.flt.ckK : Nat) : Rat) * unit0Sq (s.dev.tile p) m <
        delta0 (s.dev.tile p) m * delta0 (s.dev.tile p) m ∨
      ((s.dev.flt.ckK * s.dev.flt.ckK : Nat) : Rat) * unit1Sq (s.dev.tile p) m <
        delta1 (s.dev.tile p) m * delta1 (s.dev.tile p) m) →
    Completes (.checkVerdict p no) s (fun d =>
      (d.tile p).check.failF = true ∧ (d.tile p).check.failCount = satInc (s.dev.tile p).check.failCount ∧
      ∀ x, x ∈ (d.tile p).flight → x.no ≠ no)) ∧
  (∀ (s : State) (p no : Nat) (m : Mvm), Runs s →
    (s.dev.tile p).flight.find? (fun x => x.no = no && x.complete && x.judged = none) = some m →
    m.at_ + nsTc 168 ≤ s.dev.clk.now → m.pair = none →
    m.forced = false → (s.dev.tile p).check.health ≠ .withdrawn →
    delta0 (s.dev.tile p) m * delta0 (s.dev.tile p) m ≤
      ((s.dev.flt.ckK * s.dev.flt.ckK : Nat) : Rat) * unit0Sq (s.dev.tile p) m →
    delta1 (s.dev.tile p) m * delta1 (s.dev.tile p) m ≤
      ((s.dev.flt.ckK * s.dev.flt.ckK : Nat) : Rat) * unit1Sq (s.dev.tile p) m →
    ((s.dev.tile p).check.update (zOf s.dev.flt.ckK (delta0 (s.dev.tile p) m) (unit0Sq (s.dev.tile p) m))
      (zOf s.dev.flt.ckK (delta1 (s.dev.tile p) m) (unit1Sq (s.dev.tile p) m)) s.dev.flt.cusumK).reaches s.dev.flt.cusumH = false →
    Completes (.checkVerdict p no) s (fun d =>
      (d.tile p).check.failCount = (s.dev.tile p).check.failCount ∧ (d.tile p).check.failF = (s.dev.tile p).check.failF ∧
      (d.tile p).check.health = (s.dev.tile p).check.health ∧ (∀ x, x ∈ (d.tile p).flight → x.no ≠ no) ∧
      d.flt = s.dev.flt ∧ d.adm = s.dev.adm)) ∧
  (∀ (s : State) (p no : Nat), Runs s → (∀ m, m ∈ (s.dev.tile p).flight → s.dev.clk.now < m.at_ + nsTc 168) →
    exec (.checkVerdict p no) s = .next (becomes s s.dev)) ∧
  (∀ (s : State) (p n : Nat), Runs s → (s.dev.tile p).check.mergeCount = some n →
    (s.dev.real < (s.dev.tile p).check.mergeAt + msTc 1 → exec (.faultMergeWindowEnd p) s = .next (becomes s s.dev)) ∧
    ((s.dev.tile p).check.mergeAt + msTc 1 ≤ s.dev.real → Completes (.faultMergeWindowEnd p) s (fun d =>
      (d.tile p).check.mergeCount = none ∧
      (∃ f rest, d.flt.log = f :: rest ∧ f.event = 0x01 ∧ f.count = min n 65535 ∧ f.unitP = unitPt p ∧ f.seq = d.flt.seq ∧
        f.mer = s.dev.mer))))

/-- Row trips and TILE_CTRL.RESET (R22, R42, R91 to R94, R114, R116): a row that its limiter has held at the clamp for TRIP_TICKS is
parked, counted and reported, the first latched, and every MVM still in flight is check-failed; a reset of a tile discards what is
in flight, restarts the numbering and the sighting table and keeps the counters; it is discarded inside a reset of the region,
and refused while the tile's state does not admit the write. Model's choices: assumption log 25. -/
def Obligations.RowTripParksAndTileResetDiscards : Prop :=
  (∀ (s : State) (p : Nat) (o : RowOver) (rows : List RowOver), Runs s → o ∈ rows → (s.dev.tile p).trips o = true →
    o.row ∉ (s.dev.tile p).parked →
    Completes (.rowTrip p rows) s (fun d =>
      o.row ∈ (d.tile p).parked ∧ (d.tile p).rowTripF = true ∧ (d.tile p).firstTrip ≠ none ∧
      (∀ y, (s.dev.tile p).firstTrip = some y → (d.tile p).firstTrip = some y) ∧ (d.tile p).tripFail = true ∧
      (∀ m, m ∈ (d.tile p).flight → m.complete = true ∨ m.forced = true) ∧
      (rows = [o] → (d.tile p).rowTripCount = satAdd (s.dev.tile p).rowTripCount 1 ∧
        (d.tile p).parked = (s.dev.tile p).parked ++ [o.row] ∧
        ∃ f rest, d.flt.log = f :: rest ∧ f.event = 0x05 ∧ f.unitP = unitPt p ∧ f.detail = o.row) ∧
      ∀ q, q ≠ p → d.tile q = s.dev.tile q)) ∧
  (∀ (s : State) (who p : Nat), Runs s → MayWrite s.dev who .maintainer → s.dev.dieAccess (ptDie p) = stOK →
    s.dev.tileOpen p = true →
    (s.dev.widerReset (ptDie p) = false → (s.dev.region (ptRegion p)).resetAsked = false →
      Completes (.tileCtrlReset who p) s (fun d =>
        (d.tile p).st = .parked ∧ (d.tile p).flight = [] ∧ (d.tile p).bursts = [] ∧ (d.tile p).shadow = [] ∧
        (d.tile p).active = [] ∧ (d.tile p).mvmNo = 0 ∧ (d.tile p).sight.pos = 0 ∧ (d.tile p).tone.running = false ∧
        (d.tile p).rowTripCount = (s.dev.tile p).rowTripCount ∧ (d.tile p).parked = (s.dev.tile p).parked ∧
        (d.tile p).cells = (s.dev.tile p).cells ∧ ∀ q, q ≠ p → d.tile q = s.dev.tile q)) ∧
    ((s.dev.region (ptRegion p)).resetAsked = true → Completes (.tileCtrlReset who p) s (fun d =>
      d.tiles = s.dev.tiles ∧ d.flt.discardedResets = s.dev.flt.discardedResets + 1))) ∧
  (∀ (s : State) (who p : Nat), Runs s → MaySend s.dev who cmdRegWrite .maintainer → s.dev.dieAccess (ptDie p) = stOK →
    s.dev.tileOpen p = false → Completes (.tileCtrlReset who p) s (fun d =>
      d.tile p = s.dev.tile p ∧ LastReply d who cmdRegWrite stWrongState []))

/-- The tone generator (R102, R107 to R109, R114, R115): a start takes the staged settings and counts TONE_N strobes from PHASE0; a
second start is BUSY; each strobe, 64 ticks after the last at least, advances the phase by 64 × FTW and counts one code in the
histogram; a run that ends early marks the histogram incomplete; HIST_SEL zeroes every bin. Model's choices: assumption log 25,
99. -/
def Obligations.ToneRunsAndHistogram : Prop :=
  (∀ (s : State) (who p : Nat), Runs s → MayWrite s.dev who .maintainer → s.dev.dieAccess (ptDie p) = stOK →
    s.dev.tileOpen p = true →
    ((s.dev.tile p).tone.running = false → Completes (.toneCtrlStart who p) s (fun d =>
      (d.tile p).tone.running = true ∧ (d.tile p).st = .tone ∧ (d.tile p).staged = [] ∧
      (d.tile p).tone.left = (d.tile p).tone.n ∧ (d.tile p).tone.phase = (d.tile p).tone.phase0 ∧
      ((s.dev.tile p).staged = [] → (d.tile p).tone.n = (s.dev.tile p).tone.n) ∧
      (d.tile p).tone.hist = (s.dev.tile p).tone.hist ∧ ∀ q, q ≠ p → d.tile q = s.dev.tile q)) ∧
    ((s.dev.tile p).tone.running = true → Completes (.toneCtrlStart who p) s (fun d =>
      d.tile p = s.dev.tile p ∧ (who ≠ 8 → LastReply d who cmdRegWrite stBusy []))) ∧
    ((s.dev.tile p).tone.running = true → Completes (.toneCtrlStop who p) s (fun d =>
      (d.tile p).tone.running = false ∧ (d.tile p).st = .idle ∧
      (d.tile p).histIncompleteF = ((s.dev.tile p).histIncompleteF || decide (0 < (s.dev.tile p).tone.left)) ∧
      (d.tile p).tone.hist = (s.dev.tile p).tone.hist ∧ ∀ q, q ≠ p → d.tile q = s.dev.tile q)) ∧
    Completes (.histSelClear who p) s (fun d =>
      (∀ c, tget 0 (d.tile p).tone.hist c = 0) ∧ (d.tile p).tone.running = (s.dev.tile p).tone.running ∧
      ∀ q, q ≠ p → d.tile q = s.dev.tile q)) ∧
  (∀ (s : State) (p : Nat) (errs : List Int), Runs s → (s.dev.tile p).tone.running = true → 0 < (s.dev.tile p).tone.left →
    (s.dev.tile p).staged = [] → s.dev.strobeFree p = true → Completes (.toneStrobe p errs) s (fun d =>
      (d.tile p).tone.left = (s.dev.tile p).tone.left - 1 ∧
      (d.tile p).tone.phase = ((s.dev.tile p).tone.phase + 64 * (s.dev.tile p).tone.ftw) % 2 ^ 32 ∧
      (∃ code, code < 1024 ∧
        tget 0 (d.tile p).tone.hist code = min (tget 0 (s.dev.tile p).tone.hist code + 1) 65535 ∧
        ∀ c, c ≠ code → tget 0 (d.tile p).tone.hist c = tget 0 (s.dev.tile p).tone.hist c) ∧
      (d.tile p).mvmNo = (s.dev.tile p).mvmNo + 1 ∧ (d.tile p).strobeAt = some s.dev.clk.now ∧
      ∀ q, q ≠ p → d.tile q = s.dev.tile q)) ∧
  (∀ (s : State) (p : Nat), Runs s → (s.dev.tile p).tone.running = true → Completes (.toneRunEnd p) s (fun d =>
    (d.tile p).tone.running = false ∧
    (d.tile p).histIncompleteF = ((s.dev.tile p).histIncompleteF || decide (0 < (s.dev.tile p).tone.left)) ∧
    (d.tile p).tone.hist = (s.dev.tile p).tone.hist ∧ ∀ q, q ≠ p → d.tile q = s.dev.tile q))

/-! ### Dressing and sighting (chapter 04) -/

/-- Sighting triggers, intervals and reads (R53, R54, R133, R134, R136 to R141): at an instant of its timer, or SIGHT_DELAY after an
EVERY-th MVM, a trigger makes the entry at the position due with its reads; one that comes while reads remain is an overrun; an
idle tick takes one read, and the last read of an entry moves the position on, or back to 0 at the end of the table. Model's
choices: assumption log 25, 26, 27. -/
def Obligations.SightingReadsItsTable : Prop :=
  (∀ (s : State) (p t : Nat), Runs s → (s.dev.tile p).sightRuns = true → (s.dev.tile p).sight.fires = [] →
    (s.dev.tile p).sight.trig = 1 → (s.dev.tile p).sight.timerAt s.dev.clk = some t → (s.dev.tile p).sight.lastTrig ≠ some t →
    s.dev.came t = true → s.dev.inOrder (unitPt p) ordSight = true →
    (0 < (s.dev.tile p).sight.readsLeft → Completes (.sightTimerTrigger p) s (fun d =>
      (d.tile p).sight.overrunF = true ∧ (d.tile p).sight.readsLeft = (s.dev.tile p).sight.readsLeft ∧
      (d.tile p).sight.lastTrig = some t ∧ ∀ q, q ≠ p → d.tile q = s.dev.tile q)) ∧
    ((s.dev.tile p).sight.readsLeft = 0 → (s.dev.tile p).sight.pendCtrl = none → (s.dev.tile p).sight.pendTable = [] →
      (s.dev.tile p).sight.pos < (s.dev.tile p).sight.len →
      Completes (.sightTimerTrigger p) s (fun d =>
        (d.tile p).sight.readsLeft = bits (tget 0 (s.dev.tile p).sight.table (s.dev.tile p).sight.pos) 15 12 + 1 ∧
        (d.tile p).sight.dueAt = s.dev.real ∧ (d.tile p).sight.pos = (s.dev.tile p).sight.pos ∧
        (d.tile p).sight.lastTrig = some t ∧ ∀ q, q ≠ p → d.tile q = s.dev.tile q))) ∧
  (∀ (s : State) (p t : Nat) (rest : List Nat), Runs s → (s.dev.tile p).sightRuns = true → (s.dev.tile p).sight.fires = [] →
    (s.dev.tile p).sight.trig = 2 → (s.dev.tile p).sight.trigAt = t :: rest → s.dev.came t = true →
    (s.dev.tile p).sight.readsLeft = 0 → (s.dev.tile p).sight.pendCtrl = none → (s.dev.tile p).sight.pendTable = [] →
    (s.dev.tile p).sight.pos < (s.dev.tile p).sight.len →
    Completes (.sightApplyTrigger p) s (fun d =>
      (d.tile p).sight.trigAt = rest ∧ (d.tile p).sight.sinceTrig = (s.dev.tile p).sight.sinceTrig ∧
      (d.tile p).sight.readsLeft = bits (tget 0 (s.dev.tile p).sight.table (s.dev.tile p).sight.pos) 15 12 + 1 ∧
      ∀ q, q ≠ p → d.tile q = s.dev.tile q)) ∧
  (∀ (s : State) (p lt t : Nat), Runs s → s.dev.logicalOf p = some lt → s.dev.sightingAt lt = some t →
    (s.dev.tile p).sight.placedAt ≠ some t → s.dev.inOrder (unitPt p) ordSight = true →
    Completes (.sightingInterval p) s (fun d =>
      t ∈ (d.tile p).sight.intervals ∧ (d.tile p).sight.placedAt = some t ∧
      (d.tile p).sight.readsLeft = (s.dev.tile p).sight.readsLeft ∧ (d.tile p).flight = (s.dev.tile p).flight ∧
      ∀ q, q ≠ p → d.tile q = s.dev.tile q)) ∧
  (∀ (s : State) (p lt t : Nat), Runs s → s.dev.logicalOf p = some lt → s.dev.sightingAt lt = some t →
    (s.dev.tile p).sight.placedAt = some t → exec (.sightingInterval p) s = .next (becomes s s.dev)) ∧
  (∀ (s : State) (p : Nat) (errs : List Int), Runs s → (s.dev.tile p).sightRuns = true → (s.dev.tile p).sight.fires = [] →
    s.dev.idleTick p = true → s.dev.inOrder (unitPt p) ordSight = true →
    (s.dev.tile p).sight.dueAt + usTc (seSettle (s.dev.tile p).sight.entry) ≤ s.dev.real →
    (1 < (s.dev.tile p).sight.readsLeft → Completes (.sightingRead p errs) s (fun d =>
      (d.tile p).sight.readsLeft = (s.dev.tile p).sight.readsLeft - 1 ∧ (d.tile p).sight.pos = (s.dev.tile p).sight.pos ∧
      (d.tile p).mvmNo = (s.dev.tile p).mvmNo + 1 ∧ (d.tile p).strobeAt = some s.dev.clk.now ∧
      (d.tile p).sight.kappa = (s.dev.tile p).sight.kappa ∧ (d.tile p).trims = (s.dev.tile p).trims)) ∧
    ((s.dev.tile p).sight.readsLeft = 1 → Completes (.sightingRead p errs) s (fun d =>
      (d.tile p).sight.readsLeft = 0 ∧
      (d.tile p).sight.pos = (if (s.dev.tile p).sight.len ≤ (s.dev.tile p).sight.pos + 1 then 0
        else (s.dev.tile p).sight.pos + 1) ∧
      (d.tile p).mvmNo = (s.dev.tile p).mvmNo + 1 ∧ (d.tile p).sight.sums = [])))

/-- The writes of the sighting registers and of the trim entries (R129, R136, R139, R147 to R149, R151): a write of SIGHT_CTRL takes
effect between entries, and waits while an entry has reads to take; the timer registers take their values; the low word of a trim
entry is held and changes nothing until the high word takes the whole entry; KAPPA takes T_K with it. -/
def Obligations.SightingAndTrimWrites : Prop :=
  (∀ (s : State) (who p v : Nat), Runs s → MayWrite s.dev who .maintainer → s.dev.dieAccess (ptDie p) = stOK →
    s.dev.tileOpen p = true →
    ((s.dev.tile p).sight.ctrlForm v = stOK → (s.dev.tile p).sight.fires = [] → (s.dev.tile p).sight.readsLeft = 0 →
      Completes (.sightCtrlWrite who p v) s (fun d =>
        (d.tile p).sight.trig = bits v 1 0 ∧ (d.tile p).sight.len = bits v 8 2 ∧ (d.tile p).sight.free = bit v 9 ∧
        (d.tile p).sight.code = bits v 17 12 ∧ (d.tile p).sight.every = bits v 25 18 ∧
        ∀ q, q ≠ p → d.tile q = s.dev.tile q)) ∧
    ((s.dev.tile p).sight.ctrlForm v = stOK → (s.dev.tile p).sight.fires = [] → (s.dev.tile p).sight.readsLeft ≠ 0 →
      Completes (.sightCtrlWrite who p v) s (fun d =>
        (d.tile p).sight.trig = (s.dev.tile p).sight.trig ∧ (d.tile p).sight.len = (s.dev.tile p).sight.len ∧
        (d.tile p).sight.pendCtrl = some (bits v 1 0, bits v 8 2, bit v 9, bits v 17 12, bits v 25 18) ∧
        ∀ q, q ≠ p → d.tile q = s.dev.tile q)) ∧
    ((s.dev.tile p).sight.periodForm v = stOK → Completes (.sightPeriodWrite who p v) s (fun d =>
      (∃ l, d.tile p = { s.dev.tile p with sight := { (s.dev.tile p).sight with period := v, lastTrig := l } }) ∧
      ∀ q, q ≠ p → d.tile q = s.dev.tile q)) ∧
    ((s.dev.tile p).sight.delayForm v = stOK → Completes (.sightDelayWrite who p v) s (fun d =>
      (∃ l, d.tile p = { s.dev.tile p with sight := { (s.dev.tile p).sight with delay := v, lastTrig := l } }) ∧
      ∀ q, q ≠ p → d.tile q = s.dev.tile q)) ∧
    (v < 2 ^ 18 → 24576 ≤ bits v 15 0 → bits v 15 0 ≤ 40960 → Completes (.kappaWrite who p v) s (fun d =>
      (d.tile p).sight.kappa = bits v 15 0 ∧ (d.tile p).sight.tk = s.dev.dieTemp (ptDie p) ∧
      (d.tile p).trims = (s.dev.tile p).trims ∧ ∀ q, q ≠ p → d.tile q = s.dev.tile q))) ∧
  (∀ (s : State) (who die i v : Nat), Runs s → MayWrite s.dev who .owner → s.dev.dieAccess (ptDie (trimTile die i)) = stOK →
    s.dev.tileOpen (trimTile die i) = true →
    ((sx 18 (bits v 17 0)).natAbs ≤ 65024 → Completes (.trimEntryLowWrite who die i v) s (fun d =>
      tget .reset (d.tile (trimTile die i)).trims (i % 528) =
        { tget .reset (s.dev.tile (trimTile die i)).trims (i % 528) with heldLow := some v } ∧
      (∀ k, k ≠ i % 528 →
        tget .reset (d.tile (trimTile die i)).trims k = tget .reset (s.dev.tile (trimTile die i)).trims k) ∧
      ∀ q, q ≠ trimTile die i → d.tile q = s.dev.tile q)) ∧
    (∀ low : Nat, v < 2 ^ 18 → (tget .reset (s.dev.tile (trimTile die i)).trims (i % 528)).heldLow = some low →
      Completes (.trimEntryHighWrite who die i v) s (fun d =>
        (tget .reset (d.tile (trimTile die i)).trims (i % 528)).colsum = sx 18 (bits low 17 0) ∧
        (tget .reset (d.tile (trimTile die i)).trims (i % 528)).gain = sx 14 (bits low 31 18) ∧
        (tget .reset (d.tile (trimTile die i)).trims (i % 528)).offset = sx 14 (bits v 13 0) ∧
        (tget .reset (d.tile (trimTile die i)).trims (i % 528)).role = bits v 15 14 ∧
        (tget .reset (d.tile (trimTile die i)).trims (i % 528)).heldLow = none ∧
        (∀ k, k ≠ i % 528 →
          tget .reset (d.tile (trimTile die i)).trims k = tget .reset (s.dev.tile (trimTile die i)).trims k) ∧
        ∀ q, q ≠ trimTile die i → d.tile q = s.dev.tile q)))

/-- Dressing (R22, R117, R119 to R127): a queued tile whose conditions hold starts with its cells erased; a row whose weights are
all DONE is done, and one with a FAILED weight is mapped to the first unused spare row; the last row's verify ends the dressing,
counted and logged, with sighting to run; DRESS_ALLOW takes its value where it fits ADM_CAP and is refused where it does not.
Model's choices: assumption log 25, 99. -/
def Obligations.DressingRunsRowByRow : Prop :=
  (∀ (s : State) (p : Nat), Runs s → (s.dev.tile p).dress.st = .queued → 600 ≤ (s.dev.region (ptRegion p)).dressAllow →
    s.dev.pins.vppLow = false → s.dev.dieTemp (ptDie p) ≤ 1520 → s.dev.tempPausedTiles (ptDie p) = false →
    (s.dev.dressing (ptRegion p) fun x => x = .active) = [] → (s.dev.dressing (ptRegion p) fun x => x = .pausedAllowance) = [] →
    (∀ q, q ∈ (s.dev.dressing (ptRegion p) fun x => x = .queued) → (s.dev.tile p).dress.order ≤ (s.dev.tile q).dress.order) →
    (s.dev.tile p).flight = [] → (s.dev.tile p).bursts = [] → (s.dev.tile p).parked = [] → s.dev.tileOpen p = true →
    Completes (.dressingStart p) s (fun d =>
      (d.tile p).dress.st = .active ∧ (d.tile p).dress.rowsDone = 0 ∧ (d.tile p).dress.dressed = false ∧ (d.tile p).cells = [] ∧
      (d.tile p).st = .parked ∧ ∀ q, q ≠ p → d.tile q = s.dev.tile q)) ∧
  (∀ (s : State) (p : Nat) (reads : List (Nat × List Nat)), Runs s → (s.dev.tile p).dress.st = .active →
    (s.dev.tile p).dress.rowsDone < 512 → s.dev.accessLasts p 340 = true →
    ((∀ e, e ∈ (s.dev.tile p).dressSlots (s.dev.tile p).dress.rowsDone reads → e.2.2 = true) →
      Completes (.dressRow p reads) s (fun d =>
        (d.tile p).dress.rowsDone = (s.dev.tile p).dress.rowsDone + 1 ∧ (d.tile p).dress.dressed = (s.dev.tile p).dress.dressed ∧
        (d.tile p).rowRepair = (s.dev.tile p).rowRepair ∧
        (1520 < s.dev.dieTemp (ptDie p) → (d.tile p).dress.st = .pausedTemp) ∧
        ∀ q, q ≠ p → d.tile q = s.dev.tile q)) ∧
    (∀ x, (∃ e, e ∈ (s.dev.tile p).dressSlots (s.dev.tile p).dress.rowsDone reads ∧ e.2.2 = false) →
      (s.dev.tile p).spareRow = some x →
      Completes (.dressRow p reads) s (fun d =>
        (d.tile p).dress.rowsDone = (s.dev.tile p).dress.rowsDone ∧ (d.tile p).rowOf (s.dev.tile p).dress.rowsDone = x ∧
        (d.tile p).rowSpare x = false ∧ ∀ q, q ≠ p → d.tile q = s.dev.tile q))) ∧
  (∀ (s : State) (p : Nat), Runs s → (s.dev.tile p).dress.st = .active → 512 ≤ (s.dev.tile p).dress.rowsDone →
    (s.dev.tile p).dress.count + 1 < 20000 → Completes (.dressingComplete p) s (fun d =>
      (d.tile p).dress.dressed = true ∧ (d.tile p).dress.st = .idle ∧ (d.tile p).dress.count = (s.dev.tile p).dress.count + 1 ∧
      (d.tile p).dress.dressedAt = some s.dev.real ∧ (d.tile p).sight.kappa = 32768 ∧ (d.tile p).sight.loops = 0 ∧
      (d.tile p).sight.free = true ∧ (d.tile p).tripFail = false ∧
      (∃ x, d.placement = s.dev.placement ++ [x] ∧ x.kind = 1 ∧ x.pt = p ∧ x.lt = (s.dev.tile p).dress.logical ∧
        x.count = (s.dev.tile p).dress.count + 1))) ∧
  (∀ (s : State) (who r v : Nat), Runs s → MayWrite s.dev who .operator → s.dev.dieAccess (r / 6) = stOK → v ≤ 4000 →
    (v ≤ (s.dev.region r).dressAllow ∨ s.dev.powerUsed + (v - (s.dev.region r).dressAllow) ≤ s.dev.admCap) →
    Completes (.dressAllowWrite who r v) s (fun d =>
      (d.region r).dressAllow = v ∧ ∀ x, x ≠ r → d.region x = s.dev.region x)) ∧
  (∀ (s : State) (who r v : Nat), Runs s → MaySend s.dev who cmdRegWrite .operator → s.dev.dieAccess (r / 6) = stOK → v ≤ 4000 →
    (s.dev.region r).dressAllow < v → s.dev.admCap < s.dev.powerUsed + (v - (s.dev.region r).dressAllow) →
    Completes (.dressAllowWrite who r v) s (fun d =>
      d.regions = s.dev.regions ∧ LastReply d who cmdRegWrite stPower []))

/-- A rolling re-dress (R28, R152, R153, R323): the first of the queue dresses the spare with the old tile's targets and sighting; at
a batch boundary of every stream bound to it, its first loop done, the map of the cluster changes, the logical tile stands on the
spare, and the old tile is undressed and its sighting stops. Model's choices: assumption log 65. -/
def Obligations.RedressMovesLogicalTileToSpare : Prop :=
  (∀ (s : State) (lt old p : Nat) (x : Redress), Runs s → s.dev.nextRedress (ltCluster lt) = some x → x.logical = lt →
    ((s.dev.cluster (ltCluster lt)).redress.any fun y => decide (2 ≤ y.stage)) = false → s.dev.physOf lt = some old →
    s.dev.spareOf (ltCluster lt) = some p → (s.dev.tile p).check.health ≠ .faulty → (s.dev.tile p).dress.st = .idle →
    s.dev.digitalCopy old = true → 600 ≤ (s.dev.region (ptRegion p)).dressAllow →
    Completes (.redressStart lt) s (fun d =>
      (d.tile p).dress.st = .queued ∧ (d.tile p).dress.logical = lt ∧
      (d.tile p).dress.targets = (s.dev.tile old).dress.targets ∧ (d.tile p).logModel = (s.dev.tile old).logModel ∧
      (d.tile p).sight.period = (s.dev.tile old).sight.period ∧ (d.tile p).sight.len = (s.dev.tile old).sight.len ∧
      d.physOf lt = some old ∧
      ∀ y, y ∈ (d.cluster (ltCluster lt)).redress → y.logical = lt → y.stage = 2)) ∧
  (∀ (s : State) (lt old p : Nat) (x : Redress), Runs s →
    (s.dev.cluster (ltCluster lt)).redress.find? (fun y => y.logical = lt) = some x → x.stage = 3 → s.dev.physOf lt = some old →
    s.dev.spareOf (ltCluster lt) = some p → s.dev.switchReady p (s.dev.strictest lt) = true →
    s.dev.switchInstant lt old = true → old ≠ p →
    Completes (.tileMapSwitch lt) s (fun d =>
      d.physOf lt = some p ∧ (d.tile old).dress.dressed = false ∧ (d.tile old).sight.trig = 0 ∧
      (∀ e, e ∈ (d.tile old).trims → e.2.role = 0) ∧
      (∀ y, y ∈ (d.cluster (ltCluster lt)).redress → y.logical ≠ lt) ∧
      (∀ l, ltCluster l = ltCluster lt → l ≠ lt → d.physOf l = s.dev.physOf l) ∧
      ((s.dev.tile old).check.health = .withdrawn → (d.tile old).check.health = .faulty)))


/-! ### Finern: bundles of one instruction (chapters 07 and 08) -/

/-- The C-slot instructions that compute (R269, R271, R275, R276): each writes its one register its latency later and falls
through; FADD and FMUL count the operands that are not finite; MERADD of values in range; LIMM takes no guard. -/
def Obligations.ScalarInstructionsWriteOneRegister : Prop :=
  ∀ (s : State) (r : Nat) (g : Guard), ReadyNow s.dev r → g.gp < 8 → (seenNow s.dev r).guard g = true →
    (seenNow s.dev r).ps.inRange ((seenNow s.dev r).bank.pc + 1) = true →
    let c := seenNow s.dev r
    let W (i : Instr) (t : RegTarget) (latency v : Nat) : Prop :=
      Completes i s fun d => OnlyWrites s.dev d c [{ cycle := c.cycle + latency, target := t, value := v }]
    let F (i : Instr) (rd rs v : Nat) : Prop :=
      let n := (if finite32 (c.s rd % 2 ^ 32) then 0 else 1) + if finite32 (c.s rs % 2 ^ 32) then 0 else 1
      let was := (s.dev.region r).dmu
      Completes i s fun d => OnlyWritesAnd s.dev d c [{ cycle := c.cycle + 4, target := .s rd, value := v }]
        (if n = 0 then was else { was with nonfinF := true, nonfinCount := satAdd was.nonfinCount n })
    (∀ rd rs, rd < 32 → rs < 32 →
      W (.aluAdd r g true rd rs) (.s rd) 1 ((c.s rd + c.s rs) % 2 ^ 64) ∧
      W (.aluSub r g true rd rs) (.s rd) 1 (ux 64 ((c.s rd : Int) - c.s rs)) ∧
      W (.aluAnd r g true rd rs) (.s rd) 1 (c.s rd &&& c.s rs) ∧
      W (.aluOr r g true rd rs) (.s rd) 1 (c.s rd ||| c.s rs) ∧
      W (.aluXor r g true rd rs) (.s rd) 1 (c.s rd ^^^ c.s rs) ∧
      W (.aluShl r g true rd rs) (.s rd) 1 (if 64 ≤ c.s rs then 0 else c.s rd * 2 ^ c.s rs % 2 ^ 64) ∧
      W (.aluShr r g true rd rs) (.s rd) 1 (if 64 ≤ c.s rs then 0 else c.s rd / 2 ^ c.s rs) ∧
      W (.aluSar r g true rd rs) (.s rd) 1 (ux 64 (sx 64 (c.s rd) / (2 ^ min (c.s rs) 64 : Nat))) ∧
      W (.aluMul r g true rd rs) (.s rd) 3 (c.s rd * c.s rs % 2 ^ 64) ∧
      W (.aluMin r g true rd rs) (.s rd) 1 (if sx 64 (c.s rs) < sx 64 (c.s rd) then c.s rs else c.s rd) ∧
      W (.aluMax r g true rd rs) (.s rd) 1 (if sx 64 (c.s rd) < sx 64 (c.s rs) then c.s rs else c.s rd) ∧
      W (.aluMinu r g true rd rs) (.s rd) 1 (min (c.s rd) (c.s rs)) ∧
      W (.aluMaxu r g true rd rs) (.s rd) 1 (max (c.s rd) (c.s rs)) ∧
      F (.aluFadd r g true rd rs) rd rs (fp32.round (f32 (c.s rd % 2 ^ 32) + f32 (c.s rs % 2 ^ 32))).1 ∧
      F (.aluFmul r g true rd rs) rd rs (fp32.round (f32 (c.s rd % 2 ^ 32) * f32 (c.s rs % 2 ^ 32))).1 ∧
      (merOk (c.s rd) = true → 0 ≤ (ofMer (c.s rd) : Int) + sx 64 (c.s rs) →
        (ofMer (c.s rd) : Int) + sx 64 (c.s rs) < (2 ^ 39 * tcPerFrame : Nat) →
        W (.aluMeradd r g true rd rs) (.s rd) 2 (merOf ((ofMer (c.s rd) : Int) + sx 64 (c.s rs)).toNat))) ∧
    (∀ rd imm, rd < 32 → -256 ≤ imm → imm < 256 →
      W (.addi r g true rd imm) (.s rd) 1 (ux 64 ((c.s rd : Int) + imm)) ∧ W (.movi r g true rd imm) (.s rd) 1 (ux 64 imm)) ∧
    (∀ rd sh, rd < 32 → sh < 64 →
      W (.shli r g true rd sh) (.s rd) 1 (c.s rd * 2 ^ sh % 2 ^ 64) ∧ W (.shri r g true rd sh) (.s rd) 1 (c.s rd / 2 ^ sh) ∧
      W (.sari r g true rd sh) (.s rd) 1 (ux 64 (sx 64 (c.s rd) / (2 ^ sh : Nat)))) ∧
    (∀ pd rs rt, pd < 8 → rs < 32 → rt < 32 →
      W (.cmpEq r g true pd rs rt) (.p pd) 1 (if c.s rs = c.s rt then 1 else 0) ∧
      W (.cmpNe r g true pd rs rt) (.p pd) 1 (if c.s rs = c.s rt then 0 else 1) ∧
      W (.cmpLt r g true pd rs rt) (.p pd) 1 (if sx 64 (c.s rs) < sx 64 (c.s rt) then 1 else 0) ∧
      W (.cmpLe r g true pd rs rt) (.p pd) 1 (if sx 64 (c.s rs) ≤ sx 64 (c.s rt) then 1 else 0) ∧
      W (.cmpLtu r g true pd rs rt) (.p pd) 1 (if c.s rs < c.s rt then 1 else 0) ∧
      W (.cmpLeu r g true pd rs rt) (.p pd) 1 (if c.s rs ≤ c.s rt then 1 else 0)) ∧
    (∀ sd imm, sd < 32 → imm < 2 ^ 32 →
      W (.limm r true sd false false imm) (.s sd) 1 imm ∧ W (.limm r true sd false true imm) (.s sd) 1 (ux 64 (sx 32 imm)) ∧
      W (.limm r true sd true false imm) (.s sd) 1 (imm * 2 ^ 32 + c.s sd % 2 ^ 32))

/-- Control transfers (R268, R270 to R274): where the PC goes and what the stacks hold; a false guard and NOP fall through, a BRC
leaving its empty cycle all the same; a slot that is not the bundle's last is gathered and nothing issues. -/
def Obligations.ControlTransfersSetPcAndStacks : Prop :=
  ∀ (s : State) (r : Nat) (g : Guard), ReadyNow s.dev r → g.gp < 8 →
    let c := seenNow s.dev r
    let fall : Prop := c.ps.inRange (c.bank.pc + 1) = true
    let leaves : Prop := g = { gp := 0, gn := false } ∨ fall
    let pc1 := (c.bank.pc + 1) % 2 ^ 14
    let F (i : Instr) (pc : Nat) (loop : List (Nat × Nat)) (ret : List Nat) (gap : Nat) : Prop :=
      Completes i s fun d => Flows d c pc loop ret gap ∧ WritesAre s.dev d c [] ∧ SameMemories s.dev d r ∧
        OtherRegions s.dev d r ∧ SameOutside s.dev d ∧ (d.region r).regs = (s.dev.region r).regs
    (∀ k, fall → F (.nop r { gp := 0, gn := false } true k .clean) pc1 c.bank.loop c.bank.ret 1) ∧
    (∀ t, t < 16384 → t < c.ps.len → c.guard g = false → fall → F (.br r g true t) pc1 c.bank.loop c.bank.ret 1) ∧
    (∀ rd rs, rd < 32 → rs < 32 → c.guard g = false → fall → F (.aluAdd r g true rd rs) pc1 c.bank.loop c.bank.ret 1) ∧
    (∀ rs cond off, rs < 32 → cond < 6 → -32 ≤ off → off < 32 → c.guard g = false → fall → 0 ≤ (c.bank.pc : Int) + off →
      c.ps.inRange ((c.bank.pc : Int) + off).toNat = true → F (.brc r g true rs cond off) pc1 c.bank.loop c.bank.ret 2) ∧
    (c.guard g = true →
      (∀ t, t < 16384 → t < c.ps.len → leaves → F (.br r g true t) (c.ps.base + t) c.bank.loop c.bank.ret 2) ∧
      (∀ rs cond off, rs < 32 → cond < 6 → -32 ≤ off → off < 32 → fall → 0 ≤ (c.bank.pc : Int) + off →
        c.ps.inRange ((c.bank.pc : Int) + off).toNat = true →
        F (.brc r g true rs cond off) (if brcond cond (sx 64 (c.s rs)) then ux 14 ((c.bank.pc : Int) + off) else pc1)
          c.bank.loop c.bank.ret 2) ∧
      (∀ t, t < 16384 → t < c.ps.len → c.bank.ret.length < 16 → fall →
        F (.call r g true t) (c.ps.base + t) c.bank.loop (pc1 :: c.bank.ret) 2) ∧
      (∀ p rest, c.bank.ret = p :: rest → c.ps.inRange p = true → leaves → F (.ret r g true) p c.bank.loop rest 2) ∧
      (∀ n, 1 ≤ n → n < 16384 → c.bank.loop.length < 4 → fall →
        F (.loopI r g true n) pc1 ((n, pc1) :: c.bank.loop) c.bank.ret 1) ∧
      (∀ rs, rs < 32 → 1 ≤ c.s rs → c.s rs < 2 ^ 32 → c.bank.loop.length < 4 → fall →
        F (.loopR r g true rs) pc1 ((c.s rs, pc1) :: c.bank.loop) c.bank.ret 1) ∧
      (∀ n start rest, c.bank.loop = (n, start) :: rest → fall →
        (1 < n → F (.loopE r g true) start ((n - 1, start) :: rest) c.bank.ret 1) ∧
        (n ≤ 1 → F (.loopE r g true) pc1 rest c.bank.ret 1))) ∧
    (∀ t, Completes (.br r g false t) s fun d =>
      (d.region r).staged = [{ g := g, op := .br t }] ∧ (d.region r).arch = (s.dev.region r).arch ∧
        (d.region r).pend = (s.dev.region r).pend ∧ SameMemories s.dev d r ∧ OtherRegions s.dev d r ∧ SameOutside s.dev d)

/-- Waits, yields and ends of Finern (R53, R55, R225, R245 to R247, R249, R250, R252, R258, R278, R279): a WAITM of an instant to come
and a WAITB hold issue, a WAITM of an instant that has passed goes on and is counted late; YIELD.TEST starts the first test if it
fits and goes on if not; SEAL closes the group; HALT ends the activation; TRAP halts the region with SOFTWARE and its code. A wait of
a running region ends once the replica has reached its value, late where it has passed it, and issue goes on no earlier than now;
before the value nothing happens; a region that yielded in the wait leaves its test, which is reported; a HALTED region keeps the
wait. Model's choices: assumption log 26. -/
def Obligations.WaitsYieldsAndEndsOfFinern : Prop :=
  (∀ (s : State) (r : Nat) (g : Guard), ReadyNow s.dev r → g.gp < 8 → (seenNow s.dev r).guard g = true →
     let c := seenNow s.dev r
     let fall : Prop := c.ps.inRange (c.bank.pc + 1) = true
     let leaves : Prop := g = { gp := 0, gn := false } ∨ fall
     (∀ rs, rs < 32 → fall → merOk (c.s rs) = true → s.dev.clk.now < ofMer (c.s rs) → ofMer (c.s rs) ≤ s.dev.clk.now + 100 * tcPerFrame →
       Completes (.waitm r g true rs) s fun d =>
         (d.region r).wait = some (.until_ (ofMer (c.s rs))) ∧ FallsThrough d c ∧ (d.region r).sinceYield = 0 ∧ WritesAre s.dev d c [] ∧
         (d.region r).regs = (s.dev.region r).regs ∧ SameMemories s.dev d r ∧ OtherRegions s.dev d r ∧ SameOutside s.dev d) ∧
     (∀ rs, rs < 32 → fall → merOk (c.s rs) = true → ofMer (c.s rs) ≤ s.dev.clk.now → Completes (.waitm r g true rs) s fun d =>
       (d.region r).wait = none ∧ FallsThrough d c ∧ (d.region r).sinceYield = 0 ∧ WritesAre s.dev d c [] ∧
       d.tb.lateEvents = (if ofMer (c.s rs) < s.dev.clk.since then satInc s.dev.tb.lateEvents else s.dev.tb.lateEvents) ∧
       (ofMer (c.s rs) < s.dev.clk.since → d.tb.lateEvent = true) ∧ SameMemories s.dev d r ∧ OtherRegions s.dev d r ∧
       d.tiles = s.dev.tiles ∧ d.hbm = s.dev.hbm) ∧
     (fall → Completes (.waitb r g true) s fun d =>
       (d.region r).wait = some (.beat (beatStartNo (s.dev.stream c.stream).almanac
         (beatNo (s.dev.stream c.stream).almanac s.dev.clk.now + 1))) ∧ FallsThrough d c ∧ (d.region r).sinceYield = 0 ∧
       WritesAre s.dev d c [] ∧ (d.region r).regs = (s.dev.region r).regs ∧ SameMemories s.dev d r ∧ OtherRegions s.dev d r ∧
       SameOutside s.dev d) ∧
     (∀ t rest offer, (s.dev.region r).tests = t :: rest → 1 ≤ offer → offer ≤ 1000 → fall →
       Completes (.yieldTest r g true offer) s fun d =>
         (t.len ≤ offer → (d.region r).running = some t ∧ (d.region r).regs.st = .yielded ∧ (d.region r).yieldedFrom = true ∧
           (d.region r).offerEnd = s.dev.real + usTc offer) ∧
         (offer < t.len → (d.region r).running = (s.dev.region r).running ∧ (d.region r).regs = (s.dev.region r).regs) ∧
         FallsThrough d c ∧ WritesAre s.dev d c [] ∧ SameMemories s.dev d r ∧ OtherRegions s.dev d r ∧ SameOutside s.dev d) ∧
     (fall → Completes (.seal r g true) s fun d =>
       ((d.region r).groups.find? fun e => e.1 = c.stream) = none ∧
       (∀ n k, (s.dev.region r).groups.find? (fun e => e.1 = c.stream) = some (c.stream, n, k) →
         ∀ a, a ∈ d.adm.groups → a.stream = c.stream → a.region = r → a.number = n → a.closed = true) ∧
       FallsThrough d c ∧ WritesAre s.dev d c [] ∧ SameMemories s.dev d r ∧ OtherRegions s.dev d r ∧
       (d.region r).regs = (s.dev.region r).regs ∧ d.tiles = s.dev.tiles ∧ d.hbm = s.dev.hbm) ∧
     (leaves → Completes (.halt r g true) s fun d =>
       (d.region r).regs.st = .idle ∧ (d.region r).active = false ∧ (d.region r).pend = [] ∧ (d.region r).held = [] ∧
       (d.region r).regs.trapF = (s.dev.region r).regs.trapF ∧ SameMemories s.dev d r ∧ OtherRegions s.dev d r ∧
       d.tiles = s.dev.tiles ∧ d.hbm = s.dev.hbm) ∧
     (∀ code, code < 256 → leaves → Completes (.trap r g true code) s fun d =>
       (d.region r).regs.st = .halted ∧ (d.region r).regs.trapF = true ∧ (d.region r).regs.cause = 0x0E ∧
       (d.region r).regs.swCode = code ∧ (d.region r).regs.late = false ∧ (d.region r).regs.trapPc = c.bank.pc ∧
       (d.region r).regs.resumePc = c.bank.pc ∧ (d.region r).regs.faultPc = c.bank.pc ∧ (d.region r).regs.trapMer = s.dev.mer ∧
       (d.region r).regs.trapCount = satInc (s.dev.region r).regs.trapCount ∧ SameMemories s.dev d r ∧
       OtherRegions s.dev d r ∧ d.tiles = s.dev.tiles ∧ d.hbm = s.dev.hbm)) ∧
  (∀ (s : State) (r t : Nat) (b : Bool), Runs s → (s.dev.region r).held = [] →
     (s.dev.region r).wait = some (if b then .beat t else .until_ t) →
     let i : Instr := if b then .waitbRelease r else .waitmRelease r
     (s.dev.clk.now < t ∨ (s.dev.region r).regs.st = .halted → Completes i s fun d => d.regions = s.dev.regions ∧ SameOutside s.dev d) ∧
     (t ≤ s.dev.clk.now → (s.dev.region r).regs.st = .running → Completes i s fun d =>
       (d.region r).wait = none ∧ (d.region r).cyc = max (s.dev.region r).cyc s.dev.nowCycle ∧ (d.region r).sinceYield = 0 ∧
       d.tb.lateEvents = (if t < s.dev.clk.since then satInc s.dev.tb.lateEvents else s.dev.tb.lateEvents) ∧
       (t < s.dev.clk.since → d.tb.lateEvent = true) ∧
       (d.region r).regs = (s.dev.region r).regs ∧ (d.region r).arch = (s.dev.region r).arch ∧
       (d.region r).pend = (s.dev.region r).pend ∧ SameMemories s.dev d r ∧ OtherRegions s.dev d r ∧
       d.tiles = s.dev.tiles ∧ d.hbm = s.dev.hbm ∧ d.clk = s.dev.clk) ∧
     (t ≤ s.dev.clk.now → (s.dev.region r).regs.st = .yielded → (s.dev.region r).lateTraps = [] →
       (s.dev.region r).haltAsked = false → Completes i s fun d =>
         (d.region r).wait = none ∧ (d.region r).regs.st = .running ∧ (d.region r).running = none ∧
         (d.region r).yieldedFrom = false ∧ (d.region r).arch = (s.dev.region r).arch ∧ SameMemories s.dev d r ∧
         OtherRegions s.dev d r ∧ d.tiles = s.dev.tiles ∧
         (∀ e, (s.dev.region r).running = some e → s.dev.clk.since ≤ t →
           ∃ f rest, d.flt.log = f :: rest ∧ f.event = 0x08 ∧ f.unitP = e.unit ∧ f.detail = e.code)))

/-- The register moves of the M slot (R280, R281): each writes its register one cycle later from what its source holds.
Model's choices: assumption log 13. -/
def Obligations.RegisterMovesCopyBetweenFiles : Prop :=
  ∀ (s : State) (r : Nat) (g : Guard), ReadyNow s.dev r → g.gp < 8 → (seenNow s.dev r).guard g = true →
    (seenNow s.dev r).ps.inRange ((seenNow s.dev r).bank.pc + 1) = true →
    let c := seenNow s.dev r
    let W (i : Instr) (t : RegTarget) (v : Nat) : Prop :=
      Completes i s fun d => OnlyWrites s.dev d c [{ cycle := c.cycle + 1, target := t, value := v }]
    (∀ sd ss, sd < 32 → ss < 32 → W (.movS r g true sd ss) (.s sd) (c.s ss)) ∧
    (∀ ad ss, ad < 16 → ss < 32 →
      W (.movSa r g true ad ss) (.a ad) (c.s ss % 2 ^ 48) ∧ W (.movAs r g true ss ad) (.s ss) (c.a ad) ∧
      W (.movAa r g true ad ss) (.a ad) ((c.a ad + c.s ss) % 2 ^ 48)) ∧
    (∀ ad imm, ad < 16 → -2097152 ≤ imm → imm < 2097152 → W (.movAi r g true ad imm) (.a ad) (ux 48 ((c.a ad : Int) + imm))) ∧
    (∀ tn as_, tn < 64 → as_ < 16 → W (.movTa r g true tn as_) (.t tn) (putBits (c.t tn) 0 48 (c.a as_))) ∧
    (∀ tn fld ss, tn < 64 → fld < 10 → ss < 32 →
      (c.s ss < 2 ^ (fldPlace fld).2 →
        W (.movTs r g true tn fld ss) (.t tn) (putBits (c.t tn) (fldPlace fld).1 (fldPlace fld).2 (c.s ss))) ∧
      W (.movSt r g true ss tn fld) (.s ss) (c.t tn / 2 ^ (fldPlace fld).1 % 2 ^ (fldPlace fld).2)) ∧
    (∀ ss, ss < 32 →
      (Completes (.movPs r g true ss) s fun d => OnlyWrites s.dev d c ([1, 2, 3, 4, 5, 6, 7].map fun i =>
        { cycle := c.cycle + 1, target := .p i, value := if bit (c.s ss) i then 1 else 0 })) ∧
      W (.movSp r g true ss) (.s ss) (c.bank.p / 2 % 128 * 2 + 1)) ∧
    (∀ qn h ss, qn < 16 → ss < 32 →
      W (.movQs r g true qn h ss) (.q qn) (putBits (c.q qn) (if h then 64 else 0) 64 (c.s ss)) ∧
      W (.movSq r g true ss qn h) (.s ss) (c.q qn / 2 ^ (if h then 64 else 0) % 2 ^ 64))

/-- The loads and stores of the M slot (R282): MOV.L reads eight bytes of scratch, low byte first; MOV.W writes eight and no
other; MOV.SM reads Meridian with TC[1:0] cleared, or the start of the beat under way; an error in what MOV.L reads or in the
fetch of a bundle is counted where corrected, and raises DATA_ECC late or IMEM_ECC where not (R236, R254). Model's choices: assumption log 13, 17, 97. -/
def Obligations.ScratchLoadsAndStores : Prop :=
  (∀ (s : State) (r k : Nat), ReadyNow s.dev r →
    let c := seenNow s.dev r
    (c.ps.inRange (c.bank.pc + 1) = true →
      CorrectedIsCounted s (.nop r { gp := 0, gn := false } true k) c [.region]) ∧
    Completes (.nop r { gp := 0, gn := false } true k (.uncorrectable .region)) s fun d =>
      (d.region r).regs.trapF = true ∧ (d.region r).regs.cause = 0x01 ∧ (d.region r).regs.late = false ∧
      (d.region r).regs.slotClass = 0 ∧ (d.region r).regs.trapPc = c.bank.pc ∧ (d.region r).regs.faultPc = c.bank.pc ∧
      SameMemories s.dev d r) ∧
  (∀ (s : State) (r : Nat) (g : Guard) (sd as_ : Nat) (off : Int), IssuesNow s.dev r g (.movL sd as_ off) →
    let c := seen s.dev r g (.movL sd as_ off)
    CorrectedIsCounted s (.movL r g true sd as_ off) c [.region] ∧ UncorrectableTraps s (.movL r g true sd as_ off) c clM [.region] ∧
    Completes (.movL r g true sd as_ off .clean) s fun d =>
      OnlyWrites s.dev d c [⟨c.cycle + 6, .s sd,
        leValue (memRead (s.dev.region r).scratch (offsetOf (c.movAddr as_ off)) 8)⟩]) ∧
  (∀ (s : State) (r : Nat) (g : Guard) (ss as_ : Nat) (off : Int), IssuesNow s.dev r g (.movW ss as_ off) →
    let c := seen s.dev r g (.movW ss as_ off)
    Completes (.movW r g true ss as_ off) s fun d =>
      (memWf (s.dev.region r).scratch = true →
        memRead (d.region r).scratch (offsetOf (c.movAddr as_ off)) 8 = leBytes 8 (c.s ss)) ∧
      ScratchOutside s.dev d r [(offsetOf (c.movAddr as_ off), offsetOf (c.movAddr as_ off) + 8)] ∧ WritesAre s.dev d c [] ∧
      FallsThrough d c ∧ (d.region r).fw = (s.dev.region r).fw ∧ (d.region r).act = (s.dev.region r).act ∧
      OtherRegions s.dev d r ∧ SameOutside s.dev d) ∧
  (∀ (s : State) (r : Nat) (g : Guard) (sd : Nat) (beat : Bool), IssuesNow s.dev r g (.movSM sd beat) →
    let c := seen s.dev r g (.movSM sd beat)
    Completes (.movSm r g true sd beat) s fun d =>
      OnlyWrites s.dev d c [⟨c.cycle + 2, .s sd,
        if beat then merOf (beatStartNo (s.dev.stream c.stream).almanac
            (beatNo (s.dev.stream c.stream).almanac s.dev.clk.now))
          else merOf (s.dev.clk.now / 4 * 4)⟩])

/-- Transfers and contexts (R207, R234 to R236, R256, R283, R284, R286, R405, R587): XFER.D, XFER.B, CTX_GET and CTX_PUT each add one
outstanding transfer with the bytes as they are at issue, and none of those bytes moves until it completes; a CTX_PUT stores the
context at once where its key is held already or the quota has room, drops and counts it where not, or deletes it. TRANSFER_COMPLETE
of one within the region writes its pieces and its records; one to another region writes there through a receive window once the
earlier ones to that region have arrived, and waits for them before; a source error that could not be corrected, or a corrupt shard,
raises DATA_ECC late and leaves only the bytes it touched unspecified; a corrected one is counted. Model's choices: assumption log 13,
17, 18, 97. -/
def Obligations.TransfersMoveBytesOnCompletion : Prop :=
  ((∀ (s : State) (r : Nat) (g : Guard) (td ts : Nat), IssuesNow s.dev r g (.xferD td ts) →
     let c := seen s.dev r g (.xferD td ts)
     let m := s.dev.planD c (c.desc td) (c.desc ts)
     Completes (.xferD r g true td ts) s fun d =>
       (∃ x, (d.region r).xfers = (s.dev.region r).xfers ++ [x] ∧ x.id = (s.dev.region r).nextXfer ∧ x.stream = c.stream ∧
         x.writes = (runsD (c.desc td) (c.desc ts)).map (fun u => (u.2.1, s.dev.readMem c u.1 u.2.2)) ∧ x.recs = m.recs ∧
         x.poison = m.poison ∧ x.pc = c.bank.pc) ∧
       (d.region r).engineFree = c.cycle + m.occupancy ∧
       SameMemories s.dev d r ∧ OtherRegions s.dev d r ∧ d.hbm = s.dev.hbm ∧ d.tiles = s.dev.tiles ∧ WritesAre s.dev d c [] ∧
       FallsThrough d c) ∧
   (∀ (s : State) (r : Nat) (g : Guard) (ad as_ sl : Nat), IssuesNow s.dev r g (.xferB ad as_ sl) →
     let c := seen s.dev r g (.xferB ad as_ sl)
     let m := s.dev.planB c (c.a ad) (c.a as_) (c.s sl)
     Completes (.xferB r g true ad as_ sl) s fun d =>
       (∃ x, (d.region r).xfers = (s.dev.region r).xfers ++ [x] ∧ x.id = (s.dev.region r).nextXfer ∧ x.stream = c.stream ∧
         x.writes = [(c.a ad, s.dev.readMem c (c.a as_) (c.s sl))] ∧ x.recs = [] ∧ x.poison = m.poison ∧ x.pc = c.bank.pc) ∧
       (d.region r).engineFree = c.cycle + m.occupancy ∧
       SameMemories s.dev d r ∧ OtherRegions s.dev d r ∧ d.hbm = s.dev.hbm ∧ d.tiles = s.dev.tiles ∧ WritesAre s.dev d c [] ∧
       FallsThrough d c) ∧
   (∀ (s : State) (r : Nat) (g : Guard) (sk ad : Nat), IssuesNow s.dev r g (.ctxGet sk ad) →
     let c := seen s.dev r g (.ctxGet sk ad)
     Completes (.ctxGet r g true sk ad) s fun d =>
       (∃ x, (d.region r).xfers = (s.dev.region r).xfers ++ [x] ∧ x.kind = .ctxGet ∧ x.recs = [] ∧ x.poison = [] ∧
         x.writes = [(c.a ad, (s.dev.context c.stream (c.s sk)).getD (List.replicate 128 0))]) ∧
       d.hbm = s.dev.hbm ∧ d.tiles = s.dev.tiles ∧ SameMemories s.dev d r ∧ WritesAre s.dev d c [] ∧ FallsThrough d c ∧
       (d.region r).regs.ctxMissCount =
         (if (s.dev.context c.stream (c.s sk)).isNone then satInc (s.dev.region r).regs.ctxMissCount
          else (s.dev.region r).regs.ctxMissCount)) ∧
   (∀ (s : State) (r : Nat) (g : Guard) (sk as_ : Nat) (del : Bool), IssuesNow s.dev r g (.ctxPut sk as_ del) →
     let c := seen s.dev r g (.ctxPut sk as_ del)
     let used := (s.dev.hbm.contexts.filter fun e => e.1 = c.stream).length
     let room : Prop := (s.dev.context c.stream (c.s sk)).isSome = true ∨ used < (s.dev.stream c.stream).ctxQuota
     CorrectedIsCounted s (.ctxPut r g true sk as_ del) c [.region] ∧ UncorrectableTraps s (.ctxPut r g true sk as_ del) c clM [.region] ∧
     Completes (.ctxPut r g true sk as_ del .clean) s fun d =>
       (∃ x, (d.region r).xfers = (s.dev.region r).xfers ++ [x] ∧ x.kind = .ctxPut ∧ x.writes = [] ∧ x.recs = []) ∧
       (del = true → d.context c.stream (c.s sk) = none) ∧
       (del = false → room → d.context c.stream (c.s sk) = some (s.dev.readMem c (c.a as_) 128)) ∧
       (del = false → ¬ room → d.context c.stream (c.s sk) = none ∧
         (d.region r).regs.ctxDropCount = satInc (s.dev.region r).regs.ctxDropCount) ∧
       (∀ st k, st ≠ c.stream ∨ k ≠ c.s sk → d.context st k = s.dev.context st k) ∧
       SameMemories s.dev d r ∧ d.hbm.mem = s.dev.hbm.mem ∧ d.tiles = s.dev.tiles ∧ WritesAre s.dev d c [] ∧ FallsThrough d c)) ∧
  ((∀ (s : State) (r id : Nat) (x : Xfer) (bad : List Nat), Runs s → LocalXfer s.dev r id x →
     (x.poison = [] → Completes (.transferComplete r id ⟨.clean, bad⟩) s fun d =>
       (∀ y, y ∈ (d.region r).xfers → y.id ≠ id) ∧
       ScratchOutside s.dev d r ((x.writes ++ x.recs).map fun w => (offsetOf w.1, offsetOf w.1 + w.2.length)) ∧
       (∀ a bs, x.writes = [(a, bs)] → x.recs = [] → spaceOf a = spScratch → memWf (s.dev.region r).scratch = true →
         memRead (d.region r).scratch (offsetOf a) bs.length = bs) ∧
       (d.region r).regs = (s.dev.region r).regs ∧ (d.region r).arch = (s.dev.region r).arch ∧
       (d.region r).pend = (s.dev.region r).pend ∧ OtherRegions s.dev d r ∧ d.tiles = s.dev.tiles ∧
       d.hbm.contexts = s.dev.hbm.contexts) ∧
     (∀ ecc : Ecc, ecc.bad = true ∨ x.poison ≠ [] → (s.dev.region r).regs.st = .running →
       Completes (.transferComplete r id ⟨ecc, bad⟩) s fun d =>
         (∀ y, y ∈ (d.region r).xfers → y.id ≠ id) ∧ (d.region r).regs.trapF = true ∧ (d.region r).regs.cause = 0x0C ∧
         (d.region r).regs.slotClass = clM ∧ (d.region r).regs.late = true ∧ (d.region r).regs.faultPc = x.pc ∧
         ScratchOutside s.dev d r (x.writes.map fun w => (offsetOf w.1, offsetOf w.1 + w.2.length)) ∧
         (∀ a bs, x.writes = [(a, bs)] → spaceOf a = spScratch → memWf (s.dev.region r).scratch = true →
           ∀ i, i < bs.length → i ∉ x.poison → (ecc.bad = true → i ∉ bad) →
             memGet (d.region r).scratch (offsetOf a + i) = lget 0 bs i)) ∧
     (x.poison = [] → (pushEvent (s.dev.region r).corrTimes s.dev.real 17).2 = false →
       ∀ m, m = .region ∨ m = .hbm → Completes (.transferComplete r id ⟨.corrected m, bad⟩) s fun d =>
         EccCounted s.dev d r m ∧ (d.region r).regs.trapF = (s.dev.region r).regs.trapF ∧
         ∀ y, y ∈ (d.region r).xfers → y.id ≠ id)) ∧
   (∀ (s : State) (r id q a : Nat) (bs : List Byte) (x : Xfer), Runs s → (s.dev.region r).held = [] →
     (s.dev.region r).xfers.find? (fun y => y.id = id) = some x → x.writes = [(a, bs)] → x.recs = [] → x.poison = [] →
     s.dev.remoteOf x.stream r (spaceOf a) = some q →
     (s.dev.mayComplete r x = false → Completes (.transferComplete r id ⟨.clean, []⟩) s fun d =>
       d.regions = s.dev.regions ∧ SameOutside s.dev d) ∧
     (s.dev.mayComplete r x = true → (s.dev.region q).regs.st ≠ .reset → s.dev.dieLive (q / 6) = true →
       (s.dev.region q).receives (offsetOf a) bs.length = true → Completes (.transferComplete r id ⟨.clean, []⟩) s fun d =>
         (∀ y, y ∈ (d.region r).xfers → y.id ≠ id) ∧
         (memWf (s.dev.region q).scratch = true → memRead (d.region q).scratch (offsetOf a) bs.length = bs) ∧
         ScratchOutside s.dev d q [(offsetOf a, offsetOf a + bs.length)] ∧ SameMemories s.dev d r ∧
         (d.region r).regs = (s.dev.region r).regs ∧ d.tiles = s.dev.tiles ∧ d.hbm = s.dev.hbm)))

/-- A write from another region or package (R234, R285): wholly inside an enabled receive window of a region in service it is
stored; otherwise nothing is stored, and the drop is counted and reported with EVENT 0x13. Model's choices: assumption log
26. -/
def Obligations.RemoteWritesNeedAReceiveWindow : Prop :=
  ∀ (s : State) (r off : Nat) (bs : List Byte), Runs s → r < 6 * s.dev.dieCount →
    let ok : Prop := (s.dev.region r).regs.st ≠ .reset ∧ s.dev.dieLive (r / 6) = true ∧ off + bs.length ≤ szScratch ∧
      ∃ w, w ∈ (s.dev.region r).rxwin ∧ w.read = true ∧ w.base * 64 ≤ off ∧ off + bs.length ≤ (w.base + w.size) * 64
    (ok → Completes (.remoteWriteArrival r off bs) s fun d =>
      (memWf (s.dev.region r).scratch = true → memRead (d.region r).scratch off bs.length = bs) ∧
      ScratchOutside s.dev d r [(off, off + bs.length)] ∧ (d.region r).regs = (s.dev.region r).regs ∧
      OtherRegions s.dev d r ∧ SameOutside s.dev d ∧ d.flt = s.dev.flt) ∧
    (¬ ok → Completes (.remoteWriteArrival r off bs) s fun d =>
      (d.region r).scratch = (s.dev.region r).scratch ∧ (d.region r).regs.rxDropF = true ∧
      (d.region r).regs.rxDropCount = satInc (s.dev.region r).regs.rxDropCount ∧
      (∃ f rest, d.flt.log = f :: rest ∧ f.event = 0x13 ∧ f.unitL = unitRegion r ∧ f.detail = 234) ∧
      OtherRegions s.dev d r ∧ SameOutside s.dev d)

/-- SEND, EGRESS and the end of an egress group (R277, R278, R288 to R290, R498): a SEND over a secure port hands the
tensor's bytes to its channel, one over a channel with none is dropped and counted; an EGRESS sends one frame with the bytes
and the instant it names, in the stream's open group or a new one; the group's time-out closes it. Model's choices: assumption log 13, 17, 89, 97. -/
def Obligations.SendAndEgressLeaveTheRegion : Prop :=
  (∀ (s : State) (r : Nat) (g : Guard) (ts ch : Nat), IssuesNow s.dev r g (.send ts ch) →
    let c := seen s.dev r g (.send ts ch)
    ∀ x : Nat × Nat × Nat × Nat, s.dev.channelOf c.stream ch = some x →
    CorrectedIsCounted s (.send r g true ts ch) c [.region] ∧ UncorrectableTraps s (.send r g true ts ch) c clM [.region] ∧
    Completes (.send r g true ts ch .clean) s fun d =>
      (s.dev.partnerQuarantined x.2.1 = false → (s.dev.securePort x.2.1).isSome = true →
        d.out = .fabric x.2.1 ch (s.dev.tensorBytes c (c.desc ts)) :: s.dev.out) ∧
      (s.dev.partnerQuarantined x.2.1 = true ∨ (s.dev.securePort x.2.1).isNone = true →
        d.out = s.dev.out ∧ (d.region r).regs.sendDropCount = satInc (s.dev.region r).regs.sendDropCount) ∧
      SameMemories s.dev d r ∧ d.hbm = s.dev.hbm ∧ d.tiles = s.dev.tiles ∧ WritesAre s.dev d c [] ∧ FallsThrough d c) ∧
  (∀ (s : State) (r : Nat) (g : Guard) (ts sm : Nat), IssuesNow s.dev r g (.egress ts sm) →
    let c := seen s.dev r g (.egress ts sm)
    CorrectedIsCounted s (.egress r g true ts sm) c [.region] ∧ UncorrectableTraps s (.egress r g true ts sm) c clM [.region] ∧
    Completes (.egress r g true ts sm .clean) s fun d =>
      (∃ e, d.fab.egress = s.dev.fab.egress ++ [e] ∧ e.region = r ∧ e.instant = ofMer (c.s sm) ∧ e.frame.stream = c.stream ∧
        e.frame.mer = c.s sm ∧ e.frame.fmt = (c.desc ts).fmt ∧ e.frame.tokens = (c.desc ts).count ∧
        (s.dev.tensorBytes c (c.desc ts)) <:+ e.frame.body ∧
        e.frame.group = (match (s.dev.region r).groups.find? (fun e => e.1 = c.stream) with
          | some (_, n, _) => n
          | none => (s.dev.stream c.stream).nextGroup)) ∧
      ((s.dev.region r).groups.find? (fun e => e.1 = c.stream) = none →
        (∃ a, d.adm.groups = s.dev.adm.groups ++ [a] ∧ a.stream = c.stream ∧ a.region = r ∧
          a.number = (s.dev.stream c.stream).nextGroup ∧ a.closed = false)) ∧
      SameMemories s.dev d r ∧ d.hbm = s.dev.hbm ∧ d.tiles = s.dev.tiles ∧ WritesAre s.dev d c [] ∧ FallsThrough d c) ∧
  (∀ (s : State) (r n k st : Nat), Runs s → (s.dev.region r).groups.find? (fun e => e.1 = st) = some (st, n, k) →
    (s.dev.groupOver r st = false → exec (.egressGroupTimeout r st) s = .next (becomes s s.dev)) ∧
    (s.dev.groupOver r st = true → Completes (.egressGroupTimeout r st) s fun d =>
      ((d.region r).groups.find? fun e => e.1 = st) = none ∧
      (∀ a, a ∈ d.adm.groups → a.stream = st → a.region = r → a.number = n → a.closed = true) ∧
      (d.region r).regs = (s.dev.region r).regs ∧ SameMemories s.dev d r ∧ OtherRegions s.dev d r ∧ d.fab = s.dev.fab))

/-- The T slot (R295 to R306, R426, R427): TILE.MVM queues its burst on the tile that serves the logical tile, and on its
twin's for a redundant stream while the twin takes part; TILE.LOAD one token for its strobe with the tile held; TILE.READ takes the hold and writes its output
token and record; TILE.CHK reads and clears the count; TILE.SIGHT opens its intervals, and fires the entry at the first where asked. Model's choices: assumption log 13, 17, 97. -/
def Obligations.TileInstructionsUseTheNamedTile : Prop :=
  (∀ (s : State) (r : Nat) (g : Guard) (rc ts td pm p : Nat), IssuesNow s.dev r g (.tileMvm rc ts td pm) →
    let c := seen s.dev r g (.tileMvm rc ts td pm)
    let w := c.s rc
    let red := s.dev.twinServes c.stream (rcTile r w)
    s.dev.physOf (rcTile r w) = some p →
    CorrectedIsCounted s (.tileMvm r g true rc ts td pm) c [.region] ∧ UncorrectableTraps s (.tileMvm r g true rc ts td pm) c clT [.region] ∧
    Completes (.tileMvm r g true rc ts td pm .clean) s fun d =>
      (∃ b, (d.tile p).bursts = (s.dev.tile p).bursts ++ [b] ∧ b.twin = false ∧ b.stream = c.stream ∧ b.logical = rcTile r w ∧
        b.range = rcRange w ∧ b.span = rcSpan w ∧ b.signed = decide ((c.desc ts).fmt = fS8) ∧ b.hold = false ∧ b.pm = pm ∧
        b.tokens = (List.range (rcCount w)).map (fun k => s.dev.burstToken c (c.desc ts) (c.desc td) (rcFirst w + k)) ∧
        b.due = s.dev.firstStrobe (s.dev.tilePair c.stream (rcTile r w)) ∧ b.at_ = none ∧
        b.outs = (c.desc td).len ∧ b.fmt = (c.desc td).fmt ∧ (red = false → b.pair = none)) ∧
      (red = true → ∀ p2, s.dev.physOf (twinOf (rcTile r w)) = some p2 →
        ∃ b, (d.tile p2).bursts = (s.dev.tile p2).bursts ++ [b] ∧ b.twin = true ∧ b.pair = some p ∧
          b.tokens.length = rcCount w) ∧
      (∀ q, q ≠ p → (red = true → s.dev.physOf (twinOf (rcTile r w)) ≠ some q) → d.tile q = s.dev.tile q) ∧ d.clusters = s.dev.clusters ∧ SameMemories s.dev d r ∧ d.hbm = s.dev.hbm ∧
      WritesAre s.dev d c [] ∧ FallsThrough d c ∧
      tget 0 (d.region r).tileFree (rcTile r w) = c.cycle + 125 * rcCount w) ∧
  (∀ (s : State) (r : Nat) (g : Guard) (rc ts rm p : Nat), IssuesNow s.dev r g (.tileLoad rc ts rm) →
    let c := seen s.dev r g (.tileLoad rc ts rm)
    let w := c.s rc
    let red := s.dev.twinServes c.stream (rcTile r w)
    s.dev.physOf (rcTile r w) = some p →
    CorrectedIsCounted s (.tileLoad r g true rc ts rm) c [.region] ∧ UncorrectableTraps s (.tileLoad r g true rc ts rm) c clT [.region] ∧
    Completes (.tileLoad r g true rc ts rm .clean) s fun d =>
      (∃ b, (d.tile p).bursts = (s.dev.tile p).bursts ++ [b] ∧ b.tokens.length = 1 ∧ b.hold = true ∧ b.outs = 512 ∧
        b.fmt = fY24 ∧ b.at_ = some (if ofMer (c.s rm) < s.dev.clk.now + 126 then s.dev.afterCycles 80 else ofMer (c.s rm))) ∧
      (d.tb.lateEvents = if ofMer (c.s rm) < s.dev.clk.now + 126 then satInc s.dev.tb.lateEvents else s.dev.tb.lateEvents) ∧
      (∀ q, q ≠ p → (red = true → s.dev.physOf (twinOf (rcTile r w)) ≠ some q) → d.tile q = s.dev.tile q) ∧ SameMemories s.dev d r ∧ d.hbm = s.dev.hbm ∧ FallsThrough d c) ∧
  (∀ (s : State) (r : Nat) (g : Guard) (rc td pm : Nat), IssuesNow s.dev r g (.tileRead rc td pm) →
    let c := seen s.dev r g (.tileRead rc td pm)
    let y := c.desc td
    let t := rcFirst (c.s rc)
    Completes (.tileRead r g true rc td pm) s fun d =>
      ((d.cluster (ltCluster (rcTile r (c.s rc)))).holds.find? fun e => e.1 = ltTile (rcTile r (c.s rc))) = none ∧
      ScratchOutside s.dev d r [(offsetOf (y.tok t), offsetOf (y.tok t) + y.len * y.es), (c.recAddr y t, c.recAddr y t + 8)] ∧
      (∃ v, v ≤ 1 ∧ WritesAre s.dev d c [⟨c.cycle + 24, .p pm, v⟩]) ∧
      d.tiles = s.dev.tiles ∧ d.hbm = s.dev.hbm ∧ (d.region r).fw = (s.dev.region r).fw ∧ FallsThrough d c) ∧
  (∀ (s : State) (r : Nat) (g : Guard) (rc pd sd : Nat), IssuesNow s.dev r g (.tileChk rc pd sd) →
    let c := seen s.dev r g (.tileChk rc pd sd)
    let lt := rcTile r (c.s rc)
    let n := tget 0 (s.dev.cluster (ltCluster lt)).failCounts (256 * ltTile lt + c.stream)
    Completes (.tileChk r g true rc pd sd) s fun d =>
      WritesAre s.dev d c [⟨c.cycle + 2, .s sd, n⟩, ⟨c.cycle + 2, .p pd, if n = 0 then 0 else 1⟩] ∧
      tget 0 (d.cluster (ltCluster lt)).failCounts (256 * ltTile lt + c.stream) = 0 ∧ d.tiles = s.dev.tiles ∧
      SameMemories s.dev d r ∧ d.hbm = s.dev.hbm ∧ FallsThrough d c) ∧
  (∀ (s : State) (r : Nat) (g : Guard) (rc p : Nat), IssuesNow s.dev r g (.tileSight rc) →
    let c := seen s.dev r g (.tileSight rc)
    let w := c.s rc
    s.dev.physOf (rcTile r w) = some p →
    Completes (.tileSight r g true rc) s fun d =>
      (d.tile p).sight.intervals = (s.dev.tile p).sight.openIntervals s.dev.clk.now ++
        (List.range (rcCount w)).map (fun k => s.dev.afterCycles (80 + 125 * k)) ∧
      (d.tile p).sight.fires = (s.dev.tile p).sight.fires ++
        (if rcFire w then ((List.range (rcCount w)).map fun k => s.dev.afterCycles (80 + 125 * k)).take 1 else []) ∧
      (d.tile p).sight.readsLeft = (s.dev.tile p).sight.readsLeft ∧ tget 0 (d.region r).tileFree (rcTile r w) = c.cycle + 125 * rcCount w ∧
      (∀ q, q ≠ p → d.tile q = s.dev.tile q) ∧ SameMemories s.dev d r ∧ d.hbm = s.dev.hbm ∧ WritesAre s.dev d c [] ∧
      FallsThrough d c)

/-- The V slot (R200, R217, R256, R294, R307 to R313): each instruction occupies its unit for its issue cycles, writes no
byte of scratch but those of its destinations and their records, and leaves every other memory as it was (VADAPT's parameters
in fast-weight SRAM apart); a cause found late halts the region after the bundle; an error met in what it reads is counted
where corrected, and raises DATA_ECC late where not (R207, R236). Model's choices: assumption log 13, 17, 97. -/
def Obligations.VectorInstructionsTouchOnlyTheirDestinations : Prop :=
  ∀ (s : State) (r : Nat) (g : Guard),
    let V (i : Ecc → Instr) (op : SlotOp) (ws : Ctx → List RegTarget) (fwToo : Bool) (ms : List EccMem) : Prop :=
      IssuesNow s.dev r g op →
      let c := seen s.dev r g op
      ((s.dev.runV c op).late = none → CorrectedIsCounted s i c ms) ∧ UncorrectableTraps s i c clV ms ∧
      Completes (i .clean) s fun d =>
        ScratchOutside s.dev d r (c.writesV op) ∧ (fwToo = false → (d.region r).fw = (s.dev.region r).fw) ∧
        (d.region r).act = (s.dev.region r).act ∧ (d.region r).imem = (s.dev.region r).imem ∧ OtherRegions s.dev d r ∧
        d.tiles = s.dev.tiles ∧ d.clusters = s.dev.clusters ∧ d.hbm = s.dev.hbm ∧ d.clk = s.dev.clk ∧
        (d.region r).arrayFree = (if (c.costV op).1 = 0 then c.cycle + (c.costV op).2.1 else (s.dev.region r).arrayFree) ∧
        (d.region r).pipeFree = (if (c.costV op).1 = 1 then c.cycle + (c.costV op).2.1 else (s.dev.region r).pipeFree) ∧
        (d.region r).quantFree = (if (c.costV op).1 = 2 then c.cycle + (c.costV op).2.1 else (s.dev.region r).quantFree) ∧
        (d.region r).dmu.busyCycles = ((s.dev.region r).dmu.busyCycles + c.dmuBusy op) % 2 ^ 64 ∧
        match (s.dev.runV c op).late with
        | none => (d.region r).regs = (s.dev.region r).regs ∧ FallsThrough d c ∧
            ∃ vs : List Nat, vs.length = (ws c).length ∧ WritesAre s.dev d c
              (((ws c).zip vs).map fun e => ⟨c.cycle + (c.costV op).2.2, e.1, e.2⟩)
        | some k => (d.region r).regs.st = .halted ∧ (d.region r).regs.trapF = true ∧ (d.region r).regs.cause = k ∧
            (d.region r).regs.late = true ∧ (d.region r).regs.slotClass = clV ∧ (d.region r).regs.faultPc = c.bank.pc
    (∀ ta tb td, V (.vmm r g true ta tb td) (.vmm ta tb td) (fun _ => []) false [.region, .fast]) ∧
    (∀ ta tb td rc, V (.vmmE r g true ta tb td rc) (.vmmE ta tb td rc) (fun _ => []) false [.region, .hbm]) ∧
    (∀ ta tb td bc sub, V (.vadd r g true ta tb td bc sub) (.vadd ta tb td bc sub) (fun _ => []) false [.region]) ∧
    (∀ ta tb td bc, V (.vmul r g true ta tb td bc) (.vmul ta tb td bc) (fun _ => []) false [.region]) ∧
    (∀ ts td tbl fn rs, V (.vact r g true ts td tbl fn rs) (.vact ts td tbl fn rs) (fun _ => []) false [.region]) ∧
    (∀ ts td, V (.vsmax r g true ts td) (.vsmax ts td) (fun _ => []) false [.region]) ∧
    (∀ ts td tg re, V (.vnormL r g true ts td tg re) (.vnormL ts td tg re) (fun _ => []) false [.region] ∧
      V (.vnormR r g true ts td tg re) (.vnormR ts td tg re) (fun _ => []) false [.region]) ∧
    (∀ tw tg tm ad rh, V (.vadapt r g true tw tg tm ad rh) (.vadapt tw tg tm ad rh) (fun _ => []) true [.region, .fast]) ∧
    (∀ ts td, V (.qscan r g true ts td) (.qscan ts td) (fun _ => []) false [.region]) ∧
    (∀ ts td pm, V (.qconv r g true ts td pm) (.qconv ts td pm) (fun _ => [.p pm]) false [.region]) ∧
    (∀ ts td rc, V (.dq r g true ts td rc) (.dq ts td rc) (fun _ => []) false [.region])

/-- Results of the V slot, element by element, each rounded once into the destination's format (R162, R174, R177, R202, R208,
R309, R311): sums and products, ReLU, clamp and identity, the exact integer product with its scales and zero points, the code
of a value under its record, and the value of a code. -/
def Obligations.VectorResultsRoundOnce : Prop :=
  ∀ (s : State) (r : Nat) (g : Guard), memWf (s.dev.region r).scratch = true →
    (∀ (ta tb td : Nat) (bc sub : Bool), IssuesNow s.dev r g (.vadd ta tb td bc sub) →
      let c := seen s.dev r g (.vadd ta tb td bc sub)
      let a := c.desc ta
      let b := c.desc tb
      let x := c.desc td
      s.dev.recordsOk c a (List.range a.count) = true → s.dev.recordsOk c b (List.range b.count) = true → a.fmt ≠ fY24 →
      RecordsApart c x → Completes (.vadd r g true ta tb td bc sub .clean) s fun d => ∀ t j, t < a.count → j < a.len →
        lget 0 (d.token c x t) j = (roundTo x.fmt ((elemFin a.fmt (lget 0 (s.dev.token c a t) j)).1 +
          (if sub then -1 else 1) * (elemFin b.fmt (lget 0 (s.dev.token c b (if bc then 0 else t)) j)).1)).1) ∧
    (∀ (ta tb td : Nat) (bc : Bool), IssuesNow s.dev r g (.vmul ta tb td bc) →
      let c := seen s.dev r g (.vmul ta tb td bc)
      let a := c.desc ta
      let b := c.desc tb
      let x := c.desc td
      s.dev.recordsOk c a (List.range a.count) = true → s.dev.recordsOk c b (List.range b.count) = true →
      RecordsApart c x → Completes (.vmul r g true ta tb td bc .clean) s fun d => ∀ t j, t < a.count → j < a.len →
        lget 0 (d.token c x t) j = (roundTo x.fmt ((elemFin a.fmt (lget 0 (s.dev.token c a t) j)).1 *
          (elemFin b.fmt (lget 0 (s.dev.token c b (if bc then 0 else t)) j)).1)).1) ∧
    (∀ ts td tbl fn rs : Nat, IssuesNow s.dev r g (.vact ts td tbl fn rs) →
      let c := seen s.dev r g (.vact ts td tbl fn rs)
      let a := c.desc ts
      let x := c.desc td
      s.dev.recordsOk c a (List.range a.count) = true → RecordsApart c x →
      Completes (.vact r g true ts td tbl fn rs .clean) s fun d => ∀ t j, t < a.count → j < a.len →
        let v := (elemFin a.fmt (lget 0 (s.dev.token c a t) j)).1
        lget 0 (d.token c x t) j = (roundTo x.fmt (if fn = 0 then s.dev.actLookup r tbl v else if fn = 1 then max v 0
          else if fn = 2 then min (max v (f32 (c.s rs % 2 ^ 32))) (f32 (c.s rs / 2 ^ 32)) else v)).1) ∧
    (∀ ta tb td : Nat, IssuesNow s.dev r g (.vmm ta tb td) →
      let c := seen s.dev r g (.vmm ta tb td)
      let a := c.desc ta
      let b := c.desc tb
      let x := c.desc td
      s.dev.recordsOk c a (List.range a.count) = true → s.dev.recordsOk c b [0] = true → dmuClass a.fmt = some 0 →
      RecordsApart c x → Completes (.vmm r g true ta tb td .clean) s fun d => ∀ t j, t < a.count → j < b.len →
        lget 0 (d.token c x t) j = (dmuOut x.fmt
          (((List.range b.count).map fun k =>
              ((elemFin a.fmt (lget 0 (s.dev.token c a t) k)).1 - (zpOf a.fmt (rZp (s.dev.record c a t)) : Int)) *
              ((elemFin b.fmt (lget 0 (s.dev.token c b k) j)).1 - (zpOf b.fmt (rZp (s.dev.record c b 0)) : Int))).sum *
            f32 (rScale (s.dev.record c a t)) * f32 (rScale (s.dev.record c b 0)))).1) ∧
    (∀ ts td rc : Nat, IssuesNow s.dev r g (.dq ts td rc) →
      let c := seen s.dev r g (.dq ts td rc)
      let a := c.desc ts
      let x := c.desc td
      s.dev.recordsOk c a (List.range a.count) = true → a.fmt ≤ fS8 → RecordsApart c x →
      Completes (.dq r g true ts td rc .clean) s fun d => ∀ t j, t < a.count → j < a.len →
        lget 0 (d.token c x t) j = (roundTo x.fmt (((elemFin a.fmt (lget 0 (s.dev.token c a t) j)).1 -
          (if a.sref = 1 then zpOf a.fmt (rZp (s.dev.record c a t)) else 0 : Int)) *
          (if a.sref = 1 then f32 (rScale (s.dev.record c a t)) else 1))).1) ∧
    (∀ ts td pm : Nat, IssuesNow s.dev r g (.qconv ts td pm) →
      let c := seen s.dev r g (.qconv ts td pm)
      let a := c.desc ts
      let x := c.desc td
      let q := c.q x.qset
      s.dev.recordsOk c a (List.range a.count) = true → qStatic q = false →
      (∀ t, t < a.count → recOk q (s.dev.record c x t) = true) → qFmt q ≤ fS8 → RecordsApart c x →
      Completes (.qconv r g true ts td pm .clean) s fun d => ∀ t j v, t < a.count → j < a.len →
        elemVal a.fmt (lget 0 (s.dev.token c a t) j) = .num v →
        lget 0 (d.token c x t) j = ux 8 (clampI (qLo q) (qHi q)
          (rna (v / f32 (rScale (s.dev.record c x t))) + zpOf (qFmt q) (rZp (s.dev.record c x t)))))

/-! ### The registers of the DMU, the statistics and the sequencer (chapters 05, 06 and 07) -/

/-- The registers with a latch or a clear of their own (R185, R186, R214, R221, R264): a write of STAT_TAG zeroes the slot's
counters; a read of a low word answers it and latches the pair; the refill gives a stream's reserve what was priced. -/
def Obligations.StatisticsAndLatchesOfARegion : Prop :=
  (∀ (s : State) (who r slot v : Nat), Runs s → MayWrite s.dev who .maintainer → s.dev.dieAccess (r / 6) = stOK → slot < 64 →
    bits v 30 24 = 0 → Completes (.statTagWrite who r slot v) s fun d =>
      tget .reset (d.region r).stats slot =
        { StatSlot.reset with en := bit v 31, tag := bits v 23 0, trigAt := s.dev.real } ∧
      (∀ n, n ≠ slot → tget .reset (d.region r).stats n = tget .reset (s.dev.region r).stats n) ∧
      (d.region r).regs = (s.dev.region r).regs ∧ ∀ q, q ≠ r → d.region q = s.dev.region q) ∧
  (∀ (s : State) (who r slot k : Nat), Runs s → MayRead s.dev who .observer → s.dev.dieAccess (r / 6) = stOK → slot < 64 → k < 3 →
    let x := tget .reset (s.dev.region r).stats slot
    Completes (.statLoRead who r slot k) s fun d =>
      (k = 0 → (tget .reset (d.region r).stats slot).convLatch = x.conv ∧
        (who ≠ 8 → LastReply d who cmdRegRead stOK [x.conv % 2 ^ 32])) ∧
      (k = 1 → (tget .reset (d.region r).stats slot).errLatch = x.errSum ∧
        (who ≠ 8 → LastReply d who cmdRegRead stOK [x.errSum % 2 ^ 32])) ∧
      (k = 2 → (tget .reset (d.region r).stats slot).sigLatch = x.sigSum ∧
        (who ≠ 8 → LastReply d who cmdRegRead stOK [x.sigSum % 2 ^ 32])) ∧
      (tget .reset (d.region r).stats slot).conv = x.conv ∧ ∀ q, q ≠ r → d.region q = s.dev.region q) ∧
  (∀ (s : State) (who r : Nat), Runs s → MayRead s.dev who .observer → s.dev.dieAccess (r / 6) = stOK →
    Completes (.busyCyclesLoRead who r) s fun d =>
      (d.region r).dmu = { (s.dev.region r).dmu with busyLatch := (s.dev.region r).dmu.busyCycles } ∧
      (who ≠ 8 → LastReply d who cmdRegRead stOK [(s.dev.region r).dmu.busyCycles % 2 ^ 32]) ∧
      ∀ q, q ≠ r → d.region q = s.dev.region q) ∧
  (∀ (s : State) (who r : Nat), Runs s → MayRead s.dev who .observer → s.dev.dieAccess (r / 6) = stOK →
    Completes (.trapMerLoRead who r) s fun d =>
      (d.region r).regs = { (s.dev.region r).regs with trapMerLatch := (s.dev.region r).regs.trapMer } ∧
      (who ≠ 8 → LastReply d who cmdRegRead stOK [(s.dev.region r).regs.trapMer % 2 ^ 32]) ∧
      ∀ q, q ≠ r → d.region q = s.dev.region q) ∧
  (∀ (s : State) (n r : Nat), Runs s → (∃ p, p ∈ (s.dev.stream n).programs ∧ p.region = r) →
    Completes (.escBalRefill n) s fun d =>
      tget 0 (d.region r).dmu.escBal n = tget 0 (s.dev.region r).dmu.escPriced n ∧ n ∉ (d.region r).dmu.escSpent ∧
      (∀ m, m ≠ n → tget 0 (d.region r).dmu.escBal m = tget 0 (s.dev.region r).dmu.escBal m) ∧
      (d.region r).regs = (s.dev.region r).regs)

/-! ### Region reset, the sequencer and the tests (chapters 01, 07 and 13) -/

/-- A region reset (R37, R40 to R42, R263): at a bundle boundary the memories, banks and queues are cleared, its tiles are parked with
nothing in flight, the record of it is written, and the region is IDLE when its microcode is verified; within a bundle it waits, and
the forced stop carries it out; inside a wider reset it is discarded and counted. Model's choices: assumption log 38, 39. -/
def Obligations.RegionResetClearsTheRegion : Prop :=
  (∀ (s : State) (r : Nat), Runs s → r < 6 * s.dev.dieCount → s.dev.widerReset (r / 6) = false → (s.dev.region r).staged = [] →
    Completes (.regionReset r) s fun d =>
      (d.region r).regs.st = (if (s.dev.region r).microcode then .idle else .reset) ∧ (d.region r).scratch = [] ∧
      (d.region r).fw = [] ∧ (d.region r).act = [] ∧ (d.region r).arch = [] ∧ (d.region r).imem = [] ∧ (d.region r).held = [] ∧
      (d.region r).pend = [] ∧ (d.region r).xfers = [] ∧ (d.region r).active = false ∧ (d.region r).lost = true ∧
      (d.region r).resetAsked = false ∧ (d.region r).regs.trapCount = (s.dev.region r).regs.trapCount ∧
      (∀ p, ptRegion p = r → (d.tile p).flight = [] ∧ (d.tile p).bursts = [] ∧ (d.tile p).st = .parked) ∧
      (∀ p, ptRegion p ≠ r → (d.tile p).flight = (s.dev.tile p).flight ∧ (d.tile p).bursts = (s.dev.tile p).bursts) ∧
      (∃ f, f ∈ d.flt.log ∧ f.event = 0x09 ∧ f.unitL = unitRegion r ∧ f.action = 0) ∧
      (∀ q, q ≠ r → (d.region q).regs = (s.dev.region q).regs ∧ (d.region q).arch = (s.dev.region q).arch) ∧
      ((s.dev.region r).xfers = [] → d.hbm = s.dev.hbm ∧ OtherRegions s.dev d r)) ∧
  (∀ (s : State) (r : Nat), Runs s → r < 6 * s.dev.dieCount → s.dev.widerReset (r / 6) = false → (s.dev.region r).staged ≠ [] →
    exec (.regionReset r) s = .next (becomes s (s.dev.updRegion r fun g => { g with resetAsked := true }))) ∧
  (∀ (s : State) (r : Nat), Runs s → (s.dev.region r).resetAsked = true → Completes (.regionResetForcedStop r) s fun d =>
      (d.region r).resetAsked = false ∧ (d.region r).staged = [] ∧ (d.region r).scratch = [] ∧ (d.region r).active = false ∧
      (d.region r).regs.st = (if (s.dev.region r).microcode then .idle else .reset) ∧
      (∀ q, q ≠ r → (d.region q).regs = (s.dev.region q).regs ∧ (d.region q).arch = (s.dev.region q).arch) ∧
      ((s.dev.region r).xfers = [] → d.hbm = s.dev.hbm ∧ OtherRegions s.dev d r)) ∧
  (∀ (s : State) (r : Nat), Runs s → r < 6 * s.dev.dieCount → s.dev.widerReset (r / 6) = true →
    exec (.regionReset r) s = .next (becomes s { s.dev with flt := { s.dev.flt with
      discardedResets := s.dev.flt.discardedResets + 1 } }))

/-- An activation start (R53, R55, R224, R226, R260): before its instant nothing starts; from IDLE the region runs its slot at the
entry with empty stacks, late where the instant has passed; over a running activation it overruns it and is late; in a HALTED
region it is kept; with a slot not VALID, in a lost region and in one that is reset or quarantined it is skipped and counted. -/
def Obligations.ActivationStartBeginsTheProgram : Prop :=
  (∀ (s : State) (r slot entry start : Nat), Runs s → s.dev.clk.now < start →
    exec (.activationStart r slot entry start) s = .next (becomes s s.dev)) ∧
  (∀ (s : State) (r slot entry start : Nat), Runs s → r < 6 * s.dev.dieCount → start ≤ s.dev.clk.now →
    (tget ProgSlot.reset (s.dev.region r).ps slot).st = .valid → (s.dev.region r).lost = false →
    ((s.dev.region r).regs.st = .idle → Completes (.activationStart r slot entry start) s fun d =>
      (d.region r).regs.st = .running ∧ (d.region r).regs.slot = slot ∧ (d.region r).active = true ∧
      (d.region r).wait = none ∧ (d.region r).cyc = max (s.dev.region r).cyc s.dev.nowCycle + 8 ∧
      tget .reset (d.region r).arch slot = { tget .reset (s.dev.region r).arch slot with
        pc := (tget ProgSlot.reset (s.dev.region r).ps slot).base + entry, loop := [], ret := [] } ∧
      (tget ProgSlot.reset (d.region r).ps slot).actCount =
        satInc (tget ProgSlot.reset (s.dev.region r).ps slot).actCount ∧
      (d.tb.lateEvents = if start < s.dev.clk.since then satInc s.dev.tb.lateEvents else s.dev.tb.lateEvents) ∧
      SameMemories s.dev d r ∧ OtherRegions s.dev d r ∧ d.tiles = s.dev.tiles ∧ d.hbm = s.dev.hbm) ∧
    ((s.dev.region r).regs.st = .running → Completes (.activationStart r slot entry start) s fun d =>
      (d.region r).regs.st = .running ∧ (d.region r).regs.slot = slot ∧ (d.region r).regs.overrunF = true ∧
      (d.region r).regs.overrunCount = satInc (s.dev.region r).regs.overrunCount ∧ (d.region r).held = [] ∧
      (tget .reset (d.region r).arch slot).pc = (tget ProgSlot.reset (s.dev.region r).ps slot).base + entry ∧
      d.tb.lateEvents = satInc s.dev.tb.lateEvents ∧ d.tb.lateEvent = true ∧
      SameMemories s.dev d r ∧ OtherRegions s.dev d r ∧ d.tiles = s.dev.tiles ∧ d.hbm = s.dev.hbm) ∧
    ((s.dev.region r).regs.st = .halted → Completes (.activationStart r slot entry start) s fun d =>
      (d.region r).regs.st = .halted ∧ tget (0, 0) (d.region r).kept slot = (start, entry) ∧
      (d.region r).regs.startMissedF = true ∧ (d.region r).arch = (s.dev.region r).arch ∧ SameMemories s.dev d r ∧
      OtherRegions s.dev d r ∧ SameOutside s.dev d)) ∧
  (∀ (s : State) (r slot entry start : Nat), Runs s → r < 6 * s.dev.dieCount → start ≤ s.dev.clk.now →
    (tget ProgSlot.reset (s.dev.region r).ps slot).st ≠ .valid ∨ (s.dev.region r).lost = true ∨
      (s.dev.region r).regs.st = .reset ∨ (s.dev.region r).regs.st = .quarantined →
    Completes (.activationStart r slot entry start) s fun d =>
      (d.region r).regs = { (s.dev.region r).regs with startSkipCount := satInc (s.dev.region r).regs.startSkipCount } ∧
      (d.region r).arch = (s.dev.region r).arch ∧ (∃ f rest, d.flt.log = f :: rest ∧ f.unitL = unitRegion r ∧ f.event = 0x12) ∧
      SameMemories s.dev d r ∧ OtherRegions s.dev d r ∧ SameOutside s.dev d)

/-- Traps and their end (R244, R252, R256, R258 to R260, R264, R434): a stall longer than the largest bound of its sources, and a
late trap of a running region, halt it; a late trap of one that yielded or halted is kept; SEQ_CTRL halts, resumes at RESUME_PC,
aborts, quarantines and releases, each refused in RESET; the time-out of a trap quarantines the region; more than 1,250,000
cycles without a yield point are flagged and counted. Model's choices: assumption log 11, 60. -/
def Obligations.TrapsHaltAndSeqCtrlActs : Prop :=
  (∀ (s : State) (r : Nat), Runs s → (s.dev.region r).regs.st = .running → (s.dev.region r).stalls ≠ [] →
    s.dev.stallBound r < s.dev.nowCycle - (s.dev.region r).heldAt → Completes (.stallOverrun r) s fun d =>
      (d.region r).regs.trapF = true ∧ (d.region r).regs.cause = 0x0B ∧ (d.region r).regs.late = false ∧
      (d.region r).regs.trapPc = s.dev.pcOf r ∧ (d.region r).held = [] ∧ (d.region r).stalls = [] ∧
      (.tile ∈ (s.dev.region r).stalls →
        s.dev.nowCycle - (s.dev.region r).heldAt ≤ (d.region r).regs.stallMaxTile) ∧
      (.fabric ∈ (s.dev.region r).stalls →
        s.dev.nowCycle - (s.dev.region r).heldAt ≤ (d.region r).regs.stallMaxFab) ∧
      (.hbm ∈ (s.dev.region r).stalls →
        s.dev.nowCycle - (s.dev.region r).heldAt ≤ (d.region r).regs.stallMaxHbm) ∧
      (d.region r).regs.trapCount = satInc (s.dev.region r).regs.trapCount ∧ SameMemories s.dev d r) ∧
  (∀ (s : State) (r code cl info pc : Nat), Runs s →
    ((s.dev.region r).regs.st = .running → code ≠ 0x01 → code ≠ 0x0B → code ≠ 0x0C →
      Completes (.lateTrap r code cl info pc) s fun d =>
        (d.region r).regs.st = .halted ∧ (d.region r).regs.trapF = true ∧ (d.region r).regs.cause = code ∧
        (d.region r).regs.late = true ∧ (d.region r).regs.slotClass = cl ∧ (d.region r).regs.trapInfo = info % 2 ^ 32 ∧
        (d.region r).regs.faultPc = pc ∧ (d.region r).regs.trapMer = s.dev.mer ∧ SameMemories s.dev d r ∧
        OtherRegions s.dev d r ∧ SameOutside s.dev d) ∧
    ((s.dev.region r).regs.st = .yielded ∨ (s.dev.region r).regs.st = .halted →
      Completes (.lateTrap r code cl info pc) s fun d =>
        (d.region r).lateTraps = (s.dev.region r).lateTraps ++
          [{ code := code, slotClass := cl, late := true, swCode := 0, info := info, faultPc := pc }] ∧
        (d.region r).regs = (s.dev.region r).regs ∧ SameMemories s.dev d r ∧ OtherRegions s.dev d r ∧ SameOutside s.dev d)) ∧
  (∀ (s : State) (r : Nat), Runs s → (s.dev.region r).regs.st = .halted →
    let end_ := ofMer (s.dev.region r).regs.trapMer + usTc (s.dev.region r).regs.trapTimeout
    (end_ ≤ s.dev.clk.now → Completes (.trapTimeoutExpiry r) s fun d =>
      (d.region r).regs.st = .quarantined ∧ (d.region r).lost = true ∧ (d.region r).active = false ∧ d.flt.quarantineF = true ∧
      SameMemories s.dev d r) ∧
    (s.dev.clk.now < end_ → exec (.trapTimeoutExpiry r) s = .next (becomes s s.dev))) ∧
  (∀ (s : State) (who r : Nat), Runs s → MayWrite s.dev who .owner → s.dev.dieAccess (r / 6) = stOK →
    ((s.dev.region r).regs.st = .running → Completes (.seqCtrlHalt who r) s fun d =>
      (d.region r).regs.st = .halted ∧ (d.region r).regs.cause = 0x10 ∧ (d.region r).regs.trapPc = s.dev.pcOf r ∧
      SameMemories s.dev d r ∧ OtherRegions s.dev d r ∧ d.tiles = s.dev.tiles) ∧
    ((s.dev.region r).regs.st = .yielded → Completes (.seqCtrlHalt who r) s fun d =>
      (d.region r).haltAsked = true ∧ (d.region r).regs = (s.dev.region r).regs ∧ SameMemories s.dev d r ∧ OtherRegions s.dev d r ∧
      d.tiles = s.dev.tiles) ∧
    ((s.dev.region r).regs.st = .idle → Completes (.seqCtrlHalt who r) s fun d =>
      (d.region r).regs = { (s.dev.region r).regs with st := .halted } ∧ SameMemories s.dev d r ∧ OtherRegions s.dev d r) ∧
    ((s.dev.region r).regs.st = .halted → (s.dev.region r).active = true → (s.dev.region r).wait = none →
      (s.dev.region r).lateTraps = [] → (s.dev.region r).haltAsked = false → (s.dev.region r).kept = [] →
      Completes (.seqCtrlResume who r) s fun d =>
        (d.region r).regs.st = .running ∧ (d.region r).regs.trapCount = (s.dev.region r).regs.trapCount ∧
        (tget .reset (d.region r).arch (s.dev.region r).regs.slot).pc = (s.dev.region r).regs.resumePc ∧
        (d.region r).cyc = max (s.dev.region r).cyc s.dev.nowCycle ∧
        SameMemories s.dev d r ∧ OtherRegions s.dev d r ∧ d.tiles = s.dev.tiles) ∧
    ((s.dev.region r).regs.st = .halted → (s.dev.region r).active = false → (s.dev.region r).kept = [] →
      Completes (.seqCtrlResume who r) s fun d =>
        (d.region r).regs = { (s.dev.region r).regs with st := .idle } ∧ SameMemories s.dev d r ∧ OtherRegions s.dev d r ∧
        d.tiles = s.dev.tiles) ∧
    ((s.dev.region r).regs.st = .halted → (s.dev.region r).kept = [] → Completes (.seqCtrlAbort who r) s fun d =>
      (d.region r).regs.st = .idle ∧ (d.region r).active = false ∧ (d.region r).lateTraps = [] ∧ SameMemories s.dev d r ∧
      OtherRegions s.dev d r ∧ d.tiles = s.dev.tiles) ∧
    ((s.dev.region r).regs.st = .halted ∨ (s.dev.region r).regs.st = .idle → Completes (.seqCtrlQuarantine who r) s fun d =>
      (d.region r).regs.st = .quarantined ∧ (d.region r).lost = true ∧ SameMemories s.dev d r) ∧
    ((s.dev.region r).regs.st = .quarantined → Completes (.seqCtrlRelease who r) s fun d =>
      (d.region r).regs.st = (if (s.dev.region r).microcode then .idle else .reset) ∧
      (d.region r).lost = (s.dev.region r).unloaded ∧ SameMemories s.dev d r ∧ OtherRegions s.dev d r ∧
      d.tiles = s.dev.tiles)) ∧
  (∀ (s : State) (who r : Nat), Runs s → MaySend s.dev who cmdRegWrite .owner → s.dev.dieAccess (r / 6) = stOK →
    (s.dev.region r).regs.st = .reset →
    let refused (i : Instr) : Prop := Completes i s fun d =>
      d.regions = s.dev.regions ∧ LastReply d who cmdRegWrite stWrongState []
    refused (.seqCtrlHalt who r) ∧ refused (.seqCtrlResume who r) ∧ refused (.seqCtrlAbort who r) ∧
      refused (.seqCtrlQuarantine who r) ∧ refused (.seqCtrlRelease who r)) ∧
  (∀ (s : State) (r : Nat), Runs s → (s.dev.region r).active = true → (s.dev.region r).gapSeen = false →
    1250000 < s.dev.gapNow r → Completes (.yieldGap r) s fun d =>
      (d.region r).regs.yieldGapF = true ∧ (d.region r).regs.yieldGapCount = satInc (s.dev.region r).regs.yieldGapCount ∧
      (d.region r).gapSeen = true ∧ SameMemories s.dev d r)

/-- Tests of a unit (R248 to R250, R253, R429, R442, R444): a test of a region that falls due is queued once; the first starts at
an idle region, or in a wait, when its length and 2 µs fit before the next activation start or in the wait; the end of a part of a
test takes the region out of YIELDED, a failed test of a region quarantines it; once the offer has passed, its expiry goes on with
issue; a test two hold periods past its due time is marked overdue and counted once; a full set not complete at the period's end
is reported. Model's choices: assumption log 61. -/
def Obligations.TestsRunInTheirRegion : Prop :=
  (∀ (s : State) (r code part : Nat), Runs s → r < 6 * s.dev.dieCount → r < 48 → 5 ≤ code → code ≤ 8 →
    ((s.dev.region r).tests.any fun t => t.unit = unitRegion r && t.code = code && t.part = part) = false →
    Completes (.testDue (unitRegion r) code part) s fun d =>
      (∃ t, (d.region r).tests = (s.dev.region r).tests ++ [t] ∧ t.unit = unitRegion r ∧ t.code = code ∧ t.part = part ∧
        t.dueAt = s.dev.real ∧ t.overdue = false ∧
        t.len = (if code = 5 then 120 else if code = 6 ∨ code = 7 then 400 else 20)) ∧
      (d.region r).regs = (s.dev.region r).regs ∧ OtherRegions s.dev d r ∧ SameOutside s.dev d) ∧
  (∀ (s : State) (r : Nat) (t : TestEntry) (rest : List TestEntry), Runs s → (s.dev.region r).tests = t :: rest →
    let room : Prop := ((s.dev.region r).regs.st = .idle ∧ ∀ x, x ∈ s.dev.startsIn r → s.dev.clk.now + usTc (t.len + 2) ≤ x) ∨
      ((s.dev.region r).regs.st = .running ∧ (s.dev.region r).wait.isSome = true ∧ t.len + 2 ≤ s.dev.waitRoom r)
    (room → Completes (.testStart r t.code) s fun d =>
      (d.region r).running = some t ∧ (d.region r).tests = rest ∧ (d.region r).regs.st = .yielded ∧
      (d.region r).yieldedFrom = false ∧ SameMemories s.dev d r ∧ OtherRegions s.dev d r ∧ SameOutside s.dev d) ∧
    (¬ room → exec (.testStart r t.code) s = .next (becomes s s.dev))) ∧
  (∀ (s : State) (r detail : Nat) (t : TestEntry), Runs s → (s.dev.region r).running = some t →
    (s.dev.region r).regs.st = .yielded → (s.dev.region r).active = false →
    ((partOnly t.code t.part = true) → (s.dev.region r).lateTraps = [] → (s.dev.region r).haltAsked = false →
      ∀ pass, Completes (.testEnd r pass detail) s fun d =>
        (d.region r).running = none ∧ (d.region r).regs.st = .idle ∧ SameMemories s.dev d r ∧ OtherRegions s.dev d r ∧
        SameOutside s.dev d) ∧
    (partOnly t.code t.part = false → unitLevel t.unit = 2 → testRegion t.unit = r →
      Completes (.testEnd r false detail) s fun d =>
        (d.region r).running = none ∧ (d.region r).regs.st = .quarantined ∧ (d.region r).health = .faulty ∧
        d.flt.testFailF = true ∧ SameMemories s.dev d r)) ∧
  (∀ (s : State) (r : Nat), Runs s → (s.dev.region r).regs.st = .yielded → (s.dev.region r).yieldedFrom = true →
    (s.dev.region r).active = true → (s.dev.region r).held = [] → (s.dev.region r).lateTraps = [] →
    (s.dev.region r).haltAsked = false →
    (s.dev.region r).offerEnd ≤ s.dev.real → Completes (.yieldOfferExpiry r) s fun d =>
      (d.region r).running = none ∧ (d.region r).regs.st = .running ∧ (d.region r).yieldedFrom = false ∧
      SameMemories s.dev d r ∧ OtherRegions s.dev d r ∧ SameOutside s.dev d) ∧
  (∀ (s : State) (r : Nat), Runs s → s.dev.real < (s.dev.region r).offerEnd →
    exec (.yieldOfferExpiry r) s = .next (becomes s s.dev)) ∧
  (∀ (s : State) (r i : Nat) (t : TestEntry), Runs s → (s.dev.region r).tests[i]? = some t → t.overdue = false →
    (s.dev.pastHold r t = true → Completes (.testOverdue r i) s fun d =>
      (d.region r).tests[i]? = some { t with overdue := true } ∧ (d.region r).regs.testOverdueF = true ∧
      (d.region r).regs.testOverdueCount = satInc (s.dev.region r).regs.testOverdueCount ∧
      (∃ f rest, d.flt.log = f :: rest ∧ f.event = 0x08 ∧ f.unitP = t.unit ∧ f.detail = t.code) ∧
      SameMemories s.dev d r ∧ OtherRegions s.dev d r ∧ SameOutside s.dev d) ∧
    (s.dev.pastHold r t = false → exec (.testOverdue r i) s = .next (becomes s s.dev))) ∧
  (∀ (s : State) (r : Nat), Runs s → r < 6 * s.dev.dieCount → r < 48 →
    (s.dev.regionPeriodOver r = true → (s.dev.region r).setFull = false →
      Completes (.testPeriodEnd (unitRegion r)) s fun d =>
        (∃ f rest, d.flt.log = f :: rest ∧ f.event = 0x08 ∧ f.unitL = unitRegion r ∧
          f.detail = missingCodes regionSet (s.dev.region r).setDone) ∧
        d.region r = { s.dev.region r with periodAt := s.dev.real } ∧ OtherRegions s.dev d r ∧ SameOutside s.dev d) ∧
    (s.dev.regionPeriodOver r = true → (s.dev.region r).setFull = true →
      exec (.testPeriodEnd (unitRegion r)) s = .next (becomes s (s.dev.updRegion r fun g =>
        { g with periodAt := s.dev.real, setFull := false }))) ∧
    (s.dev.regionPeriodOver r = false → exec (.testPeriodEnd (unitRegion r)) s = .next (becomes s s.dev))) ∧
  (∀ (s : State) (u : Nat), Runs s → unitLevel u = 0 → s.dev.tilePeriodOver (unitPtOf u) = false →
    exec (.testPeriodEnd u) s = .next (becomes s s.dev))

/-! ### Results at the hub (chapters 08, 10 and 13) -/

/-- EGRESS data at the hub (R290, R291, R437): the oldest packet of a region takes the stream's next sequence number and a
ledger entry at the slot its instant names, due already and counted late where the instant has passed; an instant that names no slot
raises a late ILLEGAL_OPERAND in a running region; the hub takes nothing from a die that is fenced. Model's choices: assumption log
12. -/
def Obligations.EgressDataTakesALedgerEntry : Prop :=
  ∀ (s : State) (r : Nat) (p : EgressPacket), Runs s → s.dev.fab.egress.find? (fun p => p.region = r) = some p →
    (∀ k, s.dev.dieLive (r / 6) = true → (s.dev.stream p.frame.stream).slotAt p.instant = some k → s.dev.clk.since ≤ p.instant →
      Completes (.egressDataArrival r) s fun d =>
        d.fab.egress = s.dev.fab.egress.erase p ∧
        (d.stream p.frame.stream).nextSeq = ((s.dev.stream p.frame.stream).nextSeq + 1) % 2 ^ 32 ∧
        (∃ e, d.adm.ledger = s.dev.adm.ledger ++ [e] ∧ e.slot = k ∧ e.instant = p.instant ∧ e.arrived = s.dev.clk.now ∧
          e.frame.stream = p.frame.stream ∧ e.frame.seq = (s.dev.stream p.frame.stream).nextSeq ∧
          e.frame.body = p.frame.body ∧ e.verdict = none ∧ e.sent = false ∧ e.due = false ∧
          e.counted = decide (s.dev.ledgerOf p.frame.stream < (s.dev.stream p.frame.stream).ledger)) ∧
        d.out = s.dev.out ∧ d.regions = s.dev.regions ∧ d.tiles = s.dev.tiles ∧ d.hbm = s.dev.hbm) ∧
    (∀ k, s.dev.dieLive (r / 6) = true → (s.dev.stream p.frame.stream).slotAt p.instant = some k → p.instant < s.dev.clk.since →
      Completes (.egressDataArrival r) s fun d =>
        d.fab.egress = s.dev.fab.egress.erase p ∧
        (d.stream p.frame.stream).nextSeq = ((s.dev.stream p.frame.stream).nextSeq + 1) % 2 ^ 32 ∧
        d.tb.lateEvents = satInc s.dev.tb.lateEvents ∧
        (d.region r).regs.egressLateCount = satInc (s.dev.region r).regs.egressLateCount ∧ d.tiles = s.dev.tiles ∧
        d.hbm = s.dev.hbm) ∧
    (s.dev.dieLive (r / 6) = true → (s.dev.stream p.frame.stream).slotAt p.instant = none → (s.dev.region r).regs.st = .running →
      Completes (.egressDataArrival r) s fun d =>
        d.fab.egress = s.dev.fab.egress.erase p ∧ d.adm = s.dev.adm ∧ (d.region r).regs.st = .halted ∧
        (d.region r).regs.cause = 0x03 ∧ (d.region r).regs.late = true ∧ (d.region r).regs.faultPc = p.pc ∧
        SameMemories s.dev d r ∧ OtherRegions s.dev d r ∧ d.tiles = s.dev.tiles ∧ d.hbm = s.dev.hbm) ∧
    (s.dev.dieLive (r / 6) = false → Completes (.egressDataArrival r) s fun d =>
        d.fab.egress = s.dev.fab.egress.erase p ∧ d.adm = s.dev.adm ∧ d.out = s.dev.out ∧ d.regions = s.dev.regions ∧
        d.tiles = s.dev.tiles ∧ d.hbm = s.dev.hbm)

/-- Verdicts, egress instants and SEAL (R53, R54, R335, R420 to R422, R424): a result that no taint covers passes, a FAIL is counted, and
both wait where nothing is due; before its instant, or out of its place among the cycle's events, no egress takes place; an
instant with no result sends an absent frame with the next number; a closed group that is complete ends
with its SEAL, after a RECALL when a frame failed. Model's choices: assumption log 67. -/
def Obligations.VerdictsInstantsAndSeals : Prop :=
  (∀ (s : State) (st seq : Nat) (e : LedgerEntry), Runs s →
    s.dev.adm.ledger.find? (fun x => x.isOf st seq && x.verdict.isNone && decide (x.arrived + nsTc 120 ≤ s.dev.clk.now)) = some e →
    (s.dev.stream st).cutThrough = true ∨ (∀ x, x ∈ s.dev.adm.ledger → x.frame.stream = st → x.due = false) →
    Completes (.resultVerdict st seq) s fun d =>
      d.adm.ledger = (s.dev.adm.ledger.map fun y => if y.isOf st seq then
        { y with verdict := some (!(s.dev.stream st).tainted e.arrived) } else y) ∧
      d.flt.failResultCount = (if (s.dev.stream st).tainted e.arrived then satInc s.dev.flt.failResultCount
        else s.dev.flt.failResultCount) ∧ d.out = s.dev.out ∧ d.regions = s.dev.regions ∧ d.tiles = s.dev.tiles) ∧
  (∀ (s : State) (st seq : Nat), Runs s → (∀ e, e ∈ s.dev.adm.ledger → s.dev.clk.now < e.arrived + nsTc 120) →
    exec (.resultVerdict st seq) s = .next (becomes s s.dev)) ∧
  (∀ (s : State) (st k i : Nat), Runs s → s.dev.clk.now < i ∨ s.dev.inOrder unitPackage ordEgress = false →
    exec (.egressInstant st k i) s = .next (becomes s s.dev)) ∧
  (∀ (s : State) (st k i : Nat) (z : EgressSlot), Runs s → i ≤ s.dev.clk.now → s.dev.inOrder unitPackage ordEgress = true →
    (s.dev.stream st).st = .active →
    (s.dev.stream st).slotAt i = some k → (s.dev.stream st).egress[k]? = some z →
    (∀ e, e ∈ s.dev.adm.ledger → e.frame.stream = st → e.slot = k → e.instant = i → e.sent = true) →
    Completes (.egressInstant st k i) s fun d =>
      (d.stream st).nextSeq = ((s.dev.stream st).nextSeq + 1) % 2 ^ 32 ∧ d.adm.ledger = s.dev.adm.ledger ∧
      ((s.dev.port z.port).up = true → d.adm.absentCount = satInc s.dev.adm.absentCount ∧
        ∃ f, d.out = .result z.port f :: s.dev.out ∧ f.stream = st ∧ f.seq = (s.dev.stream st).nextSeq ∧
          f.mer = merOf i ∧ f.tokens = 0 ∧ f.body = [] ∧ bit f.flags 3 = true) ∧
      ((s.dev.port z.port).up = false → d.out = s.dev.out ∧ d.dp.downDrops = satInc s.dev.dp.downDrops) ∧
      d.regions = s.dev.regions ∧ d.tiles = s.dev.tiles) ∧
  (∀ (s : State) (st g : Nat) (e : LedgerEntry) (l : List LedgerEntry), Runs s → (s.dev.stream st).cutThrough = true →
    s.dev.groupDone st g = true →
    (s.dev.adm.ledger.filter fun e => e.frame.stream = st && e.frame.group = g).insertionSort
      (fun a b => a.frame.gidx ≤ b.frame.gidx) = e :: l →
    let port := ((s.dev.stream st).egress.getD e.slot ⟨0, 0, 0, 0, 0, 0⟩).port
    let failed := (e :: l).filter fun x => x.verdict = some false
    let mask := maskOf (failed.map fun x => x.frame.gidx)
    Completes (.sealFrame st g) s fun d =>
      d.adm.ledger = s.dev.adm.ledger.filter (fun e => !(e.frame.stream = st && e.frame.group = g)) ∧ d.regions = s.dev.regions ∧
      ((s.dev.port port).up = true → d.flt.sealCount = satInc s.dev.flt.sealCount ∧
        (mask = 0 → d.flt.recallCount = s.dev.flt.recallCount ∧
          d.out = .sealFrame port st g e.frame.mer (l.length + 1) 0 :: s.dev.out) ∧
        (mask ≠ 0 → d.flt.recallCount = satInc s.dev.flt.recallCount ∧
          d.out = .sealFrame port st g e.frame.mer (l.length + 1) mask ::
            .recall port st g e.frame.mer (l.length + 1) mask (failed.map fun x => x.frame.seq) :: s.dev.out)) ∧
      ((s.dev.port port).up = false → d.out = s.dev.out ∧ d.dp.downDrops = satInc s.dev.dp.downDrops))

/-! ### Admission (chapter 10) -/

/-- The engine takes the request at the head of its queue (R314, R316, R321, R322, R330): a claim that a check refuses is
REFUSED with its reason and changes nothing else admitted; an accepted claim's stream is ADMITTED with its guarantee; a
release begins RELEASING; the bank exchange makes a stream ACTIVE at its frame; a stream whose ends have come is FREE.
Model's choices: assumption log 4, 72. -/
def Obligations.AdmissionTakesRequestsInOrder : Prop :=
  (∀ (s : State) (st tag : Nat) (rest : List EngineRequest) (c : ClaimConv) (why : ClaimRefusal), Runs s →
    s.dev.adm.queue = .claim st tag :: rest →
    s.dev.adm.convs.find? (fun c => c.stream = st && c.tag = tag && c.st = .queued) = some c →
    ({ s.dev with adm := { s.dev.adm with queue := rest } } : Device).checkClaim c = some why →
    Completes .claimEvaluation s fun d =>
      d.adm.queue = rest ∧ d.adm.streams = s.dev.adm.streams ∧ d.regions = s.dev.regions ∧ d.dp = s.dev.dp ∧
      (∀ x, x ∈ d.adm.convs → x.stream = st → x.tag = tag → x.st = .refused ∧ x.refusal = some why)) ∧
  (∀ (s : State) (st tag : Nat) (rest : List EngineRequest) (c : ClaimConv), Runs s → s.dev.adm.queue = .claim st tag :: rest →
    s.dev.adm.convs.find? (fun c => c.stream = st && c.tag = tag && c.st = .queued) = some c →
    ({ s.dev with adm := { s.dev.adm with queue := rest } } : Device).checkClaim c = none →
    Completes .claimEvaluation s fun d =>
      d.adm.queue = rest ∧ (d.stream st).st = .admitted ∧ (d.stream st).guarantee = true ∧ (d.stream st).tag = c.header.tag ∧
      (d.stream st).startFrame = max c.header.startFrame s.dev.earliestFrame ∧
      d.adm.exchangeFrame = some (max c.header.startFrame s.dev.earliestFrame) ∧
      (∀ n, n ≠ st → d.stream n = s.dev.stream n) ∧ d.tiles = s.dev.tiles ∧ d.hbm = s.dev.hbm ∧ d.clusters = s.dev.clusters) ∧
  (∀ (s : State) (who st tag : Nat) (rest : List EngineRequest), Runs s → s.dev.adm.queue = .release who st tag :: rest →
    (s.dev.stream st).st = .active → (s.dev.stream st).tag = tag → Completes .claimEvaluation s fun d =>
      d.adm.queue = rest ∧ (d.stream st).st = .releasing ∧
      (d.stream st).removeFrame = (s.dev.clk.now + 1966080 + 19660799) / 19660800 ∧
      (∀ n, n ≠ st → d.stream n = s.dev.stream n) ∧ d.regions = s.dev.regions) ∧
  (∀ (s : State) (n : Nat), Runs s → n < 256 → (s.dev.stream n).st = .admitted →
    Completes .almanacBankExchange s fun d =>
      (d.stream n).st = (if (s.dev.stream n).startFrame ≤ s.dev.clk.frame then .active else .admitted) ∧
      d.regions = s.dev.regions ∧ d.tiles = s.dev.tiles) ∧
  (∀ (s : State) (n : Nat), Runs s → (s.dev.stream n).st = .releasing → (s.dev.stream n).entriesGone = true →
    s.dev.streamRuns n = false → s.dev.ledgerOf n = 0 → Completes (.streamFree n) s fun d =>
      (d.stream n).st = .free ∧ (∀ m, m ≠ n → (d.stream m).st = (s.dev.stream m).st) ∧
      (∀ e, e ∈ d.hbm.contexts → e.1 ≠ n) ∧ d.hbm.mem = s.dev.hbm.mem) ∧
  (∀ (s : State) (n : Nat), Runs s → (s.dev.stream n).st ≠ .releasing →
    exec (.streamFree n) s = .next (becomes s s.dev))

/-- PKG_LIMIT, the package power and the dark slots (R325, R339, R347, R565): a limit in the grade's range under which the
admitted power fits is taken, one it does not fit is refused with POWER_BUDGET; a power above the limit is flagged and
reported; a dark slot is granted at its instant, and ends at its end. Model's choices: assumption log 71. -/
def Obligations.PowerLimitAndDarkSlots : Prop :=
  (∀ (s : State) (who v : Nat), Runs s → MayWrite s.dev who .operator → v < 1024 → pkgMinOf s.dev.sec.grade ≤ v →
    v ≤ pkgMaxOf s.dev.sec.grade →
    (s.dev.powerUsed ≤ v * 1000 * (32 - s.dev.therm.k) / 32 → Completes (.pkgLimitWrite who v) s fun d =>
      d.adm.pkgLimit = v ∧ d.adm.streams = s.dev.adm.streams ∧ d.regions = s.dev.regions) ∧
    (v * 1000 * (32 - s.dev.therm.k) / 32 < s.dev.powerUsed → Completes (.pkgLimitWrite who v) s fun d =>
      d.adm.pkgLimit = s.dev.adm.pkgLimit ∧ d.regions = s.dev.regions ∧
      (who ≠ 8 → LastReply d who cmdRegWrite stPower []))) ∧
  (∀ (s : State) (mw : Nat), Runs s → Completes (.pkgPowerUpdate mw) s fun d =>
    d.therm.pkgPower = mw ∧ d.therm.k = s.dev.therm.k ∧ d.adm = s.dev.adm ∧
    (mw ≤ s.dev.adm.pkgLimit * 1000 → d.therm.overReportedAt = none ∧ d.flt = s.dev.flt) ∧
    (s.dev.adm.pkgLimit * 1000 < mw → s.dev.therm.pkgPower ≤ s.dev.adm.pkgLimit * 1000 → s.dev.therm.overReportedAt = none →
      d.therm.overLimitF = true ∧ d.therm.overReportedAt = some s.dev.real ∧
      ∃ f rest, d.flt.log = f :: rest ∧ f.event = 0x19 ∧ f.unitL = unitPackage ∧ f.detail = min mw 0xFFFFFFFF)) ∧
  (∀ (s : State) (who r v : Nat), Runs s → MayWrite s.dev who .operator → r < 48 → r / 6 < s.dev.dieCount → v < 128 →
    (v = 0 ∨ v < (tget (0, 0, 0) s.dev.adm.dark r).2.1) → Completes (.regionDarkWrite who r 1 v) s fun d =>
      tget (0, 0, 0) d.adm.dark r =
        ((tget (0, 0, 0) s.dev.adm.dark r).1, (tget (0, 0, 0) s.dev.adm.dark r).2.1, v) ∧
      (∀ q, q ≠ r → tget (0, 0, 0) d.adm.dark q = tget (0, 0, 0) s.dev.adm.dark q) ∧ d.adm.streams = s.dev.adm.streams) ∧
  (∀ (s : State) (who r v : Nat), Runs s → MayWrite s.dev who .operator → r < 48 → r / 6 < s.dev.dieCount → v < 2 ^ 27 →
    (bits v 19 0 = 0 ∨ (1 ≤ bits v 26 20 ∧ bits v 26 20 ≤ 100)) →
    let x : Nat × Nat × Nat := (bits v 19 0, bits v 26 20, (tget (0, 0, 0) s.dev.adm.dark r).2.2)
    let meets : Bool := (s.dev.regionWindows r).any fun a =>
      ({ s.dev with adm := { s.dev.adm with dark := tset s.dev.adm.dark r x } } : Device).meetsDark r a
    Completes (.regionDarkWrite who r 0 v) s fun d =>
      (meets = false → tget (0, 0, 0) d.adm.dark r = x) ∧
      (meets = true → d.adm = s.dev.adm ∧ (who ≠ 8 → LastReply d who cmdRegWrite stNoCapacity [])) ∧
      (∀ q, q ≠ r → tget (0, 0, 0) d.adm.dark q = tget (0, 0, 0) s.dev.adm.dark q)) ∧
  (∀ (s : State) (u : Nat), Runs s → s.dev.mayBeDark u = true → u ∉ s.dev.adm.darkNow → s.dev.inOrder u ordDark = true →
    (s.dev.darkSpan u).1 ≤ s.dev.clk.now → s.dev.clk.now < (s.dev.darkSpan u).2 → Completes (.darkSlotStart u) s fun d =>
    d.adm.darkNow = u :: s.dev.adm.darkNow ∧ d.adm.streams = s.dev.adm.streams ∧ d.regions = s.dev.regions ∧
    d.tiles = s.dev.tiles) ∧
  (∀ (s : State) (u : Nat), Runs s → u ∈ s.dev.adm.darkNow → s.dev.inOrder u ordDark = true →
    (s.dev.darkSpan u).2 ≤ s.dev.clk.now → Completes (.darkSlotEnd u) s fun d =>
    u ∉ d.adm.darkNow ∧ (∀ x, x ≠ u → (x ∈ d.adm.darkNow ↔ x ∈ s.dev.adm.darkNow)) ∧ d.adm.streams = s.dev.adm.streams ∧
    d.regions = s.dev.regions ∧ d.tiles = s.dev.tiles) ∧
  (∀ (s : State) (u : Nat), Runs s →
    (s.dev.clk.now < (s.dev.darkSpan u).1 → exec (.darkSlotStart u) s = .next (becomes s s.dev)) ∧
    (s.dev.clk.now < (s.dev.darkSpan u).2 → exec (.darkSlotEnd u) s = .next (becomes s s.dev)))

/-! ### The fabric (chapter 11) -/

/-- Slot boundaries, packets and notices (R54, R55, R352, R355, R363, R469): a round's boundary, in its place among the cycle's events,
empties a region's injection queues but those of a flow that has no slot in it, late where the round began on an earlier cycle; a packet is sent again once and its second loss is reported; notices not acknowledged for 250 ms go out again, at most 8 times. -/
def Obligations.BoundariesAndResends : Prop :=
  (∀ (s : State) (r : Nat), Runs s → (s.dev.region r).held = [] → s.dev.inOrder (unitRegion r) ordSlot = true →
    Completes (.fabricSlotBoundary r) s fun d =>
      (d.region r).inject = ((s.dev.region r).inject.filter fun e => (s.dev.queuesKept r).contains e.1) ∧ (d.region r).regs = (s.dev.region r).regs ∧ SameMemories s.dev d r ∧ OtherRegions s.dev d r ∧
      d.clk = { s.dev.clk with done := (unitRegion r, ordSlot) :: s.dev.clk.done } ∧
      d.tb.lateEvents = (if s.dev.roundStart < s.dev.clk.since then satInc s.dev.tb.lateEvents else s.dev.tb.lateEvents) ∧
      d.tiles = s.dev.tiles ∧ d.hbm = s.dev.hbm ∧ d.adm = s.dev.adm ∧ d.fab = s.dev.fab) ∧
  (∀ (s : State) (r : Nat), Runs s → s.dev.inOrder (unitRegion r) ordSlot = false →
    exec (.fabricSlotBoundary r) s = .next (becomes s s.dev)) ∧
  (∀ (s : State) (u k : Nat), Runs s →
    (s.dev.fab.beResent.contains (u, k) = false → Completes (.bePacketTimeout u k) s fun d =>
      d.fab.beResent = s.dev.fab.beResent ++ [(u, k)] ∧ d.flt = s.dev.flt ∧ d.regions = s.dev.regions) ∧
    (s.dev.fab.beResent.contains (u, k) = true → Completes (.bePacketTimeout u k) s fun d =>
      (u, k) ∉ d.fab.beResent ∧ (∃ f rest, d.flt.log = f :: rest ∧ f.event = 0x13 ∧ f.unitP = u ∧ f.detail = 363) ∧
      d.regions = s.dev.regions)) ∧
  (∀ (s : State) (n : Nat), Runs s → s.dev.served n = true → Completes (.noticeResend n) s fun d =>
    (d.session n).notices = ((s.dev.session n).notices.filter fun x => !x.due s.dev.real || decide (x.sends < 8)).map
      (fun x => if x.due s.dev.real then { x with sends := x.sends + 1, sentAt := s.dev.real } else x) ∧
    (∀ x, x ∈ (s.dev.session n).notices → x.sends < 8 → x.sentAt + msTc 250 ≤ s.dev.real → Out.notice n x.nSeq ∈ d.out) ∧ d.adm = s.dev.adm ∧
    d.regions = s.dev.regions)

/-- Links (R364 to R367, R369, R375): a bad frame is counted and replayed; the threshold starts a retrain that detours the
fabric; a passed qualification brings the link UP, a first failure starts another retrain, a second fences; RETRAIN is
refused on a FENCED link, and UNFENCE retrains it. Model's choices: assumption log 73. -/
def Obligations.LinksRetrainAndFence : Prop :=
  (∀ (s : State) (n far : Nat), Runs s → (s.dev.link n).st = .up → far ≤ 1 →
    let e := (s.dev.link n).endOf (far = 1)
    Completes (.linkFrameReceive n far true false) s (fun d =>
      (d.link n).st = .up ∧ ((d.link n).endOf (far = 1)).errCount = e.errCount ∧ (∀ m, m ≠ n → d.link m = s.dev.link m) ∧
      d.flt = s.dev.flt ∧ d.regions = s.dev.regions) ∧
    (e.frames + 1 < 2 ^ s.dev.fab.errWindow → satInc e.errWin < s.dev.fab.errThr →
      Completes (.linkFrameReceive n far false false) s (fun d =>
        (d.link n).st = .up ∧ ((d.link n).endOf (far = 1)).errCount = satInc e.errCount ∧
        ((d.link n).endOf (far = 1)).replayCount = satInc e.replayCount ∧
        ((d.link n).endOf (far = 1)).errWin = satInc e.errWin ∧ (∀ m, m ≠ n → d.link m = s.dev.link m) ∧
        d.flt = s.dev.flt ∧ d.regions = s.dev.regions)) ∧
    (e.frames + 1 < 2 ^ s.dev.fab.errWindow → s.dev.fab.errThr ≤ satInc e.errWin → 8 ≤ n ∨ s.dev.neighbourRetrains n = false →
      (s.dev.link n).retrains = [] →
      1 < s.dev.fab.fenceRetrains →
      Completes (.linkFrameReceive n far false false) s (fun d =>
        (d.link n).st = .retraining ∧ ((d.link n).endOf (far = 1)).thrHitF = true ∧
        ((d.link n).endOf (far = 1)).retrainCount = satInc e.retrainCount ∧ (d.link n).retrains = [s.dev.real] ∧
        d.fab.detourF = true ∧ (∀ m, m ≠ n → d.link m = s.dev.link m)))) ∧
  (∀ (s : State) (n k : Nat), Runs s → (s.dev.link n).st = .retraining →
    (k ≤ s.dev.fab.errThr / 4 → Completes (.retrainComplete n k) s (fun d =>
      (d.link n).st = .up ∧ (d.link n).fails = 0 ∧ (d.link n).near.retrainedF = true ∧ ∀ m, m ≠ n → d.link m = s.dev.link m)) ∧
    (s.dev.fab.errThr / 4 < k → (s.dev.link n).fails = 0 → (s.dev.link n).retrains = [] → 1 < s.dev.fab.fenceRetrains →
      8 ≤ n ∨ s.dev.neighbourRetrains n = false → Completes (.retrainComplete n k) s (fun d => (d.link n).st = .retraining ∧ (d.link n).fails = 1)) ∧
    (s.dev.fab.errThr / 4 < k → (s.dev.link n).fails ≠ 0 → 8 ≤ n → Completes (.retrainComplete n k) s (fun d =>
      (d.link n).st = .fenced ∧ (d.link n).near.fencedF = true ∧ ∀ m, m ≠ n → d.link m = s.dev.link m)) ∧
    (s.dev.fab.errThr / 4 < k → (s.dev.link n).fails ≠ 0 → n < 8 → n < s.dev.dieCount →
      Completes (.retrainComplete n k) s (fun d =>
      (d.link n).st = .fenced ∧ n ∈ d.flt.fenced))) ∧
  (∀ (s : State) (who n far : Nat) (need : Role), Runs s → MayWrite s.dev who need → far ≤ 1 → s.dev.linkExists n = true →
    (n < 8 ∧ far = 0) ∨
      s.dev.dieAccess (if n < 8 then n else if far = 1 then (n + 1) % s.dev.dieCount else n % 8) = stOK →
    (need = .owner → (s.dev.link n).st = .fenced → Completes (.linkCtrlUnfence who n far) s (fun d =>
      (d.link n).st = .retraining ∧ (d.link n).fails = 0 ∧ (d.link n).retrains = [s.dev.real] ∧
      (∀ m, m ≠ n → d.link m = s.dev.link m) ∧ d.regions = s.dev.regions)) ∧
    (need = .maintainer → (s.dev.link n).st = .fenced → Completes (.linkCtrlRetrain who n far) s (fun d =>
      d.fab = s.dev.fab ∧ d.regions = s.dev.regions ∧ (who ≠ 8 → LastReply d who cmdRegWrite stWrongState []))) ∧
    (need = .maintainer → (s.dev.link n).st = .up → (s.dev.link n).retrains = [] → 1 < s.dev.fab.fenceRetrains →
      8 ≤ n ∨ s.dev.neighbourRetrains n = false → Completes (.linkCtrlRetrain who n far) s (fun d =>
      (d.link n).st = .retraining ∧
      ((d.link n).endOf (far = 1)).retrainCount = satInc ((s.dev.link n).endOf (far = 1)).retrainCount ∧
      d.fab.detourF = true ∧ ∀ m, m ≠ n → d.link m = s.dev.link m)))

/-- The reset of a router (R370, R371, R373, R374, R376): of a region out of service it detours, or waits while a link of the
die retrains; the slots move, those that the detour does not hold being lost, the drain ends with what is left counted, the links train, and the router rejoins when the
region is in service. Model's choices: assumption log 74. -/
def Obligations.RouterResetGoesThroughItsStates : Prop :=
  (∀ (s : State) (who r : Nat), Runs s → MayWrite s.dev who .owner → s.dev.dieAccess (r / 6) = stOK →
    ((s.dev.region r).outOfService = false → Completes (.routerCtrlReset who r) s fun d =>
      d.regions = s.dev.regions ∧ d.fab = s.dev.fab ∧ (who ≠ 8 → LastReply d who cmdRegWrite stWrongState [])) ∧
    ((s.dev.region r).outOfService = true →
      (∀ g, g < 6 → (s.dev.region (6 * (r / 6) + g)).router.st = .in_ ∧
        (s.dev.region (6 * (r / 6) + g)).router.resetAsked = false) →
      Completes (.routerCtrlReset who r) s fun d =>
        (d.region r).router = (if s.dev.linksQuiet (r / 6) then { st := .detouring, detour := false, resetAsked := false, since := s.dev.clk.now }
          else { (s.dev.region r).router with resetAsked := true }) ∧
        d.fab.detourF = (s.dev.linksQuiet (r / 6) || s.dev.fab.detourF) ∧ OtherRegions s.dev d r)) ∧
  (∀ (s : State) (r : Nat), Runs s → (s.dev.region r).router.st = .detouring →
    let at_ := (s.dev.region r).router.movesAt
    at_ ≤ s.dev.clk.now → s.dev.inOrder (unitRegion r) ordSlot = true →
    let here : Device := { s.dev with clk := { s.dev.clk with done := (unitRegion r, ordSlot) :: s.dev.clk.done } }
    let due : Device := here.onTime at_ (unitRegion r) (unitRegion r) 0x1FF
    let e : Device := due.updRegion r fun g => { g with router := { g.router with st := .draining, detour := true } }
    Completes (.routerSlotMove r at_) s fun d =>
      (d.region r).router.st = .draining ∧ (d.region r).router.detour = true ∧
      d.fab.lostSlots = s.dev.fab.lostSlots ++
        ((due.streamsOver (FabLink.isRouter r)).filter fun x => !e.keepsDetour x).map (fun x => (r, x)) ∧
      OtherRegions s.dev d r ∧ d.tiles = s.dev.tiles ∧ d.hbm = s.dev.hbm) ∧
  (∀ (s : State) (r instant : Nat), Runs s → s.dev.clk.now < (s.dev.region r).router.movesAt →
    exec (.routerSlotMove r instant) s = .next (becomes s s.dev)) ∧
  (∀ (s : State) (r n : Nat), Runs s → (s.dev.region r).router.st = .draining → Completes (.routerDrainEnd r n) s fun d =>
      (d.region r).router.st = .reset ∧
      (d.die (r / 6)).drainDropCount = (if n = 0 then (s.dev.die (r / 6)).drainDropCount
        else satAdd (s.dev.die (r / 6)).drainDropCount n) ∧
      (n ≠ 0 → ∃ f rest, d.flt.log = f :: rest ∧ f.event = 0x13 ∧ f.unitL = unitRegion r ∧ f.detail = 371) ∧
      OtherRegions s.dev d r) ∧
  (∀ (s : State) (r : Nat), Runs s → (s.dev.region r).router.st = .reset → Completes (.routerLinksTrained r) s fun d =>
      (d.region r).router.st = .out ∧ OtherRegions s.dev d r ∧ SameOutside s.dev d) ∧
  (∀ (s : State) (r : Nat), Runs s → (s.dev.region r).router.st = .out → (s.dev.region r).outOfService = false →
    Completes (.routerRejoin r) s fun d =>
      (d.region r).router = { st := .in_, detour := false, resetAsked := false, since := 0 } ∧
      (∀ e, e ∈ d.fab.lostSlots → e.1 ≠ r) ∧ OtherRegions s.dev d r) ∧
  (∀ (s : State) (r : Nat), Runs s → (s.dev.region r).router.st = .out → (s.dev.region r).outOfService = true →
    exec (.routerRejoin r) s = .next (becomes s s.dev))

/-! ### The model manager (chapter 12) -/

/-- Shards (R390 to R392, R404): a shard whose digest matches is verified, one whose digest does not costs an attempt, as a
timeout does; a RECEIVING epoch fails with the fifth attempt and when a push takes no block within the limit; a verified
shard whose digest no longer matches is corrupt and to be fetched again. -/
def Obligations.ShardsArriveOrFail : Prop :=
  (∀ (s : State) (n a i g : Nat), Runs s → (s.dev.area n a).shardFull i = true → ((s.dev.area n a).shard i).verified = false →
    (g = (s.dev.area n a).shardDigest i → Completes (.shardComplete n a i g) s fun d =>
      ((d.area n a).shard i).verified = true ∧ ((d.area n a).shard i).corrupt = false ∧
      (∀ j, j ≠ i → ((d.area n a).shard j).verified = ((s.dev.area n a).shard j).verified) ∧
      ((∃ j, j ≠ i ∧ j < (s.dev.area n a).shards.length ∧ ((s.dev.area n a).shard j).verified = false) →
        (d.area n a).st = (s.dev.area n a).st) ∧
      ((s.dev.area n a).st = .receiving → (d.area n a).st = .receiving ∨ (d.area n a).st = .staging ∨ (d.area n a).st = .staged) ∧
      d.hbm = s.dev.hbm ∧ d.regions = s.dev.regions ∧ d.tiles = s.dev.tiles) ∧
    (g ≠ (s.dev.area n a).shardDigest i → Completes (.shardComplete n a i g) s fun d =>
      ((d.area n a).shard i).verified = false ∧ ((d.area n a).shard i).units = [] ∧
      ((d.area n a).shard i).attempts = ((s.dev.area n a).shard i).attempts + 1 ∧
      d.mm.shardRetryCount = satInc s.dev.mm.shardRetryCount ∧
      (4 ≤ ((s.dev.area n a).shard i).attempts → (s.dev.area n a).st = .receiving → (d.area n a).st = .failed ∧
        (d.area n a).failStatus = stDigest ∧ (d.area n a).failIndex = i ∧ d.mm.loadFailF = true) ∧
      (((s.dev.area n a).shard i).attempts < 4 → (d.area n a).st = (s.dev.area n a).st) ∧
      d.hbm = s.dev.hbm ∧ d.regions = s.dev.regions ∧ d.tiles = s.dev.tiles)) ∧
  (∀ (s : State) (n a i : Nat), Runs s →
    (((s.dev.area n a).shard i).requested = true → ((s.dev.area n a).shard i).verified = false →
      ((s.dev.area n a).shard i).askedAt + msTc s.dev.mm.shardTimeout ≤ s.dev.real →
      Completes (.shardTimeoutExpiry n a i) s fun d =>
        ((d.area n a).shard i).units = [] ∧
        ((d.area n a).shard i).attempts = ((s.dev.area n a).shard i).attempts + 1 ∧
        d.mm.shardRetryCount = satInc s.dev.mm.shardRetryCount ∧
        (4 ≤ ((s.dev.area n a).shard i).attempts → (s.dev.area n a).st = .receiving → (d.area n a).st = .failed ∧
          (d.area n a).failStatus = stMissing ∧ (d.area n a).failIndex = i ∧ d.mm.loadFailF = true) ∧
        (((s.dev.area n a).shard i).attempts < 4 → (d.area n a).st = (s.dev.area n a).st) ∧
        (∀ m, m ≠ n → d.modelSlot m = s.dev.modelSlot m) ∧ d.hbm = s.dev.hbm ∧ d.regions = s.dev.regions) ∧
    (((s.dev.area n a).shard i).requested = false ∨
      s.dev.real < ((s.dev.area n a).shard i).askedAt + msTc s.dev.mm.shardTimeout → exec (.shardTimeoutExpiry n a i) s = .next (becomes s s.dev))) ∧
  (∀ (s : State) (n a : Nat), Runs s →
    ((s.dev.area n a).st = .receiving → (s.dev.area n a).source = 0 →
      (s.dev.area n a).touchedAt + msTc (1000 * s.dev.mm.idleLimit) ≤ s.dev.real → Completes (.idleLimitExpiry n a) s fun d =>
      (d.area n a).st = .failed ∧ (d.area n a).failStatus = stMissing ∧ d.mm.loadFailF = true ∧
      (∀ m, m ≠ n → d.modelSlot m = s.dev.modelSlot m) ∧ d.hbm = s.dev.hbm ∧ d.regions = s.dev.regions) ∧
    ((s.dev.area n a).st ≠ .receiving ∨ s.dev.real < (s.dev.area n a).touchedAt + msTc (1000 * s.dev.mm.idleLimit) →
      exec (.idleLimitExpiry n a) s = .next (becomes s s.dev))) ∧
  (∀ (s : State) (n a i g : Nat), Runs s → ((s.dev.area n a).shard i).verified = true →
    ((s.dev.area n a).st = .staging ∨ (s.dev.area n a).st = .staged ∨ (s.dev.area n a).st = .active ∨
      (s.dev.area n a).st = .retiring) →
    (g ≠ (s.dev.area n a).shardDigest i → Completes (.shardRehash n a i g) s fun d =>
      ((d.area n a).shard i).verified = false ∧ ((d.area n a).shard i).corrupt = true ∧ ((d.area n a).shard i).units = [] ∧
      (∀ j, j ≠ i → ((d.area n a).shard j).verified = ((s.dev.area n a).shard j).verified) ∧
      (d.area n a).st = (s.dev.area n a).st ∧ d.mm.rehashFailCount = satInc s.dev.mm.rehashFailCount ∧
      d.mm.rehashFailF = true ∧ (∀ m, m ≠ n → d.modelSlot m = s.dev.modelSlot m) ∧ d.hbm = s.dev.hbm ∧
      d.regions = s.dev.regions) ∧
    (g = (s.dev.area n a).shardDigest i → exec (.shardRehash n a i g) s = .next (becomes s s.dev)))

/-- Dressing an epoch, its switch and audits (R158, R395, R396, R400, R403, R406): the next tile record queues its tile with its targets,
or, where the placement log matched the package, takes the tile as dressed with its trims restored; a bad code fails the epoch and names its byte; at its instant a region exchanges each tile of the model with its bench
partner, and the last region ends the switch; an audit beyond AUDIT_MAX makes the tile suspect. Model's choices: assumption
log 77, 78. -/
def Obligations.EpochsAreDressedSwitchedAndAudited : Prop :=
  (∀ (s : State) (n a i p : Nat) (m : Manifest) (t : TileRecord) (reads : List (List Int)), Runs s → (s.dev.area n a).manifest = some m →
    m.tiles[i]? = some t → ((s.dev.area n a).st = .receiving ∨ (s.dev.area n a).st = .staging) →
    i = (s.dev.area n a).dressed.length →
    (∀ j, j < (s.dev.area n a).shards.length → touches t.codes j = true ∨ touches t.scales j = true →
      ((s.dev.area n a).shard j).verified = true) →
    (∀ o, s.dev.badByte (s.dev.area n a) t = some o → Completes (.epochTileDress n a ⟨i, reads⟩) s fun d =>
      (d.area n a).st = .failed ∧ (d.area n a).failStatus = stFieldRange ∧ (d.area n a).failIndex = i * 2 ^ 40 + o ∧
      (d.area n a).dressed = (s.dev.area n a).dressed ∧ d.tiles = s.dev.tiles ∧ d.clusters = s.dev.clusters) ∧
    (s.dev.badByte (s.dev.area n a) t = none → s.dev.physOf ((s.dev.area n a).dressedOn i) = some p →
      (s.dev.area n a).matched = false → Completes (.epochTileDress n a ⟨i, reads⟩) s fun d =>
        (d.area n a).dressed = (s.dev.area n a).dressed ++ [i] ∧ (d.tile p).dress.st = .queued ∧
        (d.tile p).dress.targets = s.dev.targetsOf (s.dev.area n a) t ∧
        (d.tile p).dress.logical = (s.dev.area n a).dressedOn i ∧ (d.tile p).logModel = (s.dev.modelSlot n).model ∧
        (d.tile p).logVersion = (s.dev.area n a).version ∧ (d.tile p).cells = (s.dev.tile p).cells ∧
        (∀ q, q ≠ p → d.tile q = s.dev.tile q) ∧ d.hbm = s.dev.hbm ∧ d.regions = s.dev.regions) ∧
    (s.dev.badByte (s.dev.area n a) t = none → s.dev.physOf ((s.dev.area n a).dressedOn i) = some p →
      (s.dev.area n a).matched = true → Completes (.epochTileDress n a ⟨i, reads⟩) s fun d =>
        (d.area n a).dressed = (s.dev.area n a).dressed ++ [i] ∧ (d.tile p).dress.st = (s.dev.tile p).dress.st ∧
        (d.tile p).dress.targets = s.dev.targetsOf (s.dev.area n a) t ∧ (d.tile p).sight.free = true ∧
        (d.tile p).logEpoch = (s.dev.area n a).epoch ∧ (d.tile p).cells = (s.dev.tile p).cells ∧
        (∀ q, q ≠ p → d.tile q = s.dev.tile q) ∧ d.hbm = s.dev.hbm ∧ d.regions = s.dev.regions)) ∧
  (∀ (s : State) (n r x : Nat) (k : SwitchPlan) (m : Manifest) (t : TileRecord), Runs s → (s.dev.modelSlot n).plan = some k →
    (r, x, false) ∈ k.regions → x ≤ s.dev.clk.now → (s.dev.area n ((s.dev.modelSlot n).activeEpoch % 2)).manifest = some m → m.tiles = [t] →
    let here := (s.dev.modelSlot n).place t.tile
    let bench := (s.dev.area n ((s.dev.modelSlot n).activeEpoch % 2)).dressedOn 0
    ltRegion here = r → here ≠ bench → ltCluster here = ltCluster bench →
    (s.dev.cluster (ltCluster here)).map.length = 8 →
    Completes (.switchInstant n r) s fun d =>
      d.physOf here = s.dev.physOf bench ∧ d.physOf bench = s.dev.physOf here ∧
      (∀ l, l ≠ here → l ≠ bench → d.physOf l = s.dev.physOf l) ∧
      (k.regions = [(r, x, false)] → (d.modelSlot n).plan = none ∧ d.mm.switchDoneF = true ∧
        (d.area n (1 - (s.dev.modelSlot n).activeEpoch % 2)).st = .empty)) ∧
  (∀ (s : State) (n r : Nat), Runs s →
    (∀ k, (s.dev.modelSlot n).plan = some k → ∀ x, (r, x, false) ∈ k.regions → s.dev.clk.now < x) →
    exec (.switchInstant n r) s = .next (becomes s s.dev)) ∧
  (∀ (s : State) (p v : Nat), Runs s → (s.dev.tile p).dress.dressed = true → s.dev.pins.vppLow = false →
    (s.dev.mm.auditMax < v → Completes (.tileAudit p v) s fun d =>
      d.mm.auditFailCount = satInc s.dev.mm.auditFailCount ∧ d.mm.auditFailF = true ∧ (d.tile p).check.suspectF = true ∧
      ((s.dev.tile p).check.health = .normal → (s.dev.tile p).check.obsEndedAt = none → s.dev.sec.grade < 6 →
        (d.tile p).check.health = .observed ∧ (∀ q, q ≠ p → d.tile q = s.dev.tile q) ∧
        ∃ f rest, d.flt.log = f :: rest ∧ f.event = 0x04 ∧ f.action = 1 ∧ f.unitP = unitPt p ∧ f.detail = v)) ∧
    (v ≤ s.dev.mm.auditMax → exec (.tileAudit p v) s = .next (becomes s s.dev)))

/-! ### Fenced dies, lost regions and heat (chapters 02, 13 and 17) -/

/-- Fencing of a die (R36, R37, R56, R368, R434, R437 to R439): the loss of its forwarded clock, the third watchdog miss or
replica disagreement in a row and FENCE each fence it, its compute side reset, its link FENCED and its results discarded;
UNFENCE brings it back when each step passes, and reports the first that fails; a restarted die manager leaves its regions lost, their streams breached.
Model's choices: assumption log 75. -/
def Obligations.DiesAreFencedAndReturn : Prop :=
  let gone (d d' : Device) (n cause : Nat) : Prop :=
    n ∈ d'.flt.fenced ∧ tget 0 d'.flt.fenceCause n = cause ∧ d'.flt.fenceF = true ∧ (d'.die n).dm = .fenced ∧
      (d'.link n).st = .fenced ∧ (∀ g, g < 6 → (d'.region (6 * n + g)).regs.st = .reset) ∧
      (∀ e, e ∈ d'.adm.ledger → e.region / 6 ≠ n) ∧ (∀ e, e ∈ d'.fab.egress → e.region / 6 ≠ n) ∧
      (∀ m, m ≠ n → d'.die m = d.die m) ∧ (∀ m, m ≠ n → (m ∈ d'.flt.fenced ↔ m ∈ d.flt.fenced)) ∧
      ((∀ g, g < 6 → (d.region (6 * n + g)).xfers = []) → d'.hbm.mem = d.hbm.mem)
  (∀ (s : State) (n : Nat), Runs s → s.dev.dieLive n = true →
    Completes (.forwardedClockLoss n) s (fun d => gone s.dev d n 0x0B ∧ (d.link n).near.clockLostF = true ∧
      (d.link n).far.clockLostF = true) ∧
    (∀ k : Int, k.natAbs ≤ 4 → exec (.replicaTimestamp n k) s =
      .next (becomes s (s.dev.updDie n fun x => { x with replicaBad := 0 }))) ∧
    (∀ k : Int, 4 < k.natAbs → (s.dev.die n).replicaBad < 2 → Completes (.replicaTimestamp n k) s fun d =>
      (d.die n).replicaBad = (s.dev.die n).replicaBad + 1 ∧ d.flt = s.dev.flt ∧ d.tb = s.dev.tb ∧ d.regions = s.dev.regions) ∧
    (∀ k : Int, 4 < k.natAbs → 2 ≤ (s.dev.die n).replicaBad → Completes (.replicaTimestamp n k) s fun d =>
      gone s.dev d n 0x0B ∧ d.tb.replicaErr = true) ∧
    ((s.dev.die n).wdogRow = 0 ∨ (s.dev.die n).wdogAt + msTc 2 ≤ s.dev.real → Completes (.dmWatchdogMiss n) s fun d =>
      (d.die n).wdogMissF = true ∧ (d.die n).wdogMissCount = satInc (s.dev.die n).wdogMissCount ∧ (d.die n).wdogRow = 1 ∧
      d.flt = s.dev.flt ∧ d.regions = s.dev.regions) ∧
    (2 ≤ (s.dev.die n).wdogRow → s.dev.real < (s.dev.die n).wdogAt + msTc 2 → Completes (.dmWatchdogMiss n) s fun d =>
      gone s.dev d n 0x0E ∧ (d.die n).wdogMissCount = satInc (s.dev.die n).wdogMissCount) ∧
    (∀ who, MayWrite s.dev who .owner → Completes (.fenceCtrlFence who n) s fun d =>
      gone s.dev d n 0x0F ∧ (who ≠ 8 → LastReply d who cmdRegWrite stOK [])) ∧
    ((s.dev.die n).dm ≠ .reset → Completes (.dieManagerRestart n) s fun d =>
      (d.die n).dm = .computeReset ∧ (d.die n).microcode = false ∧ d.flt.fenced = s.dev.flt.fenced ∧
      ∀ g, g < 6 → (d.region (6 * n + g)).lost = true ∧ (d.region (6 * n + g)).regs.st = .reset ∧
        ∀ m, m ∈ s.dev.streamsOfRegion (6 * n + g) → (d.stream m).guarantee = false)) ∧
  (∀ (s : State) (n : Nat), Runs s →
    (s.dev.dieLive n = false ∨ (s.dev.die n).dm = .reset → exec (.dieManagerRestart n) s =
      .next (becomes s { s.dev with flt := { s.dev.flt with discardedResets := s.dev.flt.discardedResets + 1 } })) ∧
    (s.dev.dieLive n = false → exec (.dmWatchdogMiss n) s = .next (becomes s s.dev))) ∧
  (∀ (s : State) (who n : Nat) (l u t : Bool) (scans : List ScanResult), Runs s → MayWrite s.dev who .owner → n < s.dev.dieCount →
    let m := if (s.dev.die n).mapped then s.dev else s.dev.mapDie n
    let ok : Bool := l && !(s.dev.die n).otpBad && u && t &&
      (m.dressedTiles n).all fun p => scans.any fun x => x.tile = p && x.ok
    (s.dev.flt.fenced.contains n = true → ok = true → Completes (.fenceCtrlUnfence who n l u scans t) s fun d =>
      n ∉ d.flt.fenced ∧ (∀ m, m ≠ n → (m ∈ d.flt.fenced ↔ m ∈ s.dev.flt.fenced)) ∧ (d.die n).dm = .inService ∧
      (d.die n).microcode = true ∧ (d.link n).st = .up ∧ d.adm.capacityF = true ∧
      (∀ g, g < 6 → (d.region (6 * n + g)).lost = false ∧
        (m.dressedTiles n = [] → (d.region (6 * n + g)).regs.st = .idle)) ∧
      (who ≠ 8 → LastReply d who cmdRegWrite stOK [])) ∧
    (s.dev.flt.fenced.contains n = true → ok = false → Completes (.fenceCtrlUnfence who n l u scans t) s fun d =>
      d.flt.fenced = s.dev.flt.fenced ∧ d.dies = s.dev.dies ∧ d.regions = s.dev.regions ∧ d.fab = s.dev.fab ∧
      d.tiles = s.dev.tiles ∧ ∃ f rest, d.flt.log = f :: rest ∧ f.unitL = unitDie n) ∧
    (s.dev.flt.fenced.contains n = false → who ≠ 8 → Completes (.fenceCtrlUnfence who n l u scans t) s fun d =>
      d.flt = s.dev.flt ∧ d.dies = s.dev.dies ∧ d.regions = s.dev.regions ∧ LastReply d who cmdRegWrite stWrongState []))

/-- Re-placement (R435, R436): a stream moves to the target region when the dressing ends well and its placement passes the
checks there; without a target, or when a step fails, or at the limit, it is shed. Model's choices: assumption log 76. -/
def Obligations.LostStreamsMoveOrAreShed : Prop :=
  let shed (d d' : Device) (n : Nat) : Prop :=
    ((d.stream n).st ≠ .free → (d'.stream n).st = .releasing) ∧ d'.flt.shedF = true ∧
      (∀ x, x ∈ d'.flt.replacements → x.stream ≠ n) ∧ d'.adm.shedF = true ∧ (∀ m, m ≠ n → d'.stream m = d.stream m) ∧
      d'.regions = d.regions ∧ d'.hbm = d.hbm
  (∀ (s : State) (n : Nat) (x : Replacement), Runs s → s.dev.flt.replacements.find? (fun x => x.stream = n) = some x →
    (x.since + msTc (1000 * s.dev.flt.remapLimit) ≤ s.dev.real → Completes (.remapLimitExpiry n) s (fun d => shed s.dev d n)) ∧
    (s.dev.targetOf x.region = none → ∀ t b, Completes (.regionReplacement n t b) s fun d => shed s.dev d n) ∧
    (∀ t, s.dev.targetOf x.region = some t → Completes (.regionReplacement n t false) s fun d => shed s.dev d n) ∧
    (∀ t u b, s.dev.targetOf x.region = some t → u ≠ t → exec (.regionReplacement n u b) s = .next (becomes s s.dev)) ∧
    (∀ t, s.dev.targetOf x.region = some t → t ≠ x.region → s.dev.slotOf (s.dev.stream n).model = none →
      s.dev.checkMoved n x.region t = true → Completes (.regionReplacement n t true) s fun d =>
        (∀ p, p ∈ (d.stream n).programs → p.region ≠ x.region) ∧ (∀ e, e ∈ (d.stream n).tiles → ltRegion e.1 ≠ x.region) ∧
        d.flt.replaceCount = satInc s.dev.flt.replaceCount ∧
        (∀ y, y ∈ d.flt.replacements → y.stream = n → y.region ≠ x.region) ∧ (∀ m, m ≠ n → d.stream m = s.dev.stream m) ∧
        (d.stream n).nextSeq = (s.dev.stream n).nextSeq ∧ (d.stream n).st = (s.dev.stream n).st ∧ d.tiles = s.dev.tiles ∧
        (s.dev.flt.replacements = [x] → (s.dev.stream n).clearedBy = [0x12] → (s.dev.stream n).st ≠ .free →
          (d.stream n).guarantee = true))) ∧
  (∀ (s : State) (n : Nat), Runs s → s.dev.flt.replacements.find? (fun x => x.stream = n) = none →
    exec (.remapLimitExpiry n) s = .next (becomes s s.dev) ∧
    ∀ t b, exec (.regionReplacement n t b) s = .next (becomes s s.dev))

/-- Heat (R37, R338, R558 to R562, R564, R601): a sample is stored and the step moves toward its target by the rules, at once
to 15, which closes admission; a trip latches THERM_TRIP_N, stops the dies, takes the ports down and releases every stream;
the trip of a hub diode halts the hub after its delay. Model's choices: assumption log 91. -/
def Obligations.HeatStepsAndTrips : Prop :=
  (∀ (s : State) (i : Nat) (v : Int), Runs s → s.dev.sensorExists i = true →
    (i < 32 ∨ (s.dev.therm.sensor i).mode ≠ 0) → s.dev.sampleDue i = true →
    let y : Sensor := { s.dev.therm.sensor i with
      temp := v, present := true, fault := false, sampledAt := s.dev.real, period := periodOf v (s.dev.therm.warnOf i) (s.dev.therm.limitOf i) }
    let t : Thermal := { s.dev.therm with sensors := tset s.dev.therm.sensors i y }
    Completes (.thermalSample i v false) s (fun d => d.therm.sensor i = y ∧ (∀ j, j ≠ i → d.therm.sensor j = s.dev.therm.sensor j) ∧
      d.tiles = s.dev.tiles ∧ d.regions = s.dev.regions) ∧
    (t.target 0 = 15 → s.dev.therm.k ≠ 15 → Completes (.thermalSample i v false) s fun d =>
      d.therm.k = 15 ∧ d.adm.closed = true) ∧
    (s.dev.therm.k ≤ 15 → t.target 0 ≤ s.dev.therm.k → s.dev.therm.k ≤ t.target t.hyst →
      Completes (.thermalSample i v false) s fun d => d.therm.k = s.dev.therm.k ∧ d.adm = s.dev.adm) ∧
    (s.dev.therm.k < t.target 0 → t.target 0 < 15 → s.dev.therm.kChangedAt = none →
      Completes (.thermalSample i v false) s fun d =>
        d.therm.k = s.dev.therm.k + 1 ∧ d.therm.stepCount = satInc s.dev.therm.stepCount ∧ d.therm.stepUpF = true ∧
        d.adm = s.dev.adm) ∧
    (s.dev.therm.k < 15 → t.target t.hyst < s.dev.therm.k → t.target 0 ≤ s.dev.therm.k → s.dev.therm.kChangedAt = none →
      Completes (.thermalSample i v false) s fun d =>
        d.therm.k = s.dev.therm.k - 1 ∧ d.therm.stepCount = s.dev.therm.stepCount ∧ d.adm = s.dev.adm)) ∧
  (∀ (s : State) (i : Nat) (v : Int) (b : Bool), Runs s → s.dev.sensorExists i = false ∨ s.dev.sampleDue i = false →
    exec (.thermalSample i v b) s = .next (becomes s s.dev)) ∧
  (∀ (s : State) (i : Nat), Runs s → s.dev.therm.tripped = false → i < s.dev.diodes →
    Completes (.thermalTrip i) s fun d =>
      d.therm.tripped = true ∧ d.pins.thermTripLow = true ∧ d.start.st = .tripped ∧ d.pins.bootStat = 7 ∧
      d.hbm.selfRefresh = true ∧
      ((∀ n g, s.dev.dieLive n = true → g < 6 → (s.dev.region (6 * n + g)).xfers = []) → d.hbm.mem = s.dev.hbm.mem) ∧ d.therm.hubHaltDue = decide (i < 2) ∧ d.therm.trippedAt = s.dev.real ∧
      (∀ p, p ∈ s.dev.portList → (d.port p).st = .down) ∧
      (∀ n, n ∈ s.dev.liveStreams → (d.stream n).st = .releasing ∧ (d.stream n).guarantee = false) ∧
      ∀ n, s.dev.dieLive n = true → (d.die n).dm = .computeReset ∧ ∀ g, g < 6 → (d.region (6 * n + g)).regs.st = .reset) ∧
  (∀ s : State, Runs s →
    (s.dev.therm.hubHaltDue = true → s.dev.therm.trippedAt + msTc 100 ≤ s.dev.real → Completes .hubHaltAfterTrip s fun d =>
      d.pins.hubHalted = true ∧ d.therm.hubHaltDue = false ∧ (∀ who, d.served who = false) ∧ d.regions = s.dev.regions) ∧
    (s.dev.therm.hubHaltDue = false ∨ s.dev.real < s.dev.therm.trippedAt + msTc 100 → exec .hubHaltAfterTrip s = .next (becomes s s.dev)))

/-! ### Sessions (chapter 14) -/

/-- Sessions (R453 to R461, R470, R523): a HELLO that passes gets an ACCEPT and waits, one that fails is refused and counted;
a valid FINISH opens the session in the lowest free entry; a DATA datagram runs its request when its SEQ is BASE, holds it
ahead of BASE, answers a repeat from the cache, and a bad tag or a seen RECORD is dropped; timers end what they watch.
Model's choices: assumption log 81. -/
def Obligations.SessionsOpenAndTakeRequestsInOrder : Prop :=
  (∀ (s : State) (m : HelloMsg), Runs s → s.dev.bcpOn m.port = true →
    (s.dev.sec.drbgStopped = true → Completes (.hello m) s fun d =>
      d.bcp.handshakes = s.dev.bcp.handshakes ∧ d.bcp.sessions = s.dev.bcp.sessions ∧
      d.bcp.hsFailCount = satInc s.dev.bcp.hsFailCount) ∧
    (s.dev.sec.drbgStopped = false → helloForm m = true →
      (∀ h, h ∈ s.dev.bcp.handshakes → h.nonce ≠ m.nonce) → s.dev.bcp.handshakes.length < 4 →
      (s.dev.authorise m = none → Completes (.hello m) s fun d =>
        d.bcp.handshakes = s.dev.bcp.handshakes ∧ d.bcp.sessions = s.dev.bcp.sessions ∧ d.bcp.hsFailF = true ∧
        d.bcp.hsFailCount = satInc s.dev.bcp.hsFailCount) ∧
      (∀ a r, s.dev.authorise m = some (a, r) → m.takeover = false → s.dev.openSessions.length < 8 → m.ephemeralOk = true →
        Completes (.hello m) s fun d =>
          (∃ h, d.bcp.handshakes = s.dev.bcp.handshakes ++ [h] ∧ h.port = m.port ∧ h.peer = m.peer ∧ h.id = m.sessionId ∧
            h.role = r ∧ h.anchor = a ∧ h.key = m.leafKey ∧
            h.payload = min m.payload (if m.port = 0 then s.dev.bcp.payloadA else s.dev.bcp.payloadB)) ∧
          d.out = .handshake m.port m.peer 1 stOK :: s.dev.out ∧ d.bcp.sessions = s.dev.bcp.sessions ∧
          d.bcp.hsFailCount = s.dev.bcp.hsFailCount))) ∧
  (∀ (s : State) (port peer id n : Nat) (h : Handshake), Runs s → s.dev.bcpOn port = true →
    s.dev.bcp.handshakes.find? (fun y => y.id = id) = some h →
    (s.dev.claimMode = true ∨ (s.dev.sec.anchor h.anchor).inForce = true →
      (List.range 8).find? (fun n => !(s.dev.session n).inUse) = some n →
      Completes (.finish port peer id true true) s fun d =>
        (d.session n).inUse = true ∧ (d.session n).role = h.role ∧ (d.session n).id = h.id ∧ (d.session n).base = 1 ∧
        (d.session n).key = h.key ∧ (d.session n).payload = h.payload ∧
        (d.session n).blockSize = (h.payload - 64) / 64 * 64 ∧ (∀ m, m ≠ n → d.session m = s.dev.session m) ∧
        (∀ y, y ∈ d.bcp.handshakes → y.id ≠ id) ∧
        LastReply d n 0 stOK [h.payload, (h.payload - 64) / 64 * 64] ∧ d.regions = s.dev.regions) ∧
    Completes (.finish port peer id true false) s (fun d =>
      d.bcp.sessions = s.dev.bcp.sessions ∧ (∀ y, y ∈ d.bcp.handshakes → y.id ≠ id) ∧
      d.bcp.hsFailCount = satInc s.dev.bcp.hsFailCount)) ∧
  (∀ (s : State) (id : Nat), Runs s → Completes (.handshakeTimeout id) s fun d =>
    d.bcp.sessions = s.dev.bcp.sessions ∧ ∀ h, h ∈ d.bcp.handshakes ↔ h ∈ s.dev.bcp.handshakes ∧
      ¬ (h.id = id ∧ h.since + msTc 2000 ≤ s.dev.real)) ∧
  (∀ (s : State) (port peer id record seq fp n : Nat) (msg : BcpMsg), Runs s → s.dev.bcpOn port = true →
    s.dev.sessionOf id = some n →
    Completes (.dataDatagram port peer id record seq fp true false msg) s (fun d =>
      d.bcp.tagFailF = true ∧ d.bcp.tagFailCount = satInc s.dev.bcp.tagFailCount ∧ d.bcp.sessions = s.dev.bcp.sessions ∧
      d.held = s.dev.held ∧ d.out = s.dev.out ∧ d.regions = s.dev.regions) ∧
    ((s.dev.session n).stale record = true → Completes (.dataDatagram port peer id record seq fp true true msg) s fun d =>
      d.bcp.replayDropCount = satInc s.dev.bcp.replayDropCount ∧ d.bcp.sessions = s.dev.bcp.sessions ∧
      d.held = s.dev.held ∧ d.out = s.dev.out ∧ d.regions = s.dev.regions) ∧
    ((s.dev.session n).stale record = false → record < 2 ^ 47 → (s.dev.session n).recHigh ≤ 2 ^ 47 →
      (s.dev.session n).txRecord < 2 ^ 47 → seq < 2 ^ 32 →
      (seq = (s.dev.session n).base → (s.dev.session n).busy = none → s.dev.modeCheck 0x0001 = none →
        Completes (.dataDatagram port peer id record seq fp true true (.request .ping)) s fun d =>
          LastReply d n 0x0001 stOK [s.dev.mer, s.dev.tb.st.code] ∧ (d.session n).base = (seq + 1) % 2 ^ 32 ∧
          (d.session n).busy = none ∧ (d.session n).lastValid = s.dev.real ∧ d.held = s.dev.held ∧
          (∃ rest, (d.session n).cache = ⟨seq, fp, 0x0001, stOK, [s.dev.mer, s.dev.tb.st.code]⟩ :: rest)) ∧
      (∀ k, (seq + 2 ^ 32 - (s.dev.session n).base) % 2 ^ 32 = k → 0 < k → k < 64 →
        (∀ h, h ∈ s.dev.held → h.session = n → h.seq ≠ seq) → msg ≠ .short →
        Completes (.dataDatagram port peer id record seq fp true true msg) s fun d =>
          d.held = s.dev.held ++ [{ session := n, seq := seq, fingerprint := fp, msg := msg }] ∧
          (d.session n).base = (s.dev.session n).base ∧ d.out = s.dev.out ∧ d.regions = s.dev.regions) ∧
      (∀ c, 2 ^ 32 - 256 ≤ (seq + 2 ^ 32 - (s.dev.session n).base) % 2 ^ 32 →
        (s.dev.session n).cache.find? (fun c => c.seq = seq) = some c → c.fingerprint = fp → msg ≠ .short →
        Completes (.dataDatagram port peer id record seq fp true true msg) s fun d =>
          LastReply d n c.cmd c.status c.words ∧ (d.session n).base = (s.dev.session n).base ∧
          (d.session n).cache = (s.dev.session n).cache ∧ d.held = s.dev.held ∧ d.regions = s.dev.regions) ∧
      (64 ≤ (seq + 2 ^ 32 - (s.dev.session n).base) % 2 ^ 32 →
        (seq + 2 ^ 32 - (s.dev.session n).base) % 2 ^ 32 < 2 ^ 32 - 256 → msg ≠ .short →
        Completes (.dataDatagram port peer id record seq fp true true msg) s fun d =>
          d.bcp.badSeqCount = satInc s.dev.bcp.badSeqCount ∧ LastReply d n 0 stBadSequence [] ∧
          (d.session n).base = (s.dev.session n).base ∧ d.held = s.dev.held ∧ d.regions = s.dev.regions))) ∧
  (∀ (s : State) (n : Nat), Runs s → s.dev.served n = true → (s.dev.session n).busy = none →
    ((∀ h, h ∈ s.dev.held → h.session = n → h.seq ≠ (s.dev.session n).base) →
      exec (.heldRequestExecute n) s = .next (becomes s s.dev)) ∧
    (∀ h, s.dev.held.find? (fun h => h.session = n && h.seq = (s.dev.session n).base) = some h → h.msg = .request .ping →
      s.dev.modeCheck 0x0001 = none → (s.dev.session n).recHigh ≤ 2 ^ 47 → (s.dev.session n).txRecord < 2 ^ 47 →
      Completes (.heldRequestExecute n) s fun d =>
        LastReply d n 0x0001 stOK [s.dev.mer, s.dev.tb.st.code] ∧ (d.session n).base = ((s.dev.session n).base + 1) % 2 ^ 32 ∧
        (∀ y, y ∈ d.held ↔ y ∈ s.dev.held ∧ ¬ (y.session = n ∧ y.seq = h.seq)))) ∧
  (∀ (s : State) (n : Nat), Runs s → s.dev.real < (s.dev.session n).lastValid + msTc (1000 * s.dev.bcp.idle) →
    exec (.bcpIdleExpiry n) s = .next (becomes s s.dev)) ∧
  (∀ (s : State) (n : Nat), Runs s → s.dev.served n = true →
    (s.dev.session n).lastValid + msTc (1000 * s.dev.bcp.idle) ≤ s.dev.real → Completes (.bcpIdleExpiry n) s fun d =>
    (d.session n).inUse = false ∧ d.out = .closed n 1 :: s.dev.out ∧ (∀ y, y ∈ d.held → y.session ≠ n) ∧
    (∀ m, m ≠ n → d.session m = s.dev.session m) ∧ d.adm = s.dev.adm ∧ d.regions = s.dev.regions) ∧
  (∀ (s : State) (i : Nat), Runs s →
    let aged (t : Nat) : Prop := t + msTc (1000 * s.dev.bcp.hold) ≤ s.dev.real
    Completes (.conversationHoldExpiry 0 i) s (fun d =>
      (∀ c, c ∈ d.adm.convs ↔ c ∈ s.dev.adm.convs ∧ ¬ (c.stream = i ∧ (c.st = .opened ∨ c.st = .refused) ∧ aged c.touchedAt)) ∧
      d.adm.streams = s.dev.adm.streams ∧ d.mm = s.dev.mm ∧ d.sec = s.dev.sec) ∧
    (∀ b, s.dev.mm.buffers[i]? = some b → aged b.touchedAt → Completes (.conversationHoldExpiry 1 i) s (fun d =>
      d.mm.buffers = s.dev.mm.buffers.eraseIdx i ∧ d.mm.slots = s.dev.mm.slots ∧ d.adm = s.dev.adm ∧ d.sec = s.dev.sec)) ∧
    Completes (.conversationHoldExpiry 2 i) s (fun d =>
      d.sec.fw = (if s.dev.sec.fw.st = .receiving ∧ s.dev.sec.fw.touchedAt + msTc (1000 * s.dev.bcp.hold) ≤ s.dev.real then FwConv.reset else s.dev.sec.fw) ∧ d.adm = s.dev.adm ∧ d.mm = s.dev.mm))

/-! ### Commands of the Berif protocol (chapter 14) -/

/-- Session, register, time, test and log commands (R27, R60, R73, R440, R458, R467 to R469, R579, R580): what each answers
and what it changes; a register needs its own role, an address outside the map or misaligned is refused and nothing changes.
Model's choices: assumption log 30, 80. -/
def Obligations.SessionRegisterTimeAndLogCommands : Prop :=
  (∀ (s : State) (who : Nat), Runs s → MaySend s.dev who 0x0001 .observer →
    OnlyAnswers (.ping who) s who 0x0001 stOK [s.dev.mer, s.dev.tb.st.code]) ∧
  (∀ (s : State) (who : Nat), Runs s → MaySend s.dev who 0x0002 .observer → Completes (.close who) s fun d =>
    (d.session who).inUse = false ∧ d.out = .closed who 0 :: .reply who 0x0002 stOK [] :: s.dev.out ∧
    (∀ n, n ≠ who → d.session n = s.dev.session n) ∧ d.regions = s.dev.regions ∧ d.adm = s.dev.adm) ∧
  (∀ (s : State) (who : Nat), Runs s → MaySend s.dev who 0x0003 .observer →
    OnlyAnswers (.sessionInfo who) s who 0x0003 stOK [(s.dev.session who).role.code, (s.dev.session who).port,
      (s.dev.session who).base, (s.dev.session who).blockSize,
      ((s.dev.session who).lastValid + msTc (1000 * s.dev.bcp.idle) - s.dev.real) / 1966080]) ∧
  (∀ (s : State) (who a b off : Nat), Runs s → MaySend s.dev who cmdRegRead .observer → blockOf a = some (b, off) →
    (blockOf (a + 3)).map (fun e => e.1) = some b → s.dev.blockAccess b = stOK →
    (s.dev.hasRole who (readRole b (s.dev.session who).bank off) = true → a % 4 = 0 →
      Answers (.regRead who a 1) s who cmdRegRead stOK
        [(s.dev.readWord b (s.dev.session who).bank off).1 % 2 ^ 32] fun d =>
          b < 13 → b ≠ 3 → b ≠ 4 → SameButSession s.dev d who) ∧
    (s.dev.hasRole who (readRole b (s.dev.session who).bank off) = true → a % 4 ≠ 0 →
      OnlyAnswers (.regRead who a 1) s who cmdRegRead stAlignment []) ∧
    (s.dev.hasRole who (readRole b (s.dev.session who).bank off) = false →
      OnlyAnswers (.regRead who a 1) s who cmdRegRead stNotAuthorised [])) ∧
  (∀ (s : State) (who a n : Nat), Runs s → MaySend s.dev who cmdRegRead .observer → blockOf a = none →
    OnlyAnswers (.regRead who a n) s who cmdRegRead stFieldRange []) ∧
  (∀ (s : State) (who v : Nat) (env : WriteEnv), Runs s → MaySend s.dev who cmdRegWrite .maintainer →
    Answers (.regWrite who 0x30 v env) s who cmdRegWrite stOK [] fun d =>
      SameButSession { s.dev with hostScratch := v % 2 ^ 32 } d who) ∧
  (∀ (s : State) (who a v b off : Nat) (env : WriteEnv), Runs s → MaySend s.dev who cmdRegWrite .maintainer →
    blockOf a = some (b, off) →
    ((s.dev.writeRole b (s.dev.session who).bank off (v % 2 ^ 32)).any fun r => s.dev.hasRole who r) = false →
    OnlyAnswers (.regWrite who a v env) s who cmdRegWrite stNotAuthorised []) ∧
  (∀ (s : State) (who tai : Nat), Runs s → MaySend s.dev who 0x0020 .operator → s.dev.tb.ppsAt = none →
    Answers (.timeOfDay who tai) s who 0x0020 stOK [] fun d =>
      SameButSession { s.dev with tb := { s.dev.tb with ppsTai := s.dev.tb.ppsTai ++ [some tai] } } d who) ∧
  (∀ (s : State) (who : Nat), Runs s → MaySend s.dev who 0x0021 .owner →
    Answers (.timeStep who) s who 0x0021 stOK
      [(s.dev.liveStreams.filter fun n => (s.dev.stream n).st ≠ .releasing).length] fun d =>
        (∀ n, n ∈ s.dev.liveStreams → (d.stream n).st = .releasing) ∧
        (∀ n, n ∈ s.dev.liveStreams → (s.dev.stream n).st ≠ .releasing → (d.stream n).guarantee = false) ∧
        d.clk = s.dev.clk ∧ d.tb = s.dev.tb ∧ d.regions = s.dev.regions) ∧
  (∀ (s : State) (who u c p : Nat), Runs s → MaySend s.dev who 0x0060 .maintainer → unitCheck s.dev u = stOK → unitLevel u = 0 →
    unitPhys u = false → s.dev.flt.fenced.contains (unitDieOf u) = false → s.dev.physOf (unitLtOf u) = some p →
    s.dev.testUnit (unitPt p) c = true → 1 ≤ c → c ≤ 4 →
    Answers (.test who u (2 ^ c)) s who 0x0060 stOK [1] fun d =>
      (∃ t, t ∈ (d.region (testRegion (unitPt p))).tests ∧ t.unit = unitPt p ∧ t.code = c ∧ t.part = 0) ∧
      (∀ r, r ≠ testRegion (unitPt p) → d.region r = s.dev.region r) ∧ d.tiles = s.dev.tiles) ∧
  (∀ (s : State) (who : Nat) (env : BootEnv), Runs s → MaySend s.dev who 0x0061 .owner → s.dev.sec.mode ≠ .error →
    s.dev.start.st ≠ .reset → Completes (.restart who env) s fun d =>
      d.start.isRestart = true ∧ d.pab.bootId = env.bootId ∧ d.held = [] ∧ d.adm.queue = [] ∧
      Out.reply who 0x0061 stOK [] ∈ d.out) ∧
  (∀ (s : State) (who k : Nat), Runs s → MaySend s.dev who 0x0070 .observer →
    Answers (.noticeAck who k) s who 0x0070 stOK [] fun d =>
      SameButSession s.dev d who ∧ (d.session who).notices = (s.dev.session who).notices.filter fun y => k < y.nSeq) ∧
  (∀ (s : State) (who f n : Nat), Runs s → MaySend s.dev who 0x0071 .observer →
    (1 ≤ n → n ≤ 8 → OnlyAnswers (.noticeFetch who f n) s who 0x0071 stOK
      ((s.dev.adm.notices.filter fun x => decide (f ≤ x.seq) && decide (x.seq < f + n)).reverse.flatMap fun x => x.words)) ∧
    (n = 0 ∨ 8 < n → OnlyAnswers (.noticeFetch who f n) s who 0x0071 stFieldRange [])) ∧
  (∀ (s : State) (who f n : Nat), Runs s → MaySend s.dev who 0x0072 .observer →
    (1 ≤ n → n ≤ 32 → OnlyAnswers (.faultFetch who f n) s who 0x0072 stOK
      ((s.dev.flt.log.filter fun x => decide (f ≤ x.seq) && decide (x.seq < f + n)).reverse.flatMap fun x => x.words)) ∧
    (n = 0 ∨ 32 < n → OnlyAnswers (.faultFetch who f n) s who 0x0072 stFieldRange []))

/-- Claim commands (R316, R465, R470, R471): a claim is opened, filled, committed to the engine's queue of four, reported and
released; a stream outside 0 to 255, a block out of turn and a full queue are refused and nothing changes. Model's choices:
assumption log 3. -/
def Obligations.ClaimCommandsFollowTheConversation : Prop :=
  (∀ (s : State) (who st tag n : Nat), Runs s → MaySend s.dev who 0x0030 .operator →
    (255 < st → OnlyAnswers (.admitOpen who st tag n) s who 0x0030 stFieldRange []) ∧
    (st < 256 → s.dev.conv st tag = none → 64 ≤ n → n ≤ 1048576 → (s.dev.stream st).st = .free →
      (∀ c, c ∈ s.dev.adm.convs → c.stream ≠ st) →
      Answers (.admitOpen who st tag n) s who 0x0030 stOK [1, 0] fun d =>
        (∃ c, d.adm.convs = c :: s.dev.adm.convs ∧ c.st = .opened ∧ c.stream = st ∧ c.tag = tag ∧ c.length = n ∧ c.session = who ∧
          c.blocks = []) ∧ d.adm.streams = s.dev.adm.streams ∧ d.adm.queue = s.dev.adm.queue ∧ d.regions = s.dev.regions) ∧
    (∀ c, st < 256 → s.dev.conv st tag = some c →
      OnlyAnswers (.admitOpen who st tag n) s who 0x0030 stOK [c.st.code, c.received])) ∧
  (∀ (s : State) (who st tag off : Nat) (data : List Byte) (c : ClaimConv), Runs s → MaySend s.dev who 0x0031 .operator → st < 256 →
    1 ≤ data.length → data.length ≠ 0xFFFF → data.length + 64 ≤ (s.dev.session who).blockSize → s.dev.conv st tag = some c →
    (off + data.length ≤ c.length → c.st = .opened →
      Answers (.admitBlock who st tag off data.length data) s who 0x0031 stOK [] fun d =>
        d.conv st tag = some { c with blocks := (off, data) :: c.blocks, touchedAt := s.dev.real } ∧
        d.adm.streams = s.dev.adm.streams ∧ d.adm.queue = s.dev.adm.queue ∧ d.regions = s.dev.regions) ∧
    (off + data.length ≤ c.length → c.st ≠ .opened →
      OnlyAnswers (.admitBlock who st tag off data.length data) s who 0x0031 stWrongState []) ∧
    (c.length < off + data.length → OnlyAnswers (.admitBlock who st tag off data.length data) s who 0x0031 stLength [])) ∧
  (∀ (s : State) (who st tag : Nat) (records : List ClaimRecord) (c : ClaimConv), Runs s →
    MaySend s.dev who 0x0032 .operator → st < 256 → s.dev.conv st tag = some c → c.st = .opened → c.length ≤ c.received →
    (s.dev.adm.queue.length < 4 → Answers (.admitCommit who st tag records) s who 0x0032 stOK [2] fun d =>
      d.adm.queue = s.dev.adm.queue ++ [.claim st tag] ∧
      d.conv st tag = some { c with st := .queued, records := records, touchedAt := s.dev.real } ∧
      d.adm.streams = s.dev.adm.streams ∧ d.regions = s.dev.regions) ∧
    (4 ≤ s.dev.adm.queue.length → OnlyAnswers (.admitCommit who st tag records) s who 0x0032 stBusy [])) ∧
  (∀ (s : State) (who st : Nat), Runs s → MaySend s.dev who 0x0033 .observer → st < 256 →
    ((∀ c, c ∈ s.dev.adm.convs → c.stream ≠ st) → OnlyAnswers (.admitStatus who st) s who 0x0033 stOK [0, 0]) ∧
    (∀ c, s.dev.adm.convs.find? (fun c => c.stream = st) = some c → c.st = .opened ∨ c.st = .queued →
      OnlyAnswers (.admitStatus who st) s who 0x0033 stOK [c.st.code, c.received]) ∧
    (∀ c, s.dev.adm.convs.find? (fun c => c.stream = st) = some c → c.st = .accepted →
      OnlyAnswers (.admitStatus who st) s who 0x0033 stOK ([c.st.code, c.received] ++
        (c.startFrame :: s.dev.egressWords (s.dev.stream st) ++ s.dev.rewritten c))) ∧
    (∀ c r, s.dev.adm.convs.find? (fun c => c.stream = st) = some c → c.st = .refused → c.refusal = some r →
      OnlyAnswers (.admitStatus who st) s who 0x0033 stOK ([5, c.received] ++ r.words))) ∧
  (∀ (s : State) (who st tag : Nat), Runs s → MaySend s.dev who 0x0034 .operator → st < 256 →
    (∀ c, s.dev.conv st tag = some c → c.st = .opened ∨ c.st = .queued →
      Answers (.release who st tag) s who 0x0034 stOK [0] fun d =>
        d.conv st tag = none ∧ EngineRequest.claim st tag ∉ d.adm.queue ∧ d.adm.streams = s.dev.adm.streams ∧
        d.regions = s.dev.regions) ∧
    (s.dev.conv st tag = none → (s.dev.stream st).tag = tag → (s.dev.stream st).st = .active → s.dev.adm.queue.length < 4 →
      Answers (.release who st tag) s who 0x0034 stOK [2] fun d =>
        d.adm.queue = s.dev.adm.queue ++ [.release who st tag] ∧ d.adm.streams = s.dev.adm.streams ∧
        d.regions = s.dev.regions) ∧
    (s.dev.conv st tag = none → (s.dev.stream st).st = .free →
      OnlyAnswers (.release who st tag) s who 0x0034 stWrongState []))

/-- Model commands (R152, R220, R384, R385, R389, R390, R392, R397, R402, R403, R472): buffers, blocks, manifests, status,
resume, discard, switch, adapter restore and re-dress, each with refusals; a block writes its bytes of HBM and no other; a manifest is
read from the bytes of its buffer; a restored adapter's matrices hold their old bytes again.
Model's choices: assumption log 77, 79. -/
def Obligations.ModelCommandsLoadAndSwitchEpochs : Prop :=
  (∀ (s : State) (who m v n src id : Nat), Runs s → MaySend s.dev who 0x0040 .operator → m ≠ 0 → src ≤ 2 →
    s.dev.areaOf m v = none → s.dev.bufferOf m v = none → 1 ≤ n → n ≤ 459072 →
    (s.dev.mm.buffers.length < 4 → Answers (.modelOpen who m v n src id) s who 0x0040 stOK [0] fun d =>
      (∃ b, d.mm.buffers = s.dev.mm.buffers ++ [b] ∧ b.model = m ∧ b.version = v ∧ b.length = n ∧ b.blocks = [] ∧ b.source = src ∧
        b.sourceId = id) ∧ d.mm.slots = s.dev.mm.slots ∧ d.adm = s.dev.adm ∧ d.regions = s.dev.regions) ∧
    (4 ≤ s.dev.mm.buffers.length → OnlyAnswers (.modelOpen who m v n src id) s who 0x0040 stNoCapacity [])) ∧
  (∀ (s : State) (who m v off n a : Nat) (data : List Byte), Runs s → MaySend s.dev who 0x0041 .operator →
    s.dev.areaOf m v = some (n, a) → memWf s.dev.hbm.mem = true →
    (∀ st, (s.dev.area n a).blockCheck (s.dev.session who).blockSize off data.length = some st →
      OnlyAnswers (.modelBlock who m v off data.length false data) s who 0x0041 st []) ∧
    ((s.dev.area n a).blockCheck (s.dev.session who).blockSize off data.length = none →
      Completes (.modelBlock who m v off data.length false data) s fun d =>
        (∀ k, k < data.length →
          memGet d.hbm.mem ((s.dev.area n a).base * shardBytes + off + k) = data.getD k 0) ∧
        (∀ x, x < (s.dev.area n a).base * shardBytes + off ∨ (s.dev.area n a).base * shardBytes + off + data.length ≤ x →
          memGet d.hbm.mem x = memGet s.dev.hbm.mem x) ∧ memWf d.hbm.mem = true ∧
        (d.area n a).st = (s.dev.area n a).st ∧ d.tiles = s.dev.tiles ∧ d.regions = s.dev.regions ∧
        ((d.area n a).shardFull (off / shardBytes) = false → LastReply d who 0x0041 stOK []) ∧
        ((d.area n a).shardFull (off / shardBytes) = true → (who, off / shardBytes) ∈ (d.area n a).replyTo ∧
          d.out = s.dev.out))) ∧
  (∀ (s : State) (who m v off : Nat) (data : List Byte) (b : ManifestBuf), Runs s → MaySend s.dev who 0x0041 .operator →
    s.dev.bufferOf m v = some b → 1 ≤ data.length → data.length ≠ 0xFFFF → data.length ≤ (s.dev.session who).blockSize →
    off + data.length ≤ b.length →
    Answers (.modelBlock who m v off data.length true data) s who 0x0041 stOK [] fun d =>
      d.bufferOf m v = some { b with blocks := (off, data.length) :: b.blocks, data := memWrite b.data off data,
                                     touchedAt := s.dev.real } ∧
      d.mm.slots = s.dev.mm.slots ∧ d.hbm = s.dev.hbm ∧ d.regions = s.dev.regions) ∧
  (∀ (s : State) (who m v dig key : Nat) (ok : Bool) (b : ManifestBuf), Runs s → MaySend s.dev who 0x0042 .operator →
    s.dev.bufferOf m v = some b →
    (b.full = false → OnlyAnswers (.modelManifest who ⟨m, v, dig, key⟩ ok) s who 0x0042 stWrongState []) ∧
    (b.full = true → s.dev.areaOf m v = none →
      (∀ st i, s.dev.checkObject (b.read dig key) m v ok = some (st, i) →
        OnlyAnswers (.modelManifest who ⟨m, v, dig, key⟩ ok) s who 0x0042 st [i]) ∧
      (s.dev.checkObject (b.read dig key) m v ok = none → Completes (.modelManifest who ⟨m, v, dig, key⟩ ok) s fun d =>
        (∃ n a, (d.area n a).st = .receiving ∧ (d.area n a).manifest = some (b.read dig key) ∧ (d.area n a).version = v ∧
          (d.area n a).source = b.source ∧ (d.modelSlot n).model = m ∧
          LastReply d who 0x0042 stOK [(d.area n a).epoch, a, 1]) ∧
        d.bufferOf m v = none ∧ d.hbm = s.dev.hbm ∧ d.tiles = s.dev.tiles ∧ d.regions = s.dev.regions))) ∧
  (∀ (s : State) (who m v : Nat), Runs s → MaySend s.dev who 0x0043 .observer →
    (∀ n a, s.dev.areaOf m v = some (n, a) →
      OnlyAnswers (.modelStatus who m v) s who 0x0043 stOK (s.dev.modelWords n a)) ∧
    (s.dev.areaOf m v = none → s.dev.bufferOf m v = none →
      OnlyAnswers (.modelStatus who m v) s who 0x0043 stWrongState [])) ∧
  (∀ (s : State) (who m v n a : Nat), Runs s → MaySend s.dev who 0x0044 .operator → s.dev.areaOf m v = some (n, a) →
    ((s.dev.area n a).st = .failed → Completes (.modelResume who m v) s fun d =>
      ((d.area n a).st = .receiving ∨ (d.area n a).st = .staging ∨ (d.area n a).st = .staged) ∧
      (∀ i, ((d.area n a).shard i).attempts = 0 ∧ ((d.area n a).shard i).verified = ((s.dev.area n a).shard i).verified) ∧
      LastReply d who 0x0044 stOK [(d.area n a).st.code] ∧ d.hbm = s.dev.hbm ∧ d.regions = s.dev.regions) ∧
    ((s.dev.area n a).st ≠ .failed → OnlyAnswers (.modelResume who m v) s who 0x0044 stWrongState [])) ∧
  (∀ (s : State) (who m v n a : Nat), Runs s → MaySend s.dev who 0x0045 .operator → s.dev.areaOf m v = some (n, a) →
    ((s.dev.modelSlot n).plan.isSome = true → OnlyAnswers (.modelDiscard who m v) s who 0x0045 stBusy []) ∧
    ((s.dev.modelSlot n).plan = none → (s.dev.area n a).st = .active → s.dev.streamsOfModel m ≠ [] →
      OnlyAnswers (.modelDiscard who m v) s who 0x0045 stWrongState []) ∧
    ((s.dev.modelSlot n).plan = none → (s.dev.area n a).st ≠ .active → (s.dev.area n (1 - a)).st = .empty →
      Answers (.modelDiscard who m v) s who 0x0045 stOK [0] fun d =>
        d.modelSlot n = ModelSlot.reset ∧ (∀ k, k ≠ n → d.modelSlot k = s.dev.modelSlot k) ∧ d.adm = s.dev.adm ∧
        d.hbm = s.dev.hbm ∧ d.regions = s.dev.regions)) ∧
  (∀ (s : State) (who n : Nat), Runs s → MaySend s.dev who 0x0046 .operator →
    (15 < n → OnlyAnswers (.switch who n) s who 0x0046 stFieldRange []) ∧
    (n ≤ 15 → (s.dev.modelSlot n).plan.isSome = true → OnlyAnswers (.switch who n) s who 0x0046 stBusy []) ∧
    (n ≤ 15 → (s.dev.modelSlot n).plan = none → (s.dev.modelSlot n).area0.st ≠ .staged →
      (s.dev.modelSlot n).area1.st ≠ .staged → OnlyAnswers (.switch who n) s who 0x0046 stWrongState []) ∧
    (∀ a, n ≤ 15 → (s.dev.modelSlot n).plan = none →
      [0, 1].find? (fun a => decide (((s.dev.modelSlot n).area a).st = .staged)) = some a →
      (∀ e, e ∈ ((s.dev.modelSlot n).area a).partner → s.dev.flt.fenced.contains (ltDie e.2) = false) →
      (((s.dev.modelSlot n).area (1 - a)).st ≠ .active → Answers (.switch who n) s who 0x0046 stOK [0] fun d =>
        ((d.modelSlot n).area a).st = .active ∧ (d.modelSlot n).activeEpoch = ((s.dev.modelSlot n).area a).epoch ∧
        (∀ k, k ≠ n → d.modelSlot k = s.dev.modelSlot k) ∧ d.clusters = s.dev.clusters ∧ d.tiles = s.dev.tiles) ∧
      (((s.dev.modelSlot n).area (1 - a)).st = .active → s.dev.switchPlan (s.dev.modelSlot n) = none →
        OnlyAnswers (.switch who n) s who 0x0046 stDeadline []) ∧
      (∀ p, ((s.dev.modelSlot n).area (1 - a)).st = .active → s.dev.switchPlan (s.dev.modelSlot n) = some p →
        ((s.dev.modelSlot n).area a).epoch % 2 = a → Completes (.switch who n) s fun d =>
          ((d.modelSlot n).area a).st = .active ∧ (d.modelSlot n).activeEpoch = ((s.dev.modelSlot n).area a).epoch ∧
          LastReply d who 0x0046 stOK p.words ∧ d.adm.streams = s.dev.adm.streams))) ∧
  (∀ (s : State) (who n k : Nat), Runs s → MaySend s.dev who 0x0047 .operator → n ≤ 15 →
    (∀ a, [0, 1].find? (fun a => decide (((s.dev.modelSlot n).area a).st = .active)) = some a →
      Answers (.adapterRestore who n k) s who 0x0047 stOK [] fun d =>
        k ∈ (d.area n a).adaptersRestored ∧ (d.area n a).st = .active ∧ d.hbm = s.dev.hbm ∧
        ∀ r, (d.region r).fw = (((s.dev.area n a).adapter k).filter fun x => x.region = r).foldl
            (fun w x => x.rows.foldl (fun w e => memWrite w e.1 e.2) w) (s.dev.region r).fw ∧
          (d.region r).regs = (s.dev.region r).regs ∧ (d.region r).arch = (s.dev.region r).arch ∧
          (d.region r).scratch = (s.dev.region r).scratch) ∧
    ((s.dev.modelSlot n).area0.st ≠ .active → (s.dev.modelSlot n).area1.st ≠ .active →
      OnlyAnswers (.adapterRestore who n k) s who 0x0047 stWrongState [])) ∧
  (∀ (s : State) (who u p : Nat), Runs s → MaySend s.dev who 0x0048 .maintainer → unitCheck s.dev u = stOK → unitLevel u = 0 →
    unitPhys u = false →
    (s.dev.flt.fenced.contains (ltDie (unitLtOf u)) = true → OnlyAnswers (.redress who u) s who 0x0048 stFenced []) ∧
    (s.dev.flt.fenced.contains (ltDie (unitLtOf u)) = false → s.dev.physOf (unitLtOf u) = some p →
      Completes (.redress who u) s fun d =>
        (∃ x, x ∈ (d.cluster (ltCluster (unitLtOf u))).redress ∧ x.logical = unitLtOf u) ∧
        LastReply d who 0x0048 stOK
          [((d.cluster (ltCluster (unitLtOf u))).redress.takeWhile fun x => x.logical ≠ unitLtOf u).length + 1] ∧
        (∀ l, d.physOf l = s.dev.physOf l) ∧ d.tiles = s.dev.tiles ∧ d.regions = s.dev.regions))

/-- A session below the role of a command changes nothing (R462, R467, R580): the command is answered NOT_AUTHORISED before
any other check, whatever its operands, and no other part of the device differs. -/
def Obligations.UnderprivilegedSessionChangesNothing : Prop :=
  ∀ (i : Instr) (s : State) (who code : Nat) (need : Role), Runs s → commandOf i = some (who, code, need) →
    s.dev.served who = true → s.dev.hasRole who need = false → OnlyAnswers i s who code stNotAuthorised []

/-- Firmware, attestation, anchor, key and debug commands (R512 to R515, R519, R520, R525, R532 to R536, R540, R543): what
each accepts and stores, and the refusals of a bad signature, a rollback, a wrong state and a failed burn. -/
def Obligations.FirmwareAndSecurityCommands : Prop :=
  (∀ (s : State) (who key : Nat) (ok : Bool) (data : List Byte), Runs s → MaySend s.dev who 0x0050 .owner → data.length = 512 →
    let h := readFwHeader data key ok
    h.reservedZero = true → h.fieldsOk = true → h.offsetsOk = true → s.dev.sec.fw.st = .none → s.dev.sec.activation = none →
    (key ≠ s.dev.sec.vendorAnchor → OnlyAnswers (.fwOpen who data ⟨key, ok⟩) s who 0x0050 stNotAuthorised []) ∧
    (key = s.dev.sec.vendorAnchor → ok = false → Answers (.fwOpen who data ⟨key, ok⟩) s who 0x0050 stSignature [] fun d =>
      d.sec.fw = s.dev.sec.fw ∧ d.sec.sigFail = true ∧ d.sec.sigFailCount = satInc s.dev.sec.sigFailCount) ∧
    (key = s.dev.sec.vendorAnchor → ok = true → s.dev.sec.svnsOk h = false →
      Answers (.fwOpen who data ⟨key, ok⟩) s who 0x0050 stRollback [] fun d =>
        d.sec.fw = s.dev.sec.fw ∧ d.sec.rollback = true) ∧
    (key = s.dev.sec.vendorAnchor → ok = true → s.dev.sec.svnsOk h = true → s.dev.sec.fwVersion ≤ h.version →
      Answers (.fwOpen who data ⟨key, ok⟩) s who 0x0050 stOK [1] fun d =>
        d.sec.fw.st = .receiving ∧ d.sec.fw.header = some h ∧ d.sec.fw.units = [] ∧ d.sec.fw.verified = 0 ∧
        d.sec.fwVersion = s.dev.sec.fwVersion ∧ d.regions = s.dev.regions)) ∧
  (∀ (s : State) (who key : Nat) (ok : Bool) (data : List Byte), Runs s → MaySend s.dev who 0x0050 .owner → data.length ≠ 512 →
    OnlyAnswers (.fwOpen who data ⟨key, ok⟩) s who 0x0050 stLength []) ∧
  (∀ (s : State) (who off digest : Nat) (data : List Byte) (h : FwHeader), Runs s → MaySend s.dev who 0x0051 .owner →
    s.dev.sec.fw.header = some h → s.dev.sec.fw.st = .receiving → 1 ≤ data.length → data.length ≠ 0xFFFF →
    data.length ≤ (s.dev.session who).blockSize → off + data.length ≤ h.payloadLength →
    h.partAt off = h.partAt (off + data.length - 1) → off % 64 = 0 → data.length % 64 = 0 →
    bit s.dev.sec.fw.verified (h.partAt off) = false →
    let us := (List.range (data.length / 64)).map fun i => off / 64 + i
    let c : FwConv := { s.dev.sec.fw with
      buf := memWrite s.dev.sec.fw.buf off data, touchedAt := s.dev.real,
      units := s.dev.sec.fw.units ++ us.filter fun u => !s.dev.sec.fw.units.contains u }
    (c.partFull (h.part (h.partAt off)) = false →
      Answers (.fwBlock who h.version h.build off data.length data digest) s who 0x0051 stOK [] fun d =>
        d.sec.fw = c ∧ d.sec.flashTorn = s.dev.sec.flashTorn ∧ d.regions = s.dev.regions) ∧
    (c.partFull (h.part (h.partAt off)) = true → digest ≠ (h.part (h.partAt off)).digest →
      Answers (.fwBlock who h.version h.build off data.length data digest) s who 0x0051 stDigest
        [(h.part (h.partAt off)).type] fun d => d.sec.fw.st = .receiving ∧ d.sec.fw.verified = s.dev.sec.fw.verified) ∧
    (c.partFull (h.part (h.partAt off)) = true → digest = (h.part (h.partAt off)).digest →
      Answers (.fwBlock who h.version h.build off data.length data digest) s who 0x0051 stOK [] fun d =>
        d.sec.fw.verified = s.dev.sec.fw.verified ||| 2 ^ (h.partAt off) ∧
        d.sec.fw.st = (if s.dev.sec.fw.verified ||| 2 ^ (h.partAt off) = 7 then .writing else .receiving))) ∧
  (∀ (s : State) (who v b : Nat), Runs s → MaySend s.dev who 0x0052 .observer →
    (∀ h, s.dev.sec.fw.header = some h → s.dev.sec.fw.st ≠ .none → h.version = v → h.build = b →
      OnlyAnswers (.fwStatus who v b) s who 0x0052 stOK [s.dev.sec.fwCode, v, b, 64 * s.dev.sec.fw.units.length,
        s.dev.sec.fw.verified, s.dev.sec.fw.flashWritten, s.dev.sec.fw.failStatus, s.dev.qWord]) ∧
    ((s.dev.sec.fw.st = .none ∨ ∀ h, s.dev.sec.fw.header = some h → ¬ (h.version = v ∧ h.build = b)) →
      OnlyAnswers (.fwStatus who v b) s who 0x0052 stOK [0])) ∧
  (∀ (s : State) (who n : Nat), Runs s → MaySend s.dev who 0x0053 .owner → 1 ≤ n → n ≤ 10000 →
    (s.dev.sec.fw.st ≠ .staged → OnlyAnswers (.activate who 1 n true) s who 0x0053 stWrongState []) ∧
    (s.dev.sec.fw.st = .staged → s.dev.sec.activation.isSome = true → OnlyAnswers (.activate who 1 n true) s who 0x0053 stBusy []) ∧
    (s.dev.sec.fw.st = .staged → s.dev.sec.activation = none → s.dev.sec.mode ≠ .recovery →
      Answers (.activate who 1 n true) s who 0x0053 stOK [merOf (boundaryFrom (s.dev.clk.now + msTc 2))] fun d =>
        (∃ a, d.sec.activation = some a ∧ a.q = some (boundaryFrom (s.dev.clk.now + msTc 2)) ∧ a.drain = false) ∧
        d.adm.closed = true ∧
        (∀ k, k ∈ s.dev.liveStreams → (d.stream k).st = .releasing ∧ (d.stream k).guarantee = false) ∧
        d.regions = s.dev.regions) ∧
    (s.dev.sec.fw.st = .staged → s.dev.sec.activation = none → s.dev.sec.mode ≠ .recovery → s.dev.noStream = true →
      Answers (.activate who 0 n true) s who 0x0053 stOK [merOf (boundaryFrom s.dev.clk.now)] fun d =>
        (∃ a, d.sec.activation = some a ∧ a.q = some (boundaryFrom s.dev.clk.now) ∧ a.drain = true) ∧ d.adm.closed = true)) ∧
  (∀ (s : State) (who n nonce : Nat), Runs s → MaySend s.dev who 0x0054 .observer →
    (n ≠ 32 → OnlyAnswers (.attest who n nonce) s who 0x0054 stLength []) ∧
    Completes (.attest who 32 nonce) s (fun d => SameButSession s.dev d who ∧
      ∃ sig, LastReply d who 0x0054 stOK
        [s.dev.tb.st.code,
         2 ^ 24 + s.dev.sec.lifeCode * 2 ^ 22 + s.dev.sec.mode.code * 2 ^ 20 + s.dev.sec.grade * 2 ^ 16 + s.dev.liveDies * 2 ^ 8,
         s.dev.sec.anchorWord, s.dev.sec.deviceId, s.dev.pab.bootId, s.dev.mer, nonce, svnWord s.dev.sec.svnRun,
         svnWord s.dev.sec.arb, s.dev.sec.fwVersion, s.dev.sec.fwBuild, s.dev.sec.measLoader, s.dev.sec.measHub,
         s.dev.sec.measDie, sig])) ∧
  (∀ (s : State) (who k : Nat) (b : AnchorBody), Runs s → MaySend s.dev who 0x0055 .owner → s.dev.sec.claim = false →
    s.dev.sec.anchors.length = 4 → b.slot < 4 →
    (∀ st, s.dev.anchorCheck who b = some st → OnlyAnswers (.anchorSet who b k) s who 0x0055 st []) ∧
    (s.dev.anchorCheck who b = none → b.op = 0 → 3 ≤ k → Answers (.anchorSet who b k) s who 0x0055 stOK [] fun d =>
      (d.sec.anchor b.slot).present = true ∧ (d.sec.anchor b.slot).hash = b.hash ∧ (d.sec.anchor b.slot).ceiling = b.ceiling ∧
      d.sec.lifecycle = .owned ∧ (∀ j, j ≠ b.slot → d.sec.anchor j = s.dev.sec.anchor j) ∧ d.regions = s.dev.regions) ∧
    (s.dev.anchorCheck who b = none → b.op = 0 → k < 3 → Answers (.anchorSet who b k) s who 0x0055 stInternal [] fun d =>
      (d.sec.anchor b.slot).lost = true ∧ d.sec.otpBurnFailCount = satInc s.dev.sec.otpBurnFailCount ∧
      d.sec.otpBurnFail = true) ∧
    (s.dev.anchorCheck who b = none → b.op = 1 → 1 ≤ k → Completes (.anchorSet who b k) s fun d =>
      (d.sec.anchor b.slot).revoked = true ∧ Out.reply who 0x0055 stOK [] ∈ d.out ∧ (d.session who).inUse = true ∧
      (∀ n, n < 8 → (s.dev.session n).inUse = true → (s.dev.session n).anchor = b.slot → (d.session n).inUse = false) ∧
      (∀ n, n ≠ who → (s.dev.session n).anchor ≠ b.slot → d.session n = s.dev.session n) ∧ d.mm.slots.length = s.dev.mm.slots.length ∧
      d.regions = s.dev.regions)) ∧
  (∀ (s : State) (who k : Nat) (b : AnchorBody), Runs s → MaySend s.dev who 0x0055 .owner → s.dev.sec.claim = true →
    s.dev.sec.anchors.length = 4 → s.dev.anchorCheck who b = none → 3 ≤ k → Completes (.anchorSet who b k) s fun d =>
      (d.sec.anchor 0).present = true ∧ (d.sec.anchor 0).hash = (s.dev.session who).root ∧ (d.sec.anchor 0).ceiling = 0 ∧
      d.sec.lifecycle = .owned ∧ d.sec.claim = false ∧ (d.session who).inUse = false) ∧
  (∀ (s : State) (who : Nat) (b : KeyBody), Runs s → MaySend s.dev who 0x0056 .owner → b.reservedZero = true →
    (b.op = 0 → b.length = 72 → b.port ≤ 15 → 1 ≤ b.cknLen → b.cknLen ≤ 32 →
      (s.dev.sec.keystore.filter fun k => k.port = b.port).length < 2 →
      Answers (.keySet who b) s who 0x0056 stOK [] fun d =>
        (∃ k, k ∈ d.sec.keystore ∧ k.port = b.port ∧ k.ckn = b.ckn ∧ k.cak = b.cak ∧ k.prio = b.prio) ∧
        d.sec.keystoreWrites = s.dev.sec.keystoreWrites + 1 ∧ d.dp = s.dev.dp ∧ d.regions = s.dev.regions) ∧
    (b.op = 1 → b.length = 40 → b.port ≤ 15 → 1 ≤ b.cknLen → b.cknLen ≤ 32 →
      (∃ k, k ∈ s.dev.sec.keystore ∧ k.port = b.port ∧ k.ckn = b.ckn) →
      Answers (.keySet who b) s who 0x0056 stOK [] fun d =>
        ∀ k, k ∈ d.sec.keystore ↔ k ∈ s.dev.sec.keystore ∧ ¬ (k.port = b.port ∧ k.ckn = b.ckn)) ∧
    (b.op = 2 → b.length = 40 → Answers (.keySet who b) s who 0x0056 stOK [] fun d =>
      d.sec.keystore = [] ∧ ∀ p, p < 16 → (d.port p).sakInstalled = false)) ∧
  (∀ (s : State) (who : Nat) (t : DebugToken), Runs s → MaySend s.dev who 0x0057 .owner → t.length = 256 → t.reservedZero = true →
    t.scope ≤ 3 → t.magic = 0xD0F1DB60 → t.deviceId = s.dev.sec.deviceId → t.bootId = s.dev.pab.bootId →
    (t.keyHash ≠ s.dev.sec.vendorAnchor → OnlyAnswers (.debugUnlock who t) s who 0x0057 stNotAuthorised []) ∧
    (t.keyHash = s.dev.sec.vendorAnchor → t.signatureOk = false →
      OnlyAnswers (.debugUnlock who t) s who 0x0057 stSignature []) ∧
    (t.keyHash = s.dev.sec.vendorAnchor → t.signatureOk = true → Answers (.debugUnlock who t) s who 0x0057 stOK [] fun d =>
      d.sec.debugNext = some t.scope ∧ d.sec.mode = s.dev.sec.mode ∧ d.regions = s.dev.regions))

/-- Firmware, security and settings events (R342, R522, R523, R535, R540, R542, R566, R569): the flash write ends in STAGED
or FAILED; the drain limit sets Q and breaches what is left; a health failure stops the DRBG until a retest passes, the 60th
failure in a row enters ERROR; a settings record burns its lowest blank generation. Model's choices: assumption log 19. -/
def Obligations.FirmwareSecurityAndSettingsEvents : Prop :=
  (∀ s : State, Runs s → s.dev.sec.fw.st = .writing →
    Completes (.flashWriteComplete true) s (fun d =>
      d.sec.fw.st = .staged ∧ d.sec.flashTorn = false ∧ d.sec.flashGen = s.dev.sec.flashGen + 1 ∧
      (∀ h, s.dev.sec.fw.header = some h → d.sec.fw.flashWritten = h.payloadLength) ∧ d.sec.fwVersion = s.dev.sec.fwVersion ∧
      d.regions = s.dev.regions) ∧
    Completes (.flashWriteComplete false) s (fun d =>
      d.sec.fw.st = .failed ∧ d.sec.fw.failStatus = stInternal ∧ d.sec.flashTorn = s.dev.sec.flashTorn ∧
      d.regions = s.dev.regions)) ∧
  (∀ (s : State) (b : Bool), Runs s → s.dev.sec.fw.st ≠ .writing →
    exec (.flashWriteComplete b) s = .next (becomes s s.dev)) ∧
  (∀ (s : State) (a : Activation), Runs s → s.dev.sec.activation = some a → a.drain = true → a.q = none → a.limitAt ≤ s.dev.clk.now →
    Completes .drainLimitExpiry s fun d =>
      (∃ b, d.sec.activation = some b ∧ b.q = some (boundaryFrom s.dev.clk.now)) ∧
      (∀ n, n ∈ s.dev.liveStreams → (d.stream n).guarantee = false ∧ 5 ∈ (d.stream n).clearedBy) ∧ d.regions = s.dev.regions) ∧
  (∀ s : State, Runs s → s.dev.sec.activation = none ∨ (∃ a, s.dev.sec.activation = some a ∧ s.dev.clk.now < a.limitAt) →
    exec .drainLimitExpiry s = .next (becomes s s.dev)) ∧
  (∀ s : State, Runs s → Completes .trngHealthFail s fun d =>
    d.sec.trngWarn = true ∧ d.sec.drbgStopped = true ∧ d.sec.trngFailCount = satInc s.dev.sec.trngFailCount ∧
    bit d.glbEvent 7 = true ∧ d.sec.mode = s.dev.sec.mode ∧ d.bcp = s.dev.bcp ∧ d.regions = s.dev.regions) ∧
  (∀ s : State, Runs s → s.dev.sec.drbgStopped = true → s.dev.sec.retestAt + msTc 1000 ≤ s.dev.real →
    Completes (.trngRetest true) s (fun d => d.sec.drbgStopped = false ∧ d.sec.retestFails = 0 ∧ d.bcp = s.dev.bcp) ∧
    (s.dev.sec.retestFails + 1 ≠ 60 → Completes (.trngRetest false) s fun d =>
      d.sec.retestFails = s.dev.sec.retestFails + 1 ∧ d.sec.retestAt = s.dev.real ∧ d.sec.drbgStopped = true ∧ d.sec.mode = s.dev.sec.mode ∧
      d.bcp = s.dev.bcp) ∧
    (s.dev.sec.retestFails + 1 = 60 → Completes (.trngRetest false) s fun d =>
      d.sec.mode = .error ∧ d.start.st = .error ∧ d.pins.faultLow = true ∧ (∀ n, n < 8 → (d.session n).inUse = false) ∧
      (∀ p, p < 16 → (d.port p).sakInstalled = false) ∧ d.bcp.handshakes = [] ∧ d.adm.streams = s.dev.adm.streams ∧
      d.regions = s.dev.regions)) ∧
  (∀ (s : State) (b : Bool), Runs s → s.dev.sec.drbgStopped = false ∨ s.dev.real < s.dev.sec.retestAt + msTc 1000 →
    exec (.trngRetest b) s = .next (becomes s s.dev)) ∧
  (∀ s : State, Runs s → exec .migrationComplete s =
    .next (becomes s { s.dev with sec := { s.dev.sec with migrating := false } })) ∧
  (∀ (s : State) (who t : Nat), Runs s → MayWrite s.dev who .owner → 1 ≤ t → t ≤ 9 →
    s.dev.settingCheck t s.dev.settings.stage = stOK →
    (∀ g, (List.range 4).find? (fun g => (lget Generation.blank (s.dev.settings.gens t) g).isBlank) = some g →
      g < (s.dev.settings.gens t).length →
      Completes (.setCommit who t true) s (fun d =>
        lget Generation.blank (d.settings.gens t) g = .good 1 s.dev.settings.stage ∧
        (∀ j, j ≠ g → lget Generation.blank (d.settings.gens t) j = lget Generation.blank (s.dev.settings.gens t) j) ∧
        d.settings.stage = s.dev.settings.stage ∧ d.therm = s.dev.therm ∧ d.tb = s.dev.tb ∧
        (who ≠ 8 → LastReply d who cmdRegWrite stOK [])) ∧
      Completes (.setCommit who t false) s (fun d =>
        lget Generation.blank (d.settings.gens t) g = .spent ∧
        d.sec.otpBurnFailCount = satInc s.dev.sec.otpBurnFailCount ∧
        (who ≠ 8 → LastReply d who cmdRegWrite stInternal []))) ∧
    ((List.range 4).find? (fun g => (lget Generation.blank (s.dev.settings.gens t) g).isBlank) = none → who ≠ 8 →
      OnlyAnswers (.setCommit who t true) s who cmdRegWrite stNoCapacity []))

/-! ### Ports and frames (chapter 15) -/

/-- Ports, MACsec, ports A and B and reports (R64, R342, R476 to R481, R497 to R502, R505, R520): training ends UP, UP_DEGRADED or
DOWN, a lost link trains again with its streams breached and the PTP reference on it lost, QUAD_CFG changes only unused quads; an SAK is installed for a known
key and lost at the end of its life; datagrams, link changes and reports act as their rules say. Model's choices: assumption
log 87. -/
def Obligations.PortsTrainSecureAndReport : Prop :=
  (∀ (s : State) (p l r : Nat), Runs s → s.dev.portExists p = true → (s.dev.port p).st = .training →
    Completes (.portTrainingComplete p l r false) s (fun d =>
      (d.port p).st = .down ∧ (d.port p).lanes = 0 ∧ (∀ q, q ≠ p → d.port q = s.dev.port q) ∧
      ((s.dev.port p).retry = true → d.pab = s.dev.pab) ∧ d.adm = s.dev.adm) ∧
    (s.dev.typeAllowed p l r = true → Completes (.portTrainingComplete p l r true) s fun d =>
      (d.port p).st = (if l = s.dev.widthOf p ∧ r = 0 then .up else .upDegraded) ∧ (d.port p).lanes = l ∧ (d.port p).rate = r ∧
      (∀ q, q ≠ p → d.port q = s.dev.port q) ∧ d.dp.degradedF = (s.dev.dp.degradedF || decide (¬ (l = s.dev.widthOf p ∧ r = 0))) ∧
      d.regions = s.dev.regions)) ∧
  (∀ (s : State) (p l r : Nat) (b : Bool), Runs s → (s.dev.port p).st ≠ .training →
    exec (.portTrainingComplete p l r b) s = .next (becomes s s.dev)) ∧
  (∀ s : State, Runs s → Completes .portRetryTimer s fun d =>
    (∀ p, (d.port p).st = (if p ∈ s.dev.portList ∧ s.dev.portsStarted = true ∧ (s.dev.port p).st = .down ∧
        (s.dev.port p).downAt + msTc 10000 ≤ s.dev.real then .training
      else (s.dev.port p).st)) ∧ d.pab = s.dev.pab ∧ d.adm = s.dev.adm) ∧
  (∀ (s : State) (p : Nat), Runs s → s.dev.portExists p = true →
    ((s.dev.port p).up = true → Completes (.portLinkLoss p) s fun d =>
      (d.port p).st = .training ∧ (d.port p).linkDown = satInc (s.dev.port p).linkDown ∧ d.dp.linkLostF = true ∧
      (∀ q, q ≠ p → d.port q = s.dev.port q) ∧
      (∀ n, n ∈ s.dev.streamsOnPort p → (d.stream n).guarantee = false ∧ 4 ∈ (d.stream n).clearedBy) ∧
      (s.dev.ptpPortOf (p / 4) = some p → s.dev.tb.refSrc = p / 4 → s.dev.tb.st = .locked ∨ s.dev.tb.st = .acquiring →
        d.tb.loss = true ∧ (d.tb.st ≠ .locked ∨ d.tb.refSrc ≠ p / 4))) ∧
    ((s.dev.port p).up = false → exec (.portLinkLoss p) s = .next (becomes s s.dev))) ∧
  (∀ (s : State) (who v : Nat), Runs s → MayWrite s.dev who .operator →
    (∀ q, q < 4 → bits (v / 2 ^ (8 * q) % 256) 7 4 = 0 ∧ bits (v / 2 ^ (8 * q) % 256) 3 2 ≠ 3) →
    ((∀ q, q < 4 → v / 2 ^ (8 * q) % 256 ≠ lget 0 s.dev.dp.quadCfg q → s.dev.quadUsed q = false) →
      Completes (.quadCfgWrite who v) s fun d =>
        d.dp.quadCfg = (List.range 4).map (fun q => v / 2 ^ (8 * q) % 256) ∧
        (∀ p, p < 16 → v / 2 ^ (8 * (p / 4)) % 256 = lget 0 s.dev.dp.quadCfg (p / 4) → d.port p = s.dev.port p) ∧
        ((∀ q, q < 4 → v / 2 ^ (8 * q) % 256 ≠ lget 0 s.dev.dp.quadCfg q → s.dev.tb.refSrc ≠ q) → d.adm = s.dev.adm) ∧
        (who ≠ 8 → LastReply d who cmdRegWrite stOK [])) ∧
    ((∃ q, q < 4 ∧ v / 2 ^ (8 * q) % 256 ≠ lget 0 s.dev.dp.quadCfg q ∧ s.dev.quadUsed q = true) → who ≠ 8 →
      OnlyAnswers (.quadCfgWrite who v) s who cmdRegWrite stWrongState [])) ∧
  (∀ (s : State) (p ckn peer sci : Nat) (key : Bool), Runs s → (s.dev.port p).up = true → s.dev.sec.mode ≠ .error →
    ((∃ k, k ∈ s.dev.caksOf p ∧ k.ckn = ckn) → (s.dev.port p).sakInstalled = false → key = true ∨ s.dev.sec.drbgStopped = false →
      Completes (.mkaFrame p ckn peer true sci key) s fun d =>
        (d.port p).sakInstalled = true ∧ (d.port p).sakSci = sci ∧ (d.port p).mkaPeer = some peer ∧
        (d.port p).st = (s.dev.port p).st ∧ ∀ q, q ≠ p → d.port q = s.dev.port q) ∧
    ((∀ k, k ∈ s.dev.caksOf p → k.ckn ≠ ckn) → exec (.mkaFrame p ckn peer true sci key) s = .next (becomes s s.dev)) ∧
    exec (.mkaFrame p ckn peer false sci key) s = .next (becomes s s.dev)) ∧
  (∀ (s : State) (p : Nat), Runs s →
    ((s.dev.port p).mkaAt + msTc 6000 ≤ s.dev.real → Completes (.mkaLifeExpiry p) s fun d =>
      (d.port p).sakInstalled = false ∧ (d.port p).mkaPeer = none ∧ (d.port p).st = (s.dev.port p).st ∧
      ∀ q, q ≠ p → d.port q = s.dev.port q) ∧
    (s.dev.real < (s.dev.port p).mkaAt + msTc 6000 → exec (.mkaLifeExpiry p) s = .next (becomes s s.dev))) ∧
  (∀ s : State, Runs s → s.dev.real < s.dev.dp.helloAt + msTc 2000 → exec .mkaHelloTimer s = .next (becomes s s.dev)) ∧
  (∀ s : State, Runs s → s.dev.dp.helloAt + msTc 2000 ≤ s.dev.real → Completes .mkaHelloTimer s fun d =>
    d.dp.helloAt = s.dev.real ∧ ∀ p, p ∈ s.dev.portList → (s.dev.port p).up = true → s.dev.caksOf p ≠ [] →
      (d.port p).mkaMsgNo = (s.dev.port p).mkaMsgNo + 1 ∧ Out.mka p ((s.dev.port p).mkaMsgNo + 1) ∈ d.out) ∧
  (∀ (s : State) (p kind src : Nat), Runs s → p ≤ 1 → s.dev.pabUp p = true → s.dev.pins.hubHalted = false →
    (5 ≤ kind → Completes (.pabDatagram p kind src true) s fun d =>
      d.pab.discards = satInc s.dev.pab.discards ∧ d.out = s.dev.out) ∧
    (kind < 4 → (∀ e, e ∈ s.dev.pab.sources → ¬ (e.1 = p ∧ e.2.1 = src)) → Completes (.pabDatagram p kind src true) s fun d =>
      d.out = .pab p kind :: s.dev.out ∧ d.pab.discards = s.dev.pab.discards ∧ (p, src, s.dev.real, 1) ∈ d.pab.sources) ∧
    (∀ t n, s.dev.pab.sources.find? (fun e => decide (e.1 = p) && decide (e.2.1 = src)) = some (p, src, t, n) →
      s.dev.real < t + msTc 1000 → 20000 ≤ n → Completes (.pabDatagram p kind src true) s fun d =>
        d.pab.discards = satInc s.dev.pab.discards ∧ d.out = s.dev.out)) ∧
  (∀ s : State, Runs s → s.dev.collectors ≠ [] → s.dev.reports = true →
    (s.dev.pab.items ≠ [] → s.dev.pab.items.length ≤ 32 → s.dev.pab.lost = 0 → s.dev.reportPause (msTc 10) = true →
     Completes .reportDatagramSend s fun d => d.pab.items = [] ∧ d.pab.sentAt = some s.dev.real ∧ d.pab.rseq = s.dev.pab.rseq + 1 ∧
      ∀ c, c ∈ s.dev.collectors → Out.report c s.dev.pab.bootId (s.dev.pab.rseq + 1) s.dev.mer s.dev.pab.items ∈ d.out) ∧
    (s.dev.pab.items = [] → s.dev.pab.lost = 0 → s.dev.reportPause (msTc 1000) = true → Completes .reportHeartbeat s fun d =>
      d.pab.rseq = s.dev.pab.rseq + 1 ∧ ∀ c, c ∈ s.dev.collectors →
        Out.report c s.dev.pab.bootId (s.dev.pab.rseq + 1) s.dev.mer [] ∈ d.out) ∧
    (s.dev.pab.items ≠ [] ∨ s.dev.reportPause (msTc 1000) = false → exec .reportHeartbeat s = .next (becomes s s.dev)) ∧
    (s.dev.reportPause (msTc 10) = false → exec .reportDatagramSend s = .next (becomes s s.dev))) ∧
  (∀ s : State, Runs s → s.dev.pab.items = [] → s.dev.pab.lost = 0 →
    exec .reportDatagramSend s = .next (becomes s s.dev)) ∧
  (∀ (s : State) (who : Nat), Runs s → MayRead s.dev who .observer → Completes (.reportSeqLoRead who) s fun d =>
    d.pab = { s.dev.pab with rseqLatch := s.dev.pab.rseq } ∧
    (who ≠ 8 → LastReply d who cmdRegRead stOK [s.dev.pab.rseq % 2 ^ 32])) ∧
  (∀ (s : State) (p : Nat) (b : Bool), Runs s → p ≤ 1 →
    (s.dev.pabUp p ≠ b → p = 0 ∨ s.dev.sec.mode ≠ .recovery → Completes (.portAbLinkChange p b) s fun d =>
      d.pabUp p = b ∧ (if p = 0 then d.pab.linkAF else d.pab.linkBF) = true ∧ d.dp = s.dev.dp) ∧
    (s.dev.pabUp p = b → exec (.portAbLinkChange p b) s = .next (becomes s s.dev)))

/-- Frames received (R234, R389, R393, R480, R488 to R497): the checks come in their order and each counts; an accepted
TENSOR or fronthaul frame completes its tokens in its batch, the cut-off moves to the next batch, fabric data goes to a
receive window, shard data to its bytes of HBM; a quarantine ends on its timer or by release. Model's choices: assumption log
87, 88. -/
def Obligations.FramesPassTheirChecksToTheirPlace : Prop :=
  (∀ (s : State) (p mac flow seq mer t0 fmt bytes : Nat) (ok : Bool) (tokens : List (List Byte)) (recs : List Nat), Runs s →
    let i : Instr := .tensorFrame p mac flow seq mer t0 fmt ok tokens recs bytes
    ((s.dev.port p).up = false → exec i s = .next (becomes s (s.dev.updDp fun x => { x with downDrops := satInc x.downDrops }))) ∧
    ((s.dev.port p).up = true → (∃ k, s.dev.partnerOf p mac = some k ∧ (s.dev.partner k).st = 2) →
      exec i s = .next (becomes s (s.dev.updPort p fun x => { x with quarDrop := satInc x.quarDrop }))) ∧
    ((s.dev.port p).up = true → s.dev.partnerOf p mac = none →
      (ok = false → exec i s = .next (becomes s (s.dev.updPort p fun x => { x with malformedDrop := satInc x.malformedDrop }))) ∧
      (ok = true → s.dev.boundStream p 1 mac flow = none →
        exec i s = .next (becomes s (s.dev.updPort p fun x => { x with unknownDrop := satInc x.unknownDrop }))) ∧
      (∀ n, ok = true → s.dev.boundStream p 1 mac flow = some n →
        let b := beatNo (s.dev.stream n).almanac (ofMer mer)
        (merOk mer = true → s.dev.batchOpen n b = false →
          exec i s = .next (becomes s (s.dev.updPort p fun x => { x with lateDrop := satInc x.lateDrop }))) ∧
        (merOk mer = true → s.dev.batchOpen n b = true → s.dev.tensorOk n mer t0 fmt tokens recs = true →
          (∀ e, e ∈ (s.dev.batch n).seen → e.2 ≠ [seq]) → Completes i s fun d =>
            (∀ k, k < tokens.length → (b, t0 + k) ∈ (d.batch n).tokens) ∧ (b, [seq]) ∈ (d.batch n).seen ∧
            (d.batch n).beat = (s.dev.batch n).beat ∧ d.port p = s.dev.port p ∧
            (∀ r, r ≠ s.dev.bindRegion n → d.region r = s.dev.region r) ∧ d.hbm = s.dev.hbm ∧ d.adm = s.dev.adm)))) ∧
  (∀ (s : State) (p mac eaxc seq f sub slot sym bytes n : Nat) (y : UplaneSection), Runs s → (s.dev.port p).up = true →
    s.dev.partnerOf p mac = none → s.dev.boundStream p 0 mac eaxc = some n →
    let mu := bits (s.dev.bindWord n 0) 16 14
    let nprb := bits (s.dev.bindWord n 6) 8 0
    let idx := sub * 2 ^ mu + slot
    let spb := (slotsPerBeat mu (s.dev.stream n).almanac).getD 1
    let b := nearestFrame s.dev.clk.frame (f % 256) * (s.dev.stream n).almanac + idx / spb
    let token := idx % spb * 14 + sym
    Completes (.uplaneFrame p mac eaxc seq f sub slot sym false [y] bytes) s (fun d =>
      (d.port p).malformedDrop = satInc (s.dev.port p).malformedDrop ∧ d.regions = s.dev.regions ∧
      d.dp.batches = s.dev.dp.batches) ∧
    (sub < 10 → sym < 14 → slot < 2 ^ mu → s.dev.sectionOk n y = true → s.dev.batchOpen n b = true → token < s.dev.bindTmax n →
      (b, [token, seq, y.startPrb, y.numPrb]) ∉ (s.dev.batch n).seen →
      Completes (.uplaneFrame p mac eaxc seq f sub slot sym true [y] bytes) s fun d =>
        (b, [token, seq, y.startPrb, y.numPrb]) ∈ (d.batch n).seen ∧
        (y.startPrb = 0 → y.numPrb = nprb → (∀ e, e ∈ (s.dev.batch n).part → ¬ (e.1 = b ∧ e.2.1 = token)) →
          (b, token) ∈ (d.batch n).tokens) ∧
        (∀ e, e ∈ (s.dev.batch n).tokens → e ∈ (d.batch n).tokens) ∧ d.port p = s.dev.port p ∧
        (∀ r, r ≠ s.dev.bindRegion n → d.region r = s.dev.region r) ∧ d.hbm = s.dev.hbm ∧ d.adm = s.dev.adm)) ∧
  (∀ (s : State) (n : Nat), Runs s → (s.dev.filling n = false ∨ s.dev.cutoffCame n = false → exec (.batchCutoff n) s = .next (becomes s s.dev)) ∧
    (s.dev.filling n = true → s.dev.cutoffCame n = true → (s.dev.stream n).ingress ≠ [] → Completes (.batchCutoff n) s fun d =>
      (d.batch n).beat = (s.dev.batch n).beat + 1 ∧
      ((∀ t, t < s.dev.bindTmax n → ((s.dev.batch n).beat, t) ∈ (s.dev.batch n).tokens) →
        (d.batch n).incomplete = 0 ∧ (d.batch n).inputLost = false ∧ d.regions = s.dev.regions) ∧
      ((∃ t, t < s.dev.bindTmax n ∧ ((s.dev.batch n).beat, t) ∉ (s.dev.batch n).tokens) →
        (d.batch n).incomplete = (s.dev.batch n).incomplete + 1 ∧
        (s.dev.dp.streamTimeout ≤ (s.dev.batch n).incomplete + 1 → (s.dev.batch n).inputLost = false →
          (d.batch n).inputLost = true ∧ d.dp.inputLostF = true)) ∧
      (∀ r, r ≠ s.dev.bindRegion n → d.region r = s.dev.region r) ∧ d.hbm = s.dev.hbm)) ∧
  (∀ (s : State) (p mac ch seq r w : Nat) (data : List Byte), Runs s → (s.dev.port p).up = true → s.dev.partnerOf p mac = none →
    exec (.fabricFrame p mac ch seq true false data) s = .next (becomes s s.dev) ∧
    (s.dev.secured p mac = false → exec (.fabricFrame p mac ch seq true true data) s =
      .next (becomes s (s.dev.updPort p fun x => { x with malformedDrop := satInc x.malformedDrop }))) ∧
    (s.dev.secured p mac = true → data.length ≤ 8192 →
      (s.dev.liveStreams.findSome? fun n =>
        ((s.dev.stream n).channels.find? fun c => c.1 = ch && c.2.1 = mac).map fun c => c.2.2) = some (r, w) →
      Completes (.fabricFrame p mac ch seq true true data) s fun d =>
        d.regions = (s.dev.remoteWrite r
          (64 * (((s.dev.region r).rxwin[w]?).map fun (y : Window) => y.base).getD 0) data).regions ∧
        (∀ q, q ≠ r → d.region q = s.dev.region q) ∧ d.dp = s.dev.dp ∧ d.hbm = s.dev.hbm)) ∧
  (∀ (s : State) (p mac m v i n a : Nat), Runs s → (s.dev.port p).up = true → s.dev.partnerOf p mac = none →
    s.dev.secured p mac = true → s.dev.areaOf m v = some (n, a) → i < (s.dev.area n a).shards.length →
    Completes (.shardReqFrame p mac m v i true) s fun d =>
      (mac, m) ∈ d.mm.followers ∧ d.mm.slots = s.dev.mm.slots ∧ d.hbm = s.dev.hbm ∧
      (((s.dev.area n a).shard i).verified = true → d.out = .shardData mac m v i :: s.dev.out) ∧
      (((s.dev.area n a).shard i).verified = false → d.out = s.dev.out)) ∧
  (∀ (s : State) (p mac m v i off n a : Nat) (data : List Byte), Runs s → (s.dev.port p).up = true →
    s.dev.partnerOf p mac = none → s.dev.areaOf m v = some (n, a) → memWf s.dev.hbm.mem = true → 1 ≤ data.length → data.length ≤ 8192 →
    ((s.dev.area n a).source = 1 → (s.dev.area n a).sourceId = mac * 16 + p → off + data.length ≤ (s.dev.area n a).shardLength i →
      (s.dev.area n a).blockCheck 8192 (i * shardBytes + off) data.length = none →
      Completes (.shardDataFrame p mac m v i off true data) s fun d =>
        (∀ k, k < data.length → memGet d.hbm.mem ((s.dev.area n a).base * shardBytes + (i * shardBytes + off) + k) = data.getD k 0) ∧
        (∀ x, x < (s.dev.area n a).base * shardBytes + (i * shardBytes + off) ∨
          (s.dev.area n a).base * shardBytes + (i * shardBytes + off) + data.length ≤ x →
          memGet d.hbm.mem x = memGet s.dev.hbm.mem x) ∧ memWf d.hbm.mem = true ∧
        (d.area n a).st = (s.dev.area n a).st ∧ d.regions = s.dev.regions) ∧
    ((s.dev.area n a).source = 0 → exec (.shardDataFrame p mac m v i off true data) s =
      .next (becomes s (s.dev.updPort p fun x => { x with unknownDrop := satInc x.unknownDrop })))) ∧
  (∀ (s : State) (n : Nat), Runs s →
    ((s.dev.partner n).st = 2 → (s.dev.partner n).quarTimes.headD 0 + msTc (1000 * (s.dev.partner n).hold) ≤ s.dev.real →
      Completes (.quarHoldExpiry n) s fun d =>
      (d.partner n).st ≠ 2 ∧ d.dp.ports = s.dev.dp.ports ∧ d.adm = s.dev.adm) ∧
    ((s.dev.partner n).st ≠ 2 ∨
      s.dev.real < (s.dev.partner n).quarTimes.headD 0 + msTc (1000 * (s.dev.partner n).hold) → exec (.quarHoldExpiry n) s = .next (becomes s s.dev)) ∧
    (∀ who, MaySend s.dev who cmdRegWrite .owner → n < 64 →
      ((s.dev.partner n).st = 2 → Completes (.pCtrlRelease who n) s fun d =>
        (d.partner n).st ≠ 2 ∧ d.dp.ports = s.dev.dp.ports ∧ LastReply d who cmdRegWrite stOK []) ∧
      ((s.dev.partner n).st ≠ 2 → OnlyAnswers (.pCtrlRelease who n) s who cmdRegWrite stWrongState [])))
end

