-- ==== Sys2Proof/Laws/Memory.lean ====
section
/-! SUPPORT. The bytes of a memory: what a write makes readable, what it leaves, and that every write keeps the canonical
form. -/
namespace Sys2Proof.Machine

/-- The canonical form, entry by entry. -/
theorem memWf_cons (a : Nat) (v : Byte) (m : List (Nat × Byte)) :
    memWf ((a, v) :: m) = true ↔ v ≠ 0 ∧ (∀ e, e ∈ m → a < e.1) ∧ memWf m = true := by
  simp [memWf, and_assoc]

/-- An address below every entry reads zero. -/
theorem memGet_of_lt (m : List (Nat × Byte)) (a : Nat) (h : ∀ e, e ∈ m → a < e.1) : memGet m a = 0 := by
  induction m with
  | nil => rfl
  | cons e rest ih =>
    obtain ⟨j, w⟩ := e
    have hj : a < j := h (j, w) (by simp)
    simp only [memGet, if_neg (by omega : ¬ j = a)]
    exact ih fun e he => h e (by simp [he])

/-- A write leaves every other byte, whatever the memory's form. -/
theorem memGet_memSet_ne (m : List (Nat × Byte)) (a b : Nat) (v : Byte) (h : b ≠ a) :
    memGet (memSet m a v) b = memGet m b := by
  induction m with
  | nil =>
    unfold memSet
    split <;> simp [memGet, Ne.symm h]
  | cons e rest ih =>
    obtain ⟨j, w⟩ := e
    unfold memSet
    split
    · subst_vars
      split <;> simp [memGet, Ne.symm h]
    · split
      · split <;> simp [memGet, Ne.symm h]
      · simp [memGet, ih]

/-- The byte written is read back. -/
theorem memGet_memSet_same (m : List (Nat × Byte)) (a : Nat) (v : Byte) (h : memWf m = true) :
    memGet (memSet m a v) a = v := by
  induction m with
  | nil =>
    unfold memSet
    split <;> simp_all [memGet]
  | cons e rest ih =>
    obtain ⟨j, w⟩ := e
    obtain ⟨-, hlt, hwf⟩ := (memWf_cons j w rest).1 h
    unfold memSet
    split
    · subst_vars
      split
      · subst_vars
        exact memGet_of_lt rest j hlt
      · simp [memGet]
    · rename_i hne
      split
      · rename_i haj
        split
        · subst_vars
          refine memGet_of_lt _ a fun e he => ?_
          rcases List.mem_cons.1 he with rfl | he
          · exact haj
          · exact haj.trans (hlt e he)
        · simp [memGet]
      · simp [memGet, hne, ih hwf]

/-- Entries of a memory after a write. -/
theorem mem_memSet (m : List (Nat × Byte)) (a : Nat) (v : Byte) (e : Nat × Byte) (h : e ∈ memSet m a v) :
    e ∈ m ∨ e = (a, v) := by
  induction m with
  | nil =>
    unfold memSet at h
    split at h <;> simp_all
  | cons x rest ih =>
    obtain ⟨j, w⟩ := x
    unfold memSet at h
    split at h
    · split at h
      · exact .inl (List.mem_cons_of_mem _ h)
      · rcases List.mem_cons.1 h with h | h
        · exact .inr h
        · exact .inl (List.mem_cons_of_mem _ h)
    · split at h
      · split at h
        · exact .inl h
        · rcases List.mem_cons.1 h with h | h
          · exact .inr h
          · exact .inl h
      · rcases List.mem_cons.1 h with h | h
        · exact .inl (h ▸ List.mem_cons_self)
        · exact (ih h).imp (List.mem_cons_of_mem _) id

/-- A write of one byte keeps the canonical form. -/
theorem memSet_wf (m : List (Nat × Byte)) (a : Nat) (v : Byte) (h : memWf m = true) : memWf (memSet m a v) = true := by
  induction m with
  | nil =>
    unfold memSet
    split <;> simp_all [memWf]
  | cons e rest ih =>
    obtain ⟨j, w⟩ := e
    obtain ⟨hw, hlt, hwf⟩ := (memWf_cons j w rest).1 h
    unfold memSet
    split
    · subst_vars
      split
      · exact hwf
      · exact (memWf_cons _ _ _).2 ⟨‹_›, hlt, hwf⟩
    · rename_i hne
      split
      · rename_i haj
        split
        · exact h
        · refine (memWf_cons _ _ _).2 ⟨‹_›, fun e he => ?_, h⟩
          rcases List.mem_cons.1 he with rfl | he
          · exact haj
          · exact haj.trans (hlt e he)
      · refine (memWf_cons _ _ _).2 ⟨hw, fun e he => ?_, ih hwf⟩
        rcases mem_memSet _ _ _ _ he with he | rfl
        · exact hlt e he
        · exact lt_of_le_of_ne (by omega) hne

/-- A write of bytes keeps the canonical form. -/
theorem memWrite_wf (bs : List Byte) : ∀ (m : List (Nat × Byte)) (a : Nat), memWf m = true → memWf (memWrite m a bs) = true := by
  induction bs with
  | nil => intro m a h; exact h
  | cons b rest ih => intro m a h; exact ih _ _ (memSet_wf _ _ _ h)

/-- A write of bytes leaves every byte outside its range. -/
theorem memGet_memWrite_outside (bs : List Byte) : ∀ (m : List (Nat × Byte)) (a x : Nat), x < a ∨ a + bs.length ≤ x →
    memGet (memWrite m a bs) x = memGet m x := by
  induction bs with
  | nil => intro m a x _; rfl
  | cons b rest ih =>
    intro m a x h
    simp only [List.length_cons] at h
    rw [memWrite, ih _ _ _ (by omega), memGet_memSet_ne _ _ _ _ (by omega)]

/-- A write of bytes makes them readable. -/
theorem memGet_memWrite_inside (bs : List Byte) : ∀ (m : List (Nat × Byte)) (a k : Nat), memWf m = true → k < bs.length →
    memGet (memWrite m a bs) (a + k) = bs.getD k 0 := by
  induction bs with
  | nil => intro m a k _ h; simp at h
  | cons b rest ih =>
    intro m a k hm h
    cases k with
    | zero =>
      rw [memWrite, memGet_memWrite_outside _ _ _ _ (by omega)]
      simpa using memGet_memSet_same m a b hm
    | succ k =>
      have := ih (memSet m a b) (a + 1) k (memSet_wf _ _ _ hm) (by simpa using h)
      rw [memWrite, show a + (k + 1) = a + 1 + k by omega, this]
      simp

@[simp] theorem memRead_length (m : List (Nat × Byte)) (a n : Nat) : (memRead m a n).length = n := by simp [memRead]

/-- The bytes written, read together. -/
theorem memRead_memWrite (m : List (Nat × Byte)) (a : Nat) (bs : List Byte) (h : memWf m = true) :
    memRead (memWrite m a bs) a bs.length = bs := by
  refine List.ext_getElem (by simp) fun i h1 h2 => ?_
  simp only [memRead, List.getElem_map, List.getElem_range]
  rw [memGet_memWrite_inside _ _ _ _ h h2]
  simp [List.getD_eq_getElem?_getD, h2]

end Sys2Proof.Machine
end

