-- ==== Sys2Proof/Laws/State.lean ====
section
/-! SUPPORT. What each update of the state leaves as it was: one lemma per field per update, and the entry an update of a
table reads back. -/
namespace Sys2Proof.Machine

/-! ### Tables -/

@[simp] theorem tget_nil {α : Type} (d : α) (k : Nat) : tget d [] k = d := rfl

@[simp] theorem tget_tset_same {α : Type} (d : α) (t : Table α) (k : Nat) (v : α) : tget d (tset t k v) k = v := by
  induction t with
  | nil => simp [tset, tget]
  | cons e rest ih =>
    obtain ⟨j, w⟩ := e
    unfold tset
    split
    · simp [tget]
    · rename_i h
      split
      · simp [tget]
      · simp [tget, h, ih]

@[simp] theorem tget_tset_ne {α : Type} (d : α) (t : Table α) (k j : Nat) (v : α) (h : j ≠ k) :
    tget d (tset t k v) j = tget d t j := by
  induction t with
  | nil => simp [tset, tget, Ne.symm h]
  | cons e rest ih =>
    obtain ⟨i, w⟩ := e
    unfold tset
    split
    · subst_vars
      simp [tget, Ne.symm h]
    · split
      · simp [tget, Ne.symm h]
      · simp [tget, ih]

@[simp] theorem tget_tupd_same {α : Type} (d : α) (t : Table α) (k : Nat) (f : α → α) :
    tget d (tupd d t k f) k = f (tget d t k) := by simp [tupd]

@[simp] theorem tget_tupd_ne {α : Type} (d : α) (t : Table α) (k j : Nat) (f : α → α) (h : j ≠ k) :
    tget d (tupd d t k f) j = tget d t j := by simp [tupd, h]

theorem tget_tdel_same {α : Type} (d : α) (t : Table α) (k : Nat) : tget d (tdel t k) k = d := by
  induction t with
  | nil => rfl
  | cons e rest ih =>
    obtain ⟨j, w⟩ := e
    by_cases h : j = k <;> simp_all [tdel, tget]

theorem tget_tdel_ne {α : Type} (d : α) (t : Table α) (k j : Nat) (h : j ≠ k) : tget d (tdel t k) j = tget d t j := by
  induction t with
  | nil => rfl
  | cons e rest ih =>
    obtain ⟨i, w⟩ := e
    by_cases hi : i = k
    · subst hi
      simp_all [tdel, tget, Ne.symm h]
    · simp_all [tdel, tget]

theorem tget_tmap {α : Type} (d : α) (t : Table α) (f : Nat → α → α) (k : Nat) (h : f k d = d) :
    tget d (tmap t f) k = f k (tget d t k) := by
  induction t with
  | nil => simpa [tmap, tget] using h.symm
  | cons e rest ih =>
    obtain ⟨i, w⟩ := e
    by_cases hi : i = k <;> simp_all [tmap, tget]

/-! ### The entry of a table after its update -/

@[simp] theorem Device.die_updDie_same (d : Device) (n : Nat) (f : Die → Die) : (d.updDie n f).die n = f (d.die n) := tget_tupd_same _ _ _ _
@[simp] theorem Device.die_updDie_ne (d : Device) (n k : Nat) (f : Die → Die) (h : k ≠ n) : (d.updDie n f).die k = d.die k :=
  tget_tupd_ne _ _ _ _ _ h
@[simp] theorem Device.region_updRegion_same (d : Device) (n : Nat) (f : Region → Region) : (d.updRegion n f).region n = f (d.region n) := tget_tupd_same _ _ _ _
@[simp] theorem Device.region_updRegion_ne (d : Device) (n k : Nat) (f : Region → Region) (h : k ≠ n) : (d.updRegion n f).region k = d.region k :=
  tget_tupd_ne _ _ _ _ _ h
@[simp] theorem Device.tile_updTile_same (d : Device) (n : Nat) (f : Tile → Tile) : (d.updTile n f).tile n = f (d.tile n) := tget_tupd_same _ _ _ _
@[simp] theorem Device.tile_updTile_ne (d : Device) (n k : Nat) (f : Tile → Tile) (h : k ≠ n) : (d.updTile n f).tile k = d.tile k :=
  tget_tupd_ne _ _ _ _ _ h
@[simp] theorem Device.cluster_updCluster_same (d : Device) (n : Nat) (f : Cluster → Cluster) : (d.updCluster n f).cluster n = f (d.cluster n) := tget_tupd_same _ _ _ _
@[simp] theorem Device.cluster_updCluster_ne (d : Device) (n k : Nat) (f : Cluster → Cluster) (h : k ≠ n) : (d.updCluster n f).cluster k = d.cluster k :=
  tget_tupd_ne _ _ _ _ _ h
@[simp] theorem Device.stream_updStream_same (d : Device) (n : Nat) (f : Stream → Stream) : (d.updStream n f).stream n = f (d.stream n) := tget_tupd_same _ _ _ _
@[simp] theorem Device.stream_updStream_ne (d : Device) (n k : Nat) (f : Stream → Stream) (h : k ≠ n) : (d.updStream n f).stream k = d.stream k :=
  tget_tupd_ne _ _ _ _ _ h
@[simp] theorem Device.port_updPort_same (d : Device) (n : Nat) (f : Port → Port) : (d.updPort n f).port n = f (d.port n) := tget_tupd_same _ _ _ _
@[simp] theorem Device.port_updPort_ne (d : Device) (n k : Nat) (f : Port → Port) (h : k ≠ n) : (d.updPort n f).port k = d.port k :=
  tget_tupd_ne _ _ _ _ _ h
@[simp] theorem Device.session_updSession_same (d : Device) (n : Nat) (f : Session → Session) : (d.updSession n f).session n = f (d.session n) := tget_tupd_same _ _ _ _
@[simp] theorem Device.session_updSession_ne (d : Device) (n k : Nat) (f : Session → Session) (h : k ≠ n) : (d.updSession n f).session k = d.session k :=
  tget_tupd_ne _ _ _ _ _ h
@[simp] theorem Device.link_updLink_same (d : Device) (n : Nat) (f : Link → Link) : (d.updLink n f).link n = f (d.link n) := tget_tupd_same _ _ _ _
@[simp] theorem Device.link_updLink_ne (d : Device) (n k : Nat) (f : Link → Link) (h : k ≠ n) : (d.updLink n f).link k = d.link k :=
  tget_tupd_ne _ _ _ _ _ h
@[simp] theorem Device.modelSlot_updModelSlot_same (d : Device) (n : Nat) (f : ModelSlot → ModelSlot) : (d.updModelSlot n f).modelSlot n = f (d.modelSlot n) := tget_tupd_same _ _ _ _
@[simp] theorem Device.modelSlot_updModelSlot_ne (d : Device) (n k : Nat) (f : ModelSlot → ModelSlot) (h : k ≠ n) : (d.updModelSlot n f).modelSlot k = d.modelSlot k :=
  tget_tupd_ne _ _ _ _ _ h
@[simp] theorem Device.partner_updPartner_same (d : Device) (n : Nat) (f : Partner → Partner) : (d.updPartner n f).partner n = f (d.partner n) :=
  tget_tupd_same _ _ _ _
@[simp] theorem Device.partner_updPartner_ne (d : Device) (n k : Nat) (f : Partner → Partner) (h : k ≠ n) :
    (d.updPartner n f).partner k = d.partner k := tget_tupd_ne _ _ _ _ _ h
@[simp] theorem Device.batch_updBatch_same (d : Device) (n : Nat) (f : Batch → Batch) : (d.updBatch n f).batch n = f (d.batch n) :=
  tget_tupd_same _ _ _ _
@[simp] theorem Device.batch_updBatch_ne (d : Device) (n k : Nat) (f : Batch → Batch) (h : k ≠ n) : (d.updBatch n f).batch k = d.batch k :=
  tget_tupd_ne _ _ _ _ _ h
@[simp] theorem Device.region_updSeq_same (d : Device) (n : Nat) (f : SeqRegs → SeqRegs) :
    (d.updSeq n f).region n = { d.region n with regs := f (d.region n).regs } := d.region_updRegion_same n _
@[simp] theorem Device.region_updSeq_ne (d : Device) (n k : Nat) (f : SeqRegs → SeqRegs) (h : k ≠ n) :
    (d.updSeq n f).region k = d.region k := d.region_updRegion_ne n k _ h

/-- The area a slot's update leaves, by its number. -/
@[simp] theorem ModelSlot.area_setArea_same (m : ModelSlot) (a : Nat) (f : Area → Area) : (m.setArea a f).area a = f (m.area a) := by
  unfold ModelSlot.setArea ModelSlot.area
  split <;> simp
@[simp] theorem Device.area_updArea_same (d : Device) (n a : Nat) (f : Area → Area) : (d.updArea n a f).area n a = f (d.area n a) := by
  unfold Device.updArea Device.area
  split <;> simp_all [ModelSlot.setArea]

/-! ### What an update leaves -/

@[simp] theorem Device.updDie_free (d : Device) (n : Nat) (f : Die → Die) : (d.updDie n f).free = d.free := rfl
@[simp] theorem Device.updDie_clk (d : Device) (n : Nat) (f : Die → Die) : (d.updDie n f).clk = d.clk := rfl
@[simp] theorem Device.updDie_tb (d : Device) (n : Nat) (f : Die → Die) : (d.updDie n f).tb = d.tb := rfl
@[simp] theorem Device.updDie_start (d : Device) (n : Nat) (f : Die → Die) : (d.updDie n f).start = d.start := rfl
@[simp] theorem Device.updDie_therm (d : Device) (n : Nat) (f : Die → Die) : (d.updDie n f).therm = d.therm := rfl
@[simp] theorem Device.updDie_settings (d : Device) (n : Nat) (f : Die → Die) : (d.updDie n f).settings = d.settings := rfl
@[simp] theorem Device.updDie_pins (d : Device) (n : Nat) (f : Die → Die) : (d.updDie n f).pins = d.pins := rfl
@[simp] theorem Device.updDie_sec (d : Device) (n : Nat) (f : Die → Die) : (d.updDie n f).sec = d.sec := rfl
@[simp] theorem Device.updDie_bcp (d : Device) (n : Nat) (f : Die → Die) : (d.updDie n f).bcp = d.bcp := rfl
@[simp] theorem Device.updDie_held (d : Device) (n : Nat) (f : Die → Die) : (d.updDie n f).held = d.held := rfl
@[simp] theorem Device.updDie_dp (d : Device) (n : Nat) (f : Die → Die) : (d.updDie n f).dp = d.dp := rfl
@[simp] theorem Device.updDie_pab (d : Device) (n : Nat) (f : Die → Die) : (d.updDie n f).pab = d.pab := rfl
@[simp] theorem Device.updDie_adm (d : Device) (n : Nat) (f : Die → Die) : (d.updDie n f).adm = d.adm := rfl
@[simp] theorem Device.updDie_mm (d : Device) (n : Nat) (f : Die → Die) : (d.updDie n f).mm = d.mm := rfl
@[simp] theorem Device.updDie_flt (d : Device) (n : Nat) (f : Die → Die) : (d.updDie n f).flt = d.flt := rfl
@[simp] theorem Device.updDie_hbm (d : Device) (n : Nat) (f : Die → Die) : (d.updDie n f).hbm = d.hbm := rfl
@[simp] theorem Device.updDie_fab (d : Device) (n : Nat) (f : Die → Die) : (d.updDie n f).fab = d.fab := rfl
@[simp] theorem Device.updDie_be (d : Device) (n : Nat) (f : Die → Die) : (d.updDie n f).be = d.be := rfl
@[simp] theorem Device.updDie_regions (d : Device) (n : Nat) (f : Die → Die) : (d.updDie n f).regions = d.regions := rfl
@[simp] theorem Device.updDie_tiles (d : Device) (n : Nat) (f : Die → Die) : (d.updDie n f).tiles = d.tiles := rfl
@[simp] theorem Device.updDie_clusters (d : Device) (n : Nat) (f : Die → Die) : (d.updDie n f).clusters = d.clusters := rfl
@[simp] theorem Device.updDie_hostScratch (d : Device) (n : Nat) (f : Die → Die) : (d.updDie n f).hostScratch = d.hostScratch := rfl
@[simp] theorem Device.updDie_glbEvent (d : Device) (n : Nat) (f : Die → Die) : (d.updDie n f).glbEvent = d.glbEvent := rfl
@[simp] theorem Device.updDie_placement (d : Device) (n : Nat) (f : Die → Die) : (d.updDie n f).placement = d.placement := rfl
@[simp] theorem Device.updDie_out (d : Device) (n : Nat) (f : Die → Die) : (d.updDie n f).out = d.out := rfl
@[simp] theorem Device.updDie_region (d : Device) (n : Nat) (f : Die → Die) (k : Nat) : (d.updDie n f).region k = d.region k := rfl
@[simp] theorem Device.updDie_tile (d : Device) (n : Nat) (f : Die → Die) (k : Nat) : (d.updDie n f).tile k = d.tile k := rfl
@[simp] theorem Device.updDie_cluster (d : Device) (n : Nat) (f : Die → Die) (k : Nat) : (d.updDie n f).cluster k = d.cluster k := rfl
@[simp] theorem Device.updDie_stream (d : Device) (n : Nat) (f : Die → Die) (k : Nat) : (d.updDie n f).stream k = d.stream k := rfl
@[simp] theorem Device.updDie_port (d : Device) (n : Nat) (f : Die → Die) (k : Nat) : (d.updDie n f).port k = d.port k := rfl
@[simp] theorem Device.updDie_session (d : Device) (n : Nat) (f : Die → Die) (k : Nat) : (d.updDie n f).session k = d.session k := rfl
@[simp] theorem Device.updDie_link (d : Device) (n : Nat) (f : Die → Die) (k : Nat) : (d.updDie n f).link k = d.link k := rfl
@[simp] theorem Device.updDie_modelSlot (d : Device) (n : Nat) (f : Die → Die) (k : Nat) : (d.updDie n f).modelSlot k = d.modelSlot k := rfl
@[simp] theorem Device.updRegion_free (d : Device) (n : Nat) (f : Region → Region) : (d.updRegion n f).free = d.free := rfl
@[simp] theorem Device.updRegion_clk (d : Device) (n : Nat) (f : Region → Region) : (d.updRegion n f).clk = d.clk := rfl
@[simp] theorem Device.updRegion_tb (d : Device) (n : Nat) (f : Region → Region) : (d.updRegion n f).tb = d.tb := rfl
@[simp] theorem Device.updRegion_start (d : Device) (n : Nat) (f : Region → Region) : (d.updRegion n f).start = d.start := rfl
@[simp] theorem Device.updRegion_therm (d : Device) (n : Nat) (f : Region → Region) : (d.updRegion n f).therm = d.therm := rfl
@[simp] theorem Device.updRegion_settings (d : Device) (n : Nat) (f : Region → Region) : (d.updRegion n f).settings = d.settings := rfl
@[simp] theorem Device.updRegion_pins (d : Device) (n : Nat) (f : Region → Region) : (d.updRegion n f).pins = d.pins := rfl
@[simp] theorem Device.updRegion_sec (d : Device) (n : Nat) (f : Region → Region) : (d.updRegion n f).sec = d.sec := rfl
@[simp] theorem Device.updRegion_bcp (d : Device) (n : Nat) (f : Region → Region) : (d.updRegion n f).bcp = d.bcp := rfl
@[simp] theorem Device.updRegion_held (d : Device) (n : Nat) (f : Region → Region) : (d.updRegion n f).held = d.held := rfl
@[simp] theorem Device.updRegion_dp (d : Device) (n : Nat) (f : Region → Region) : (d.updRegion n f).dp = d.dp := rfl
@[simp] theorem Device.updRegion_pab (d : Device) (n : Nat) (f : Region → Region) : (d.updRegion n f).pab = d.pab := rfl
@[simp] theorem Device.updRegion_adm (d : Device) (n : Nat) (f : Region → Region) : (d.updRegion n f).adm = d.adm := rfl
@[simp] theorem Device.updRegion_mm (d : Device) (n : Nat) (f : Region → Region) : (d.updRegion n f).mm = d.mm := rfl
@[simp] theorem Device.updRegion_flt (d : Device) (n : Nat) (f : Region → Region) : (d.updRegion n f).flt = d.flt := rfl
@[simp] theorem Device.updRegion_hbm (d : Device) (n : Nat) (f : Region → Region) : (d.updRegion n f).hbm = d.hbm := rfl
@[simp] theorem Device.updRegion_fab (d : Device) (n : Nat) (f : Region → Region) : (d.updRegion n f).fab = d.fab := rfl
@[simp] theorem Device.updRegion_be (d : Device) (n : Nat) (f : Region → Region) : (d.updRegion n f).be = d.be := rfl
@[simp] theorem Device.updRegion_dies (d : Device) (n : Nat) (f : Region → Region) : (d.updRegion n f).dies = d.dies := rfl
@[simp] theorem Device.updRegion_tiles (d : Device) (n : Nat) (f : Region → Region) : (d.updRegion n f).tiles = d.tiles := rfl
@[simp] theorem Device.updRegion_clusters (d : Device) (n : Nat) (f : Region → Region) : (d.updRegion n f).clusters = d.clusters := rfl
@[simp] theorem Device.updRegion_hostScratch (d : Device) (n : Nat) (f : Region → Region) : (d.updRegion n f).hostScratch = d.hostScratch := rfl
@[simp] theorem Device.updRegion_glbEvent (d : Device) (n : Nat) (f : Region → Region) : (d.updRegion n f).glbEvent = d.glbEvent := rfl
@[simp] theorem Device.updRegion_placement (d : Device) (n : Nat) (f : Region → Region) : (d.updRegion n f).placement = d.placement := rfl
@[simp] theorem Device.updRegion_out (d : Device) (n : Nat) (f : Region → Region) : (d.updRegion n f).out = d.out := rfl
@[simp] theorem Device.updRegion_die (d : Device) (n : Nat) (f : Region → Region) (k : Nat) : (d.updRegion n f).die k = d.die k := rfl
@[simp] theorem Device.updRegion_tile (d : Device) (n : Nat) (f : Region → Region) (k : Nat) : (d.updRegion n f).tile k = d.tile k := rfl
@[simp] theorem Device.updRegion_cluster (d : Device) (n : Nat) (f : Region → Region) (k : Nat) : (d.updRegion n f).cluster k = d.cluster k := rfl
@[simp] theorem Device.updRegion_stream (d : Device) (n : Nat) (f : Region → Region) (k : Nat) : (d.updRegion n f).stream k = d.stream k := rfl
@[simp] theorem Device.updRegion_port (d : Device) (n : Nat) (f : Region → Region) (k : Nat) : (d.updRegion n f).port k = d.port k := rfl
@[simp] theorem Device.updRegion_session (d : Device) (n : Nat) (f : Region → Region) (k : Nat) : (d.updRegion n f).session k = d.session k := rfl
@[simp] theorem Device.updRegion_link (d : Device) (n : Nat) (f : Region → Region) (k : Nat) : (d.updRegion n f).link k = d.link k := rfl
@[simp] theorem Device.updRegion_modelSlot (d : Device) (n : Nat) (f : Region → Region) (k : Nat) : (d.updRegion n f).modelSlot k = d.modelSlot k := rfl
@[simp] theorem Device.updTile_free (d : Device) (n : Nat) (f : Tile → Tile) : (d.updTile n f).free = d.free := rfl
@[simp] theorem Device.updTile_clk (d : Device) (n : Nat) (f : Tile → Tile) : (d.updTile n f).clk = d.clk := rfl
@[simp] theorem Device.updTile_tb (d : Device) (n : Nat) (f : Tile → Tile) : (d.updTile n f).tb = d.tb := rfl
@[simp] theorem Device.updTile_start (d : Device) (n : Nat) (f : Tile → Tile) : (d.updTile n f).start = d.start := rfl
@[simp] theorem Device.updTile_therm (d : Device) (n : Nat) (f : Tile → Tile) : (d.updTile n f).therm = d.therm := rfl
@[simp] theorem Device.updTile_settings (d : Device) (n : Nat) (f : Tile → Tile) : (d.updTile n f).settings = d.settings := rfl
@[simp] theorem Device.updTile_pins (d : Device) (n : Nat) (f : Tile → Tile) : (d.updTile n f).pins = d.pins := rfl
@[simp] theorem Device.updTile_sec (d : Device) (n : Nat) (f : Tile → Tile) : (d.updTile n f).sec = d.sec := rfl
@[simp] theorem Device.updTile_bcp (d : Device) (n : Nat) (f : Tile → Tile) : (d.updTile n f).bcp = d.bcp := rfl
@[simp] theorem Device.updTile_held (d : Device) (n : Nat) (f : Tile → Tile) : (d.updTile n f).held = d.held := rfl
@[simp] theorem Device.updTile_dp (d : Device) (n : Nat) (f : Tile → Tile) : (d.updTile n f).dp = d.dp := rfl
@[simp] theorem Device.updTile_pab (d : Device) (n : Nat) (f : Tile → Tile) : (d.updTile n f).pab = d.pab := rfl
@[simp] theorem Device.updTile_adm (d : Device) (n : Nat) (f : Tile → Tile) : (d.updTile n f).adm = d.adm := rfl
@[simp] theorem Device.updTile_mm (d : Device) (n : Nat) (f : Tile → Tile) : (d.updTile n f).mm = d.mm := rfl
@[simp] theorem Device.updTile_flt (d : Device) (n : Nat) (f : Tile → Tile) : (d.updTile n f).flt = d.flt := rfl
@[simp] theorem Device.updTile_hbm (d : Device) (n : Nat) (f : Tile → Tile) : (d.updTile n f).hbm = d.hbm := rfl
@[simp] theorem Device.updTile_fab (d : Device) (n : Nat) (f : Tile → Tile) : (d.updTile n f).fab = d.fab := rfl
@[simp] theorem Device.updTile_be (d : Device) (n : Nat) (f : Tile → Tile) : (d.updTile n f).be = d.be := rfl
@[simp] theorem Device.updTile_dies (d : Device) (n : Nat) (f : Tile → Tile) : (d.updTile n f).dies = d.dies := rfl
@[simp] theorem Device.updTile_regions (d : Device) (n : Nat) (f : Tile → Tile) : (d.updTile n f).regions = d.regions := rfl
@[simp] theorem Device.updTile_clusters (d : Device) (n : Nat) (f : Tile → Tile) : (d.updTile n f).clusters = d.clusters := rfl
@[simp] theorem Device.updTile_hostScratch (d : Device) (n : Nat) (f : Tile → Tile) : (d.updTile n f).hostScratch = d.hostScratch := rfl
@[simp] theorem Device.updTile_glbEvent (d : Device) (n : Nat) (f : Tile → Tile) : (d.updTile n f).glbEvent = d.glbEvent := rfl
@[simp] theorem Device.updTile_placement (d : Device) (n : Nat) (f : Tile → Tile) : (d.updTile n f).placement = d.placement := rfl
@[simp] theorem Device.updTile_out (d : Device) (n : Nat) (f : Tile → Tile) : (d.updTile n f).out = d.out := rfl
@[simp] theorem Device.updTile_die (d : Device) (n : Nat) (f : Tile → Tile) (k : Nat) : (d.updTile n f).die k = d.die k := rfl
@[simp] theorem Device.updTile_region (d : Device) (n : Nat) (f : Tile → Tile) (k : Nat) : (d.updTile n f).region k = d.region k := rfl
@[simp] theorem Device.updTile_cluster (d : Device) (n : Nat) (f : Tile → Tile) (k : Nat) : (d.updTile n f).cluster k = d.cluster k := rfl
@[simp] theorem Device.updTile_stream (d : Device) (n : Nat) (f : Tile → Tile) (k : Nat) : (d.updTile n f).stream k = d.stream k := rfl
@[simp] theorem Device.updTile_port (d : Device) (n : Nat) (f : Tile → Tile) (k : Nat) : (d.updTile n f).port k = d.port k := rfl
@[simp] theorem Device.updTile_session (d : Device) (n : Nat) (f : Tile → Tile) (k : Nat) : (d.updTile n f).session k = d.session k := rfl
@[simp] theorem Device.updTile_link (d : Device) (n : Nat) (f : Tile → Tile) (k : Nat) : (d.updTile n f).link k = d.link k := rfl
@[simp] theorem Device.updTile_modelSlot (d : Device) (n : Nat) (f : Tile → Tile) (k : Nat) : (d.updTile n f).modelSlot k = d.modelSlot k := rfl
@[simp] theorem Device.updCluster_free (d : Device) (n : Nat) (f : Cluster → Cluster) : (d.updCluster n f).free = d.free := rfl
@[simp] theorem Device.updCluster_clk (d : Device) (n : Nat) (f : Cluster → Cluster) : (d.updCluster n f).clk = d.clk := rfl
@[simp] theorem Device.updCluster_tb (d : Device) (n : Nat) (f : Cluster → Cluster) : (d.updCluster n f).tb = d.tb := rfl
@[simp] theorem Device.updCluster_start (d : Device) (n : Nat) (f : Cluster → Cluster) : (d.updCluster n f).start = d.start := rfl
@[simp] theorem Device.updCluster_therm (d : Device) (n : Nat) (f : Cluster → Cluster) : (d.updCluster n f).therm = d.therm := rfl
@[simp] theorem Device.updCluster_settings (d : Device) (n : Nat) (f : Cluster → Cluster) : (d.updCluster n f).settings = d.settings := rfl
@[simp] theorem Device.updCluster_pins (d : Device) (n : Nat) (f : Cluster → Cluster) : (d.updCluster n f).pins = d.pins := rfl
@[simp] theorem Device.updCluster_sec (d : Device) (n : Nat) (f : Cluster → Cluster) : (d.updCluster n f).sec = d.sec := rfl
@[simp] theorem Device.updCluster_bcp (d : Device) (n : Nat) (f : Cluster → Cluster) : (d.updCluster n f).bcp = d.bcp := rfl
@[simp] theorem Device.updCluster_held (d : Device) (n : Nat) (f : Cluster → Cluster) : (d.updCluster n f).held = d.held := rfl
@[simp] theorem Device.updCluster_dp (d : Device) (n : Nat) (f : Cluster → Cluster) : (d.updCluster n f).dp = d.dp := rfl
@[simp] theorem Device.updCluster_pab (d : Device) (n : Nat) (f : Cluster → Cluster) : (d.updCluster n f).pab = d.pab := rfl
@[simp] theorem Device.updCluster_adm (d : Device) (n : Nat) (f : Cluster → Cluster) : (d.updCluster n f).adm = d.adm := rfl
@[simp] theorem Device.updCluster_mm (d : Device) (n : Nat) (f : Cluster → Cluster) : (d.updCluster n f).mm = d.mm := rfl
@[simp] theorem Device.updCluster_flt (d : Device) (n : Nat) (f : Cluster → Cluster) : (d.updCluster n f).flt = d.flt := rfl
@[simp] theorem Device.updCluster_hbm (d : Device) (n : Nat) (f : Cluster → Cluster) : (d.updCluster n f).hbm = d.hbm := rfl
@[simp] theorem Device.updCluster_fab (d : Device) (n : Nat) (f : Cluster → Cluster) : (d.updCluster n f).fab = d.fab := rfl
@[simp] theorem Device.updCluster_be (d : Device) (n : Nat) (f : Cluster → Cluster) : (d.updCluster n f).be = d.be := rfl
@[simp] theorem Device.updCluster_dies (d : Device) (n : Nat) (f : Cluster → Cluster) : (d.updCluster n f).dies = d.dies := rfl
@[simp] theorem Device.updCluster_regions (d : Device) (n : Nat) (f : Cluster → Cluster) : (d.updCluster n f).regions = d.regions := rfl
@[simp] theorem Device.updCluster_tiles (d : Device) (n : Nat) (f : Cluster → Cluster) : (d.updCluster n f).tiles = d.tiles := rfl
@[simp] theorem Device.updCluster_hostScratch (d : Device) (n : Nat) (f : Cluster → Cluster) : (d.updCluster n f).hostScratch = d.hostScratch := rfl
@[simp] theorem Device.updCluster_glbEvent (d : Device) (n : Nat) (f : Cluster → Cluster) : (d.updCluster n f).glbEvent = d.glbEvent := rfl
@[simp] theorem Device.updCluster_placement (d : Device) (n : Nat) (f : Cluster → Cluster) : (d.updCluster n f).placement = d.placement := rfl
@[simp] theorem Device.updCluster_out (d : Device) (n : Nat) (f : Cluster → Cluster) : (d.updCluster n f).out = d.out := rfl
@[simp] theorem Device.updCluster_die (d : Device) (n : Nat) (f : Cluster → Cluster) (k : Nat) : (d.updCluster n f).die k = d.die k := rfl
@[simp] theorem Device.updCluster_region (d : Device) (n : Nat) (f : Cluster → Cluster) (k : Nat) : (d.updCluster n f).region k = d.region k := rfl
@[simp] theorem Device.updCluster_tile (d : Device) (n : Nat) (f : Cluster → Cluster) (k : Nat) : (d.updCluster n f).tile k = d.tile k := rfl
@[simp] theorem Device.updCluster_stream (d : Device) (n : Nat) (f : Cluster → Cluster) (k : Nat) : (d.updCluster n f).stream k = d.stream k := rfl
@[simp] theorem Device.updCluster_port (d : Device) (n : Nat) (f : Cluster → Cluster) (k : Nat) : (d.updCluster n f).port k = d.port k := rfl
@[simp] theorem Device.updCluster_session (d : Device) (n : Nat) (f : Cluster → Cluster) (k : Nat) : (d.updCluster n f).session k = d.session k := rfl
@[simp] theorem Device.updCluster_link (d : Device) (n : Nat) (f : Cluster → Cluster) (k : Nat) : (d.updCluster n f).link k = d.link k := rfl
@[simp] theorem Device.updCluster_modelSlot (d : Device) (n : Nat) (f : Cluster → Cluster) (k : Nat) : (d.updCluster n f).modelSlot k = d.modelSlot k := rfl
@[simp] theorem Device.updStream_free (d : Device) (n : Nat) (f : Stream → Stream) : (d.updStream n f).free = d.free := rfl
@[simp] theorem Device.updStream_clk (d : Device) (n : Nat) (f : Stream → Stream) : (d.updStream n f).clk = d.clk := rfl
@[simp] theorem Device.updStream_tb (d : Device) (n : Nat) (f : Stream → Stream) : (d.updStream n f).tb = d.tb := rfl
@[simp] theorem Device.updStream_start (d : Device) (n : Nat) (f : Stream → Stream) : (d.updStream n f).start = d.start := rfl
@[simp] theorem Device.updStream_therm (d : Device) (n : Nat) (f : Stream → Stream) : (d.updStream n f).therm = d.therm := rfl
@[simp] theorem Device.updStream_settings (d : Device) (n : Nat) (f : Stream → Stream) : (d.updStream n f).settings = d.settings := rfl
@[simp] theorem Device.updStream_pins (d : Device) (n : Nat) (f : Stream → Stream) : (d.updStream n f).pins = d.pins := rfl
@[simp] theorem Device.updStream_sec (d : Device) (n : Nat) (f : Stream → Stream) : (d.updStream n f).sec = d.sec := rfl
@[simp] theorem Device.updStream_bcp (d : Device) (n : Nat) (f : Stream → Stream) : (d.updStream n f).bcp = d.bcp := rfl
@[simp] theorem Device.updStream_held (d : Device) (n : Nat) (f : Stream → Stream) : (d.updStream n f).held = d.held := rfl
@[simp] theorem Device.updStream_dp (d : Device) (n : Nat) (f : Stream → Stream) : (d.updStream n f).dp = d.dp := rfl
@[simp] theorem Device.updStream_pab (d : Device) (n : Nat) (f : Stream → Stream) : (d.updStream n f).pab = d.pab := rfl
@[simp] theorem Device.updStream_mm (d : Device) (n : Nat) (f : Stream → Stream) : (d.updStream n f).mm = d.mm := rfl
@[simp] theorem Device.updStream_flt (d : Device) (n : Nat) (f : Stream → Stream) : (d.updStream n f).flt = d.flt := rfl
@[simp] theorem Device.updStream_hbm (d : Device) (n : Nat) (f : Stream → Stream) : (d.updStream n f).hbm = d.hbm := rfl
@[simp] theorem Device.updStream_fab (d : Device) (n : Nat) (f : Stream → Stream) : (d.updStream n f).fab = d.fab := rfl
@[simp] theorem Device.updStream_be (d : Device) (n : Nat) (f : Stream → Stream) : (d.updStream n f).be = d.be := rfl
@[simp] theorem Device.updStream_dies (d : Device) (n : Nat) (f : Stream → Stream) : (d.updStream n f).dies = d.dies := rfl
@[simp] theorem Device.updStream_regions (d : Device) (n : Nat) (f : Stream → Stream) : (d.updStream n f).regions = d.regions := rfl
@[simp] theorem Device.updStream_tiles (d : Device) (n : Nat) (f : Stream → Stream) : (d.updStream n f).tiles = d.tiles := rfl
@[simp] theorem Device.updStream_clusters (d : Device) (n : Nat) (f : Stream → Stream) : (d.updStream n f).clusters = d.clusters := rfl
@[simp] theorem Device.updStream_hostScratch (d : Device) (n : Nat) (f : Stream → Stream) : (d.updStream n f).hostScratch = d.hostScratch := rfl
@[simp] theorem Device.updStream_glbEvent (d : Device) (n : Nat) (f : Stream → Stream) : (d.updStream n f).glbEvent = d.glbEvent := rfl
@[simp] theorem Device.updStream_placement (d : Device) (n : Nat) (f : Stream → Stream) : (d.updStream n f).placement = d.placement := rfl
@[simp] theorem Device.updStream_out (d : Device) (n : Nat) (f : Stream → Stream) : (d.updStream n f).out = d.out := rfl
@[simp] theorem Device.updStream_die (d : Device) (n : Nat) (f : Stream → Stream) (k : Nat) : (d.updStream n f).die k = d.die k := rfl
@[simp] theorem Device.updStream_region (d : Device) (n : Nat) (f : Stream → Stream) (k : Nat) : (d.updStream n f).region k = d.region k := rfl
@[simp] theorem Device.updStream_tile (d : Device) (n : Nat) (f : Stream → Stream) (k : Nat) : (d.updStream n f).tile k = d.tile k := rfl
@[simp] theorem Device.updStream_cluster (d : Device) (n : Nat) (f : Stream → Stream) (k : Nat) : (d.updStream n f).cluster k = d.cluster k := rfl
@[simp] theorem Device.updStream_port (d : Device) (n : Nat) (f : Stream → Stream) (k : Nat) : (d.updStream n f).port k = d.port k := rfl
@[simp] theorem Device.updStream_session (d : Device) (n : Nat) (f : Stream → Stream) (k : Nat) : (d.updStream n f).session k = d.session k := rfl
@[simp] theorem Device.updStream_link (d : Device) (n : Nat) (f : Stream → Stream) (k : Nat) : (d.updStream n f).link k = d.link k := rfl
@[simp] theorem Device.updStream_modelSlot (d : Device) (n : Nat) (f : Stream → Stream) (k : Nat) : (d.updStream n f).modelSlot k = d.modelSlot k := rfl
@[simp] theorem Device.updPort_free (d : Device) (n : Nat) (f : Port → Port) : (d.updPort n f).free = d.free := rfl
@[simp] theorem Device.updPort_clk (d : Device) (n : Nat) (f : Port → Port) : (d.updPort n f).clk = d.clk := rfl
@[simp] theorem Device.updPort_tb (d : Device) (n : Nat) (f : Port → Port) : (d.updPort n f).tb = d.tb := rfl
@[simp] theorem Device.updPort_start (d : Device) (n : Nat) (f : Port → Port) : (d.updPort n f).start = d.start := rfl
@[simp] theorem Device.updPort_therm (d : Device) (n : Nat) (f : Port → Port) : (d.updPort n f).therm = d.therm := rfl
@[simp] theorem Device.updPort_settings (d : Device) (n : Nat) (f : Port → Port) : (d.updPort n f).settings = d.settings := rfl
@[simp] theorem Device.updPort_pins (d : Device) (n : Nat) (f : Port → Port) : (d.updPort n f).pins = d.pins := rfl
@[simp] theorem Device.updPort_sec (d : Device) (n : Nat) (f : Port → Port) : (d.updPort n f).sec = d.sec := rfl
@[simp] theorem Device.updPort_bcp (d : Device) (n : Nat) (f : Port → Port) : (d.updPort n f).bcp = d.bcp := rfl
@[simp] theorem Device.updPort_held (d : Device) (n : Nat) (f : Port → Port) : (d.updPort n f).held = d.held := rfl
@[simp] theorem Device.updPort_pab (d : Device) (n : Nat) (f : Port → Port) : (d.updPort n f).pab = d.pab := rfl
@[simp] theorem Device.updPort_adm (d : Device) (n : Nat) (f : Port → Port) : (d.updPort n f).adm = d.adm := rfl
@[simp] theorem Device.updPort_mm (d : Device) (n : Nat) (f : Port → Port) : (d.updPort n f).mm = d.mm := rfl
@[simp] theorem Device.updPort_flt (d : Device) (n : Nat) (f : Port → Port) : (d.updPort n f).flt = d.flt := rfl
@[simp] theorem Device.updPort_hbm (d : Device) (n : Nat) (f : Port → Port) : (d.updPort n f).hbm = d.hbm := rfl
@[simp] theorem Device.updPort_fab (d : Device) (n : Nat) (f : Port → Port) : (d.updPort n f).fab = d.fab := rfl
@[simp] theorem Device.updPort_be (d : Device) (n : Nat) (f : Port → Port) : (d.updPort n f).be = d.be := rfl
@[simp] theorem Device.updPort_dies (d : Device) (n : Nat) (f : Port → Port) : (d.updPort n f).dies = d.dies := rfl
@[simp] theorem Device.updPort_regions (d : Device) (n : Nat) (f : Port → Port) : (d.updPort n f).regions = d.regions := rfl
@[simp] theorem Device.updPort_tiles (d : Device) (n : Nat) (f : Port → Port) : (d.updPort n f).tiles = d.tiles := rfl
@[simp] theorem Device.updPort_clusters (d : Device) (n : Nat) (f : Port → Port) : (d.updPort n f).clusters = d.clusters := rfl
@[simp] theorem Device.updPort_hostScratch (d : Device) (n : Nat) (f : Port → Port) : (d.updPort n f).hostScratch = d.hostScratch := rfl
@[simp] theorem Device.updPort_glbEvent (d : Device) (n : Nat) (f : Port → Port) : (d.updPort n f).glbEvent = d.glbEvent := rfl
@[simp] theorem Device.updPort_placement (d : Device) (n : Nat) (f : Port → Port) : (d.updPort n f).placement = d.placement := rfl
@[simp] theorem Device.updPort_out (d : Device) (n : Nat) (f : Port → Port) : (d.updPort n f).out = d.out := rfl
@[simp] theorem Device.updPort_die (d : Device) (n : Nat) (f : Port → Port) (k : Nat) : (d.updPort n f).die k = d.die k := rfl
@[simp] theorem Device.updPort_region (d : Device) (n : Nat) (f : Port → Port) (k : Nat) : (d.updPort n f).region k = d.region k := rfl
@[simp] theorem Device.updPort_tile (d : Device) (n : Nat) (f : Port → Port) (k : Nat) : (d.updPort n f).tile k = d.tile k := rfl
@[simp] theorem Device.updPort_cluster (d : Device) (n : Nat) (f : Port → Port) (k : Nat) : (d.updPort n f).cluster k = d.cluster k := rfl
@[simp] theorem Device.updPort_stream (d : Device) (n : Nat) (f : Port → Port) (k : Nat) : (d.updPort n f).stream k = d.stream k := rfl
@[simp] theorem Device.updPort_session (d : Device) (n : Nat) (f : Port → Port) (k : Nat) : (d.updPort n f).session k = d.session k := rfl
@[simp] theorem Device.updPort_link (d : Device) (n : Nat) (f : Port → Port) (k : Nat) : (d.updPort n f).link k = d.link k := rfl
@[simp] theorem Device.updPort_modelSlot (d : Device) (n : Nat) (f : Port → Port) (k : Nat) : (d.updPort n f).modelSlot k = d.modelSlot k := rfl
@[simp] theorem Device.updSession_free (d : Device) (n : Nat) (f : Session → Session) : (d.updSession n f).free = d.free := rfl
@[simp] theorem Device.updSession_clk (d : Device) (n : Nat) (f : Session → Session) : (d.updSession n f).clk = d.clk := rfl
@[simp] theorem Device.updSession_tb (d : Device) (n : Nat) (f : Session → Session) : (d.updSession n f).tb = d.tb := rfl
@[simp] theorem Device.updSession_start (d : Device) (n : Nat) (f : Session → Session) : (d.updSession n f).start = d.start := rfl
@[simp] theorem Device.updSession_therm (d : Device) (n : Nat) (f : Session → Session) : (d.updSession n f).therm = d.therm := rfl
@[simp] theorem Device.updSession_settings (d : Device) (n : Nat) (f : Session → Session) : (d.updSession n f).settings = d.settings := rfl
@[simp] theorem Device.updSession_pins (d : Device) (n : Nat) (f : Session → Session) : (d.updSession n f).pins = d.pins := rfl
@[simp] theorem Device.updSession_sec (d : Device) (n : Nat) (f : Session → Session) : (d.updSession n f).sec = d.sec := rfl
@[simp] theorem Device.updSession_held (d : Device) (n : Nat) (f : Session → Session) : (d.updSession n f).held = d.held := rfl
@[simp] theorem Device.updSession_dp (d : Device) (n : Nat) (f : Session → Session) : (d.updSession n f).dp = d.dp := rfl
@[simp] theorem Device.updSession_pab (d : Device) (n : Nat) (f : Session → Session) : (d.updSession n f).pab = d.pab := rfl
@[simp] theorem Device.updSession_adm (d : Device) (n : Nat) (f : Session → Session) : (d.updSession n f).adm = d.adm := rfl
@[simp] theorem Device.updSession_mm (d : Device) (n : Nat) (f : Session → Session) : (d.updSession n f).mm = d.mm := rfl
@[simp] theorem Device.updSession_flt (d : Device) (n : Nat) (f : Session → Session) : (d.updSession n f).flt = d.flt := rfl
@[simp] theorem Device.updSession_hbm (d : Device) (n : Nat) (f : Session → Session) : (d.updSession n f).hbm = d.hbm := rfl
@[simp] theorem Device.updSession_fab (d : Device) (n : Nat) (f : Session → Session) : (d.updSession n f).fab = d.fab := rfl
@[simp] theorem Device.updSession_be (d : Device) (n : Nat) (f : Session → Session) : (d.updSession n f).be = d.be := rfl
@[simp] theorem Device.updSession_dies (d : Device) (n : Nat) (f : Session → Session) : (d.updSession n f).dies = d.dies := rfl
@[simp] theorem Device.updSession_regions (d : Device) (n : Nat) (f : Session → Session) : (d.updSession n f).regions = d.regions := rfl
@[simp] theorem Device.updSession_tiles (d : Device) (n : Nat) (f : Session → Session) : (d.updSession n f).tiles = d.tiles := rfl
@[simp] theorem Device.updSession_clusters (d : Device) (n : Nat) (f : Session → Session) : (d.updSession n f).clusters = d.clusters := rfl
@[simp] theorem Device.updSession_hostScratch (d : Device) (n : Nat) (f : Session → Session) : (d.updSession n f).hostScratch = d.hostScratch := rfl
@[simp] theorem Device.updSession_glbEvent (d : Device) (n : Nat) (f : Session → Session) : (d.updSession n f).glbEvent = d.glbEvent := rfl
@[simp] theorem Device.updSession_placement (d : Device) (n : Nat) (f : Session → Session) : (d.updSession n f).placement = d.placement := rfl
@[simp] theorem Device.updSession_out (d : Device) (n : Nat) (f : Session → Session) : (d.updSession n f).out = d.out := rfl
@[simp] theorem Device.updSession_die (d : Device) (n : Nat) (f : Session → Session) (k : Nat) : (d.updSession n f).die k = d.die k := rfl
@[simp] theorem Device.updSession_region (d : Device) (n : Nat) (f : Session → Session) (k : Nat) : (d.updSession n f).region k = d.region k := rfl
@[simp] theorem Device.updSession_tile (d : Device) (n : Nat) (f : Session → Session) (k : Nat) : (d.updSession n f).tile k = d.tile k := rfl
@[simp] theorem Device.updSession_cluster (d : Device) (n : Nat) (f : Session → Session) (k : Nat) : (d.updSession n f).cluster k = d.cluster k := rfl
@[simp] theorem Device.updSession_stream (d : Device) (n : Nat) (f : Session → Session) (k : Nat) : (d.updSession n f).stream k = d.stream k := rfl
@[simp] theorem Device.updSession_port (d : Device) (n : Nat) (f : Session → Session) (k : Nat) : (d.updSession n f).port k = d.port k := rfl
@[simp] theorem Device.updSession_link (d : Device) (n : Nat) (f : Session → Session) (k : Nat) : (d.updSession n f).link k = d.link k := rfl
@[simp] theorem Device.updSession_modelSlot (d : Device) (n : Nat) (f : Session → Session) (k : Nat) : (d.updSession n f).modelSlot k = d.modelSlot k := rfl
@[simp] theorem Device.updLink_free (d : Device) (n : Nat) (f : Link → Link) : (d.updLink n f).free = d.free := rfl
@[simp] theorem Device.updLink_clk (d : Device) (n : Nat) (f : Link → Link) : (d.updLink n f).clk = d.clk := rfl
@[simp] theorem Device.updLink_tb (d : Device) (n : Nat) (f : Link → Link) : (d.updLink n f).tb = d.tb := rfl
@[simp] theorem Device.updLink_start (d : Device) (n : Nat) (f : Link → Link) : (d.updLink n f).start = d.start := rfl
@[simp] theorem Device.updLink_therm (d : Device) (n : Nat) (f : Link → Link) : (d.updLink n f).therm = d.therm := rfl
@[simp] theorem Device.updLink_settings (d : Device) (n : Nat) (f : Link → Link) : (d.updLink n f).settings = d.settings := rfl
@[simp] theorem Device.updLink_pins (d : Device) (n : Nat) (f : Link → Link) : (d.updLink n f).pins = d.pins := rfl
@[simp] theorem Device.updLink_sec (d : Device) (n : Nat) (f : Link → Link) : (d.updLink n f).sec = d.sec := rfl
@[simp] theorem Device.updLink_bcp (d : Device) (n : Nat) (f : Link → Link) : (d.updLink n f).bcp = d.bcp := rfl
@[simp] theorem Device.updLink_held (d : Device) (n : Nat) (f : Link → Link) : (d.updLink n f).held = d.held := rfl
@[simp] theorem Device.updLink_dp (d : Device) (n : Nat) (f : Link → Link) : (d.updLink n f).dp = d.dp := rfl
@[simp] theorem Device.updLink_pab (d : Device) (n : Nat) (f : Link → Link) : (d.updLink n f).pab = d.pab := rfl
@[simp] theorem Device.updLink_adm (d : Device) (n : Nat) (f : Link → Link) : (d.updLink n f).adm = d.adm := rfl
@[simp] theorem Device.updLink_mm (d : Device) (n : Nat) (f : Link → Link) : (d.updLink n f).mm = d.mm := rfl
@[simp] theorem Device.updLink_flt (d : Device) (n : Nat) (f : Link → Link) : (d.updLink n f).flt = d.flt := rfl
@[simp] theorem Device.updLink_hbm (d : Device) (n : Nat) (f : Link → Link) : (d.updLink n f).hbm = d.hbm := rfl
@[simp] theorem Device.updLink_dies (d : Device) (n : Nat) (f : Link → Link) : (d.updLink n f).dies = d.dies := rfl
@[simp] theorem Device.updLink_regions (d : Device) (n : Nat) (f : Link → Link) : (d.updLink n f).regions = d.regions := rfl
@[simp] theorem Device.updLink_tiles (d : Device) (n : Nat) (f : Link → Link) : (d.updLink n f).tiles = d.tiles := rfl
@[simp] theorem Device.updLink_clusters (d : Device) (n : Nat) (f : Link → Link) : (d.updLink n f).clusters = d.clusters := rfl
@[simp] theorem Device.updLink_hostScratch (d : Device) (n : Nat) (f : Link → Link) : (d.updLink n f).hostScratch = d.hostScratch := rfl
@[simp] theorem Device.updLink_glbEvent (d : Device) (n : Nat) (f : Link → Link) : (d.updLink n f).glbEvent = d.glbEvent := rfl
@[simp] theorem Device.updLink_placement (d : Device) (n : Nat) (f : Link → Link) : (d.updLink n f).placement = d.placement := rfl
@[simp] theorem Device.updLink_out (d : Device) (n : Nat) (f : Link → Link) : (d.updLink n f).out = d.out := rfl
@[simp] theorem Device.updLink_die (d : Device) (n : Nat) (f : Link → Link) (k : Nat) : (d.updLink n f).die k = d.die k := rfl
@[simp] theorem Device.updLink_region (d : Device) (n : Nat) (f : Link → Link) (k : Nat) : (d.updLink n f).region k = d.region k := rfl
@[simp] theorem Device.updLink_tile (d : Device) (n : Nat) (f : Link → Link) (k : Nat) : (d.updLink n f).tile k = d.tile k := rfl
@[simp] theorem Device.updLink_cluster (d : Device) (n : Nat) (f : Link → Link) (k : Nat) : (d.updLink n f).cluster k = d.cluster k := rfl
@[simp] theorem Device.updLink_stream (d : Device) (n : Nat) (f : Link → Link) (k : Nat) : (d.updLink n f).stream k = d.stream k := rfl
@[simp] theorem Device.updLink_port (d : Device) (n : Nat) (f : Link → Link) (k : Nat) : (d.updLink n f).port k = d.port k := rfl
@[simp] theorem Device.updLink_session (d : Device) (n : Nat) (f : Link → Link) (k : Nat) : (d.updLink n f).session k = d.session k := rfl
@[simp] theorem Device.updLink_modelSlot (d : Device) (n : Nat) (f : Link → Link) (k : Nat) : (d.updLink n f).modelSlot k = d.modelSlot k := rfl
@[simp] theorem Device.updModelSlot_free (d : Device) (n : Nat) (f : ModelSlot → ModelSlot) : (d.updModelSlot n f).free = d.free := rfl
@[simp] theorem Device.updModelSlot_clk (d : Device) (n : Nat) (f : ModelSlot → ModelSlot) : (d.updModelSlot n f).clk = d.clk := rfl
@[simp] theorem Device.updModelSlot_tb (d : Device) (n : Nat) (f : ModelSlot → ModelSlot) : (d.updModelSlot n f).tb = d.tb := rfl
@[simp] theorem Device.updModelSlot_start (d : Device) (n : Nat) (f : ModelSlot → ModelSlot) : (d.updModelSlot n f).start = d.start := rfl
@[simp] theorem Device.updModelSlot_therm (d : Device) (n : Nat) (f : ModelSlot → ModelSlot) : (d.updModelSlot n f).therm = d.therm := rfl
@[simp] theorem Device.updModelSlot_settings (d : Device) (n : Nat) (f : ModelSlot → ModelSlot) : (d.updModelSlot n f).settings = d.settings := rfl
@[simp] theorem Device.updModelSlot_pins (d : Device) (n : Nat) (f : ModelSlot → ModelSlot) : (d.updModelSlot n f).pins = d.pins := rfl
@[simp] theorem Device.updModelSlot_sec (d : Device) (n : Nat) (f : ModelSlot → ModelSlot) : (d.updModelSlot n f).sec = d.sec := rfl
@[simp] theorem Device.updModelSlot_bcp (d : Device) (n : Nat) (f : ModelSlot → ModelSlot) : (d.updModelSlot n f).bcp = d.bcp := rfl
@[simp] theorem Device.updModelSlot_held (d : Device) (n : Nat) (f : ModelSlot → ModelSlot) : (d.updModelSlot n f).held = d.held := rfl
@[simp] theorem Device.updModelSlot_dp (d : Device) (n : Nat) (f : ModelSlot → ModelSlot) : (d.updModelSlot n f).dp = d.dp := rfl
@[simp] theorem Device.updModelSlot_pab (d : Device) (n : Nat) (f : ModelSlot → ModelSlot) : (d.updModelSlot n f).pab = d.pab := rfl
@[simp] theorem Device.updModelSlot_adm (d : Device) (n : Nat) (f : ModelSlot → ModelSlot) : (d.updModelSlot n f).adm = d.adm := rfl
@[simp] theorem Device.updModelSlot_flt (d : Device) (n : Nat) (f : ModelSlot → ModelSlot) : (d.updModelSlot n f).flt = d.flt := rfl
@[simp] theorem Device.updModelSlot_hbm (d : Device) (n : Nat) (f : ModelSlot → ModelSlot) : (d.updModelSlot n f).hbm = d.hbm := rfl
@[simp] theorem Device.updModelSlot_fab (d : Device) (n : Nat) (f : ModelSlot → ModelSlot) : (d.updModelSlot n f).fab = d.fab := rfl
@[simp] theorem Device.updModelSlot_be (d : Device) (n : Nat) (f : ModelSlot → ModelSlot) : (d.updModelSlot n f).be = d.be := rfl
@[simp] theorem Device.updModelSlot_dies (d : Device) (n : Nat) (f : ModelSlot → ModelSlot) : (d.updModelSlot n f).dies = d.dies := rfl
@[simp] theorem Device.updModelSlot_regions (d : Device) (n : Nat) (f : ModelSlot → ModelSlot) : (d.updModelSlot n f).regions = d.regions := rfl
@[simp] theorem Device.updModelSlot_tiles (d : Device) (n : Nat) (f : ModelSlot → ModelSlot) : (d.updModelSlot n f).tiles = d.tiles := rfl
@[simp] theorem Device.updModelSlot_clusters (d : Device) (n : Nat) (f : ModelSlot → ModelSlot) : (d.updModelSlot n f).clusters = d.clusters := rfl
@[simp] theorem Device.updModelSlot_hostScratch (d : Device) (n : Nat) (f : ModelSlot → ModelSlot) : (d.updModelSlot n f).hostScratch = d.hostScratch := rfl
@[simp] theorem Device.updModelSlot_glbEvent (d : Device) (n : Nat) (f : ModelSlot → ModelSlot) : (d.updModelSlot n f).glbEvent = d.glbEvent := rfl
@[simp] theorem Device.updModelSlot_placement (d : Device) (n : Nat) (f : ModelSlot → ModelSlot) : (d.updModelSlot n f).placement = d.placement := rfl
@[simp] theorem Device.updModelSlot_out (d : Device) (n : Nat) (f : ModelSlot → ModelSlot) : (d.updModelSlot n f).out = d.out := rfl
@[simp] theorem Device.updModelSlot_die (d : Device) (n : Nat) (f : ModelSlot → ModelSlot) (k : Nat) : (d.updModelSlot n f).die k = d.die k := rfl
@[simp] theorem Device.updModelSlot_region (d : Device) (n : Nat) (f : ModelSlot → ModelSlot) (k : Nat) : (d.updModelSlot n f).region k = d.region k := rfl
@[simp] theorem Device.updModelSlot_tile (d : Device) (n : Nat) (f : ModelSlot → ModelSlot) (k : Nat) : (d.updModelSlot n f).tile k = d.tile k := rfl
@[simp] theorem Device.updModelSlot_cluster (d : Device) (n : Nat) (f : ModelSlot → ModelSlot) (k : Nat) : (d.updModelSlot n f).cluster k = d.cluster k := rfl
@[simp] theorem Device.updModelSlot_stream (d : Device) (n : Nat) (f : ModelSlot → ModelSlot) (k : Nat) : (d.updModelSlot n f).stream k = d.stream k := rfl
@[simp] theorem Device.updModelSlot_port (d : Device) (n : Nat) (f : ModelSlot → ModelSlot) (k : Nat) : (d.updModelSlot n f).port k = d.port k := rfl
@[simp] theorem Device.updModelSlot_session (d : Device) (n : Nat) (f : ModelSlot → ModelSlot) (k : Nat) : (d.updModelSlot n f).session k = d.session k := rfl
@[simp] theorem Device.updModelSlot_link (d : Device) (n : Nat) (f : ModelSlot → ModelSlot) (k : Nat) : (d.updModelSlot n f).link k = d.link k := rfl
@[simp] theorem Device.updArea_free (d : Device) (n a : Nat) (f : Area → Area) : (d.updArea n a f).free = d.free := rfl
@[simp] theorem Device.updArea_clk (d : Device) (n a : Nat) (f : Area → Area) : (d.updArea n a f).clk = d.clk := rfl
@[simp] theorem Device.updArea_tb (d : Device) (n a : Nat) (f : Area → Area) : (d.updArea n a f).tb = d.tb := rfl
@[simp] theorem Device.updArea_start (d : Device) (n a : Nat) (f : Area → Area) : (d.updArea n a f).start = d.start := rfl
@[simp] theorem Device.updArea_therm (d : Device) (n a : Nat) (f : Area → Area) : (d.updArea n a f).therm = d.therm := rfl
@[simp] theorem Device.updArea_settings (d : Device) (n a : Nat) (f : Area → Area) : (d.updArea n a f).settings = d.settings := rfl
@[simp] theorem Device.updArea_pins (d : Device) (n a : Nat) (f : Area → Area) : (d.updArea n a f).pins = d.pins := rfl
@[simp] theorem Device.updArea_sec (d : Device) (n a : Nat) (f : Area → Area) : (d.updArea n a f).sec = d.sec := rfl
@[simp] theorem Device.updArea_bcp (d : Device) (n a : Nat) (f : Area → Area) : (d.updArea n a f).bcp = d.bcp := rfl
@[simp] theorem Device.updArea_held (d : Device) (n a : Nat) (f : Area → Area) : (d.updArea n a f).held = d.held := rfl
@[simp] theorem Device.updArea_dp (d : Device) (n a : Nat) (f : Area → Area) : (d.updArea n a f).dp = d.dp := rfl
@[simp] theorem Device.updArea_pab (d : Device) (n a : Nat) (f : Area → Area) : (d.updArea n a f).pab = d.pab := rfl
@[simp] theorem Device.updArea_adm (d : Device) (n a : Nat) (f : Area → Area) : (d.updArea n a f).adm = d.adm := rfl
@[simp] theorem Device.updArea_flt (d : Device) (n a : Nat) (f : Area → Area) : (d.updArea n a f).flt = d.flt := rfl
@[simp] theorem Device.updArea_hbm (d : Device) (n a : Nat) (f : Area → Area) : (d.updArea n a f).hbm = d.hbm := rfl
@[simp] theorem Device.updArea_fab (d : Device) (n a : Nat) (f : Area → Area) : (d.updArea n a f).fab = d.fab := rfl
@[simp] theorem Device.updArea_be (d : Device) (n a : Nat) (f : Area → Area) : (d.updArea n a f).be = d.be := rfl
@[simp] theorem Device.updArea_dies (d : Device) (n a : Nat) (f : Area → Area) : (d.updArea n a f).dies = d.dies := rfl
@[simp] theorem Device.updArea_regions (d : Device) (n a : Nat) (f : Area → Area) : (d.updArea n a f).regions = d.regions := rfl
@[simp] theorem Device.updArea_tiles (d : Device) (n a : Nat) (f : Area → Area) : (d.updArea n a f).tiles = d.tiles := rfl
@[simp] theorem Device.updArea_clusters (d : Device) (n a : Nat) (f : Area → Area) : (d.updArea n a f).clusters = d.clusters := rfl
@[simp] theorem Device.updArea_hostScratch (d : Device) (n a : Nat) (f : Area → Area) : (d.updArea n a f).hostScratch = d.hostScratch := rfl
@[simp] theorem Device.updArea_glbEvent (d : Device) (n a : Nat) (f : Area → Area) : (d.updArea n a f).glbEvent = d.glbEvent := rfl
@[simp] theorem Device.updArea_placement (d : Device) (n a : Nat) (f : Area → Area) : (d.updArea n a f).placement = d.placement := rfl
@[simp] theorem Device.updArea_out (d : Device) (n a : Nat) (f : Area → Area) : (d.updArea n a f).out = d.out := rfl
@[simp] theorem Device.updArea_die (d : Device) (n a : Nat) (f : Area → Area) (k : Nat) : (d.updArea n a f).die k = d.die k := rfl
@[simp] theorem Device.updArea_region (d : Device) (n a : Nat) (f : Area → Area) (k : Nat) : (d.updArea n a f).region k = d.region k := rfl
@[simp] theorem Device.updArea_tile (d : Device) (n a : Nat) (f : Area → Area) (k : Nat) : (d.updArea n a f).tile k = d.tile k := rfl
@[simp] theorem Device.updArea_cluster (d : Device) (n a : Nat) (f : Area → Area) (k : Nat) : (d.updArea n a f).cluster k = d.cluster k := rfl
@[simp] theorem Device.updArea_stream (d : Device) (n a : Nat) (f : Area → Area) (k : Nat) : (d.updArea n a f).stream k = d.stream k := rfl
@[simp] theorem Device.updArea_port (d : Device) (n a : Nat) (f : Area → Area) (k : Nat) : (d.updArea n a f).port k = d.port k := rfl
@[simp] theorem Device.updArea_session (d : Device) (n a : Nat) (f : Area → Area) (k : Nat) : (d.updArea n a f).session k = d.session k := rfl
@[simp] theorem Device.updArea_link (d : Device) (n a : Nat) (f : Area → Area) (k : Nat) : (d.updArea n a f).link k = d.link k := rfl
@[simp] theorem Device.updMm_free (d : Device) (f : ModelMgr → ModelMgr) : (d.updMm f).free = d.free := rfl
@[simp] theorem Device.updMm_clk (d : Device) (f : ModelMgr → ModelMgr) : (d.updMm f).clk = d.clk := rfl
@[simp] theorem Device.updMm_tb (d : Device) (f : ModelMgr → ModelMgr) : (d.updMm f).tb = d.tb := rfl
@[simp] theorem Device.updMm_start (d : Device) (f : ModelMgr → ModelMgr) : (d.updMm f).start = d.start := rfl
@[simp] theorem Device.updMm_therm (d : Device) (f : ModelMgr → ModelMgr) : (d.updMm f).therm = d.therm := rfl
@[simp] theorem Device.updMm_settings (d : Device) (f : ModelMgr → ModelMgr) : (d.updMm f).settings = d.settings := rfl
@[simp] theorem Device.updMm_pins (d : Device) (f : ModelMgr → ModelMgr) : (d.updMm f).pins = d.pins := rfl
@[simp] theorem Device.updMm_sec (d : Device) (f : ModelMgr → ModelMgr) : (d.updMm f).sec = d.sec := rfl
@[simp] theorem Device.updMm_bcp (d : Device) (f : ModelMgr → ModelMgr) : (d.updMm f).bcp = d.bcp := rfl
@[simp] theorem Device.updMm_held (d : Device) (f : ModelMgr → ModelMgr) : (d.updMm f).held = d.held := rfl
@[simp] theorem Device.updMm_dp (d : Device) (f : ModelMgr → ModelMgr) : (d.updMm f).dp = d.dp := rfl
@[simp] theorem Device.updMm_pab (d : Device) (f : ModelMgr → ModelMgr) : (d.updMm f).pab = d.pab := rfl
@[simp] theorem Device.updMm_adm (d : Device) (f : ModelMgr → ModelMgr) : (d.updMm f).adm = d.adm := rfl
@[simp] theorem Device.updMm_flt (d : Device) (f : ModelMgr → ModelMgr) : (d.updMm f).flt = d.flt := rfl
@[simp] theorem Device.updMm_hbm (d : Device) (f : ModelMgr → ModelMgr) : (d.updMm f).hbm = d.hbm := rfl
@[simp] theorem Device.updMm_fab (d : Device) (f : ModelMgr → ModelMgr) : (d.updMm f).fab = d.fab := rfl
@[simp] theorem Device.updMm_be (d : Device) (f : ModelMgr → ModelMgr) : (d.updMm f).be = d.be := rfl
@[simp] theorem Device.updMm_dies (d : Device) (f : ModelMgr → ModelMgr) : (d.updMm f).dies = d.dies := rfl
@[simp] theorem Device.updMm_regions (d : Device) (f : ModelMgr → ModelMgr) : (d.updMm f).regions = d.regions := rfl
@[simp] theorem Device.updMm_tiles (d : Device) (f : ModelMgr → ModelMgr) : (d.updMm f).tiles = d.tiles := rfl
@[simp] theorem Device.updMm_clusters (d : Device) (f : ModelMgr → ModelMgr) : (d.updMm f).clusters = d.clusters := rfl
@[simp] theorem Device.updMm_hostScratch (d : Device) (f : ModelMgr → ModelMgr) : (d.updMm f).hostScratch = d.hostScratch := rfl
@[simp] theorem Device.updMm_glbEvent (d : Device) (f : ModelMgr → ModelMgr) : (d.updMm f).glbEvent = d.glbEvent := rfl
@[simp] theorem Device.updMm_placement (d : Device) (f : ModelMgr → ModelMgr) : (d.updMm f).placement = d.placement := rfl
@[simp] theorem Device.updMm_out (d : Device) (f : ModelMgr → ModelMgr) : (d.updMm f).out = d.out := rfl
@[simp] theorem Device.updMm_die (d : Device) (f : ModelMgr → ModelMgr) (k : Nat) : (d.updMm f).die k = d.die k := rfl
@[simp] theorem Device.updMm_region (d : Device) (f : ModelMgr → ModelMgr) (k : Nat) : (d.updMm f).region k = d.region k := rfl
@[simp] theorem Device.updMm_tile (d : Device) (f : ModelMgr → ModelMgr) (k : Nat) : (d.updMm f).tile k = d.tile k := rfl
@[simp] theorem Device.updMm_cluster (d : Device) (f : ModelMgr → ModelMgr) (k : Nat) : (d.updMm f).cluster k = d.cluster k := rfl
@[simp] theorem Device.updMm_stream (d : Device) (f : ModelMgr → ModelMgr) (k : Nat) : (d.updMm f).stream k = d.stream k := rfl
@[simp] theorem Device.updMm_port (d : Device) (f : ModelMgr → ModelMgr) (k : Nat) : (d.updMm f).port k = d.port k := rfl
@[simp] theorem Device.updMm_session (d : Device) (f : ModelMgr → ModelMgr) (k : Nat) : (d.updMm f).session k = d.session k := rfl
@[simp] theorem Device.updMm_link (d : Device) (f : ModelMgr → ModelMgr) (k : Nat) : (d.updMm f).link k = d.link k := rfl
@[simp] theorem Device.updFlt_free (d : Device) (f : Faults → Faults) : (d.updFlt f).free = d.free := rfl
@[simp] theorem Device.updFlt_clk (d : Device) (f : Faults → Faults) : (d.updFlt f).clk = d.clk := rfl
@[simp] theorem Device.updFlt_tb (d : Device) (f : Faults → Faults) : (d.updFlt f).tb = d.tb := rfl
@[simp] theorem Device.updFlt_start (d : Device) (f : Faults → Faults) : (d.updFlt f).start = d.start := rfl
@[simp] theorem Device.updFlt_therm (d : Device) (f : Faults → Faults) : (d.updFlt f).therm = d.therm := rfl
@[simp] theorem Device.updFlt_settings (d : Device) (f : Faults → Faults) : (d.updFlt f).settings = d.settings := rfl
@[simp] theorem Device.updFlt_pins (d : Device) (f : Faults → Faults) : (d.updFlt f).pins = d.pins := rfl
@[simp] theorem Device.updFlt_sec (d : Device) (f : Faults → Faults) : (d.updFlt f).sec = d.sec := rfl
@[simp] theorem Device.updFlt_bcp (d : Device) (f : Faults → Faults) : (d.updFlt f).bcp = d.bcp := rfl
@[simp] theorem Device.updFlt_held (d : Device) (f : Faults → Faults) : (d.updFlt f).held = d.held := rfl
@[simp] theorem Device.updFlt_dp (d : Device) (f : Faults → Faults) : (d.updFlt f).dp = d.dp := rfl
@[simp] theorem Device.updFlt_pab (d : Device) (f : Faults → Faults) : (d.updFlt f).pab = d.pab := rfl
@[simp] theorem Device.updFlt_adm (d : Device) (f : Faults → Faults) : (d.updFlt f).adm = d.adm := rfl
@[simp] theorem Device.updFlt_mm (d : Device) (f : Faults → Faults) : (d.updFlt f).mm = d.mm := rfl
@[simp] theorem Device.updFlt_hbm (d : Device) (f : Faults → Faults) : (d.updFlt f).hbm = d.hbm := rfl
@[simp] theorem Device.updFlt_fab (d : Device) (f : Faults → Faults) : (d.updFlt f).fab = d.fab := rfl
@[simp] theorem Device.updFlt_be (d : Device) (f : Faults → Faults) : (d.updFlt f).be = d.be := rfl
@[simp] theorem Device.updFlt_dies (d : Device) (f : Faults → Faults) : (d.updFlt f).dies = d.dies := rfl
@[simp] theorem Device.updFlt_regions (d : Device) (f : Faults → Faults) : (d.updFlt f).regions = d.regions := rfl
@[simp] theorem Device.updFlt_tiles (d : Device) (f : Faults → Faults) : (d.updFlt f).tiles = d.tiles := rfl
@[simp] theorem Device.updFlt_clusters (d : Device) (f : Faults → Faults) : (d.updFlt f).clusters = d.clusters := rfl
@[simp] theorem Device.updFlt_hostScratch (d : Device) (f : Faults → Faults) : (d.updFlt f).hostScratch = d.hostScratch := rfl
@[simp] theorem Device.updFlt_glbEvent (d : Device) (f : Faults → Faults) : (d.updFlt f).glbEvent = d.glbEvent := rfl
@[simp] theorem Device.updFlt_placement (d : Device) (f : Faults → Faults) : (d.updFlt f).placement = d.placement := rfl
@[simp] theorem Device.updFlt_out (d : Device) (f : Faults → Faults) : (d.updFlt f).out = d.out := rfl
@[simp] theorem Device.updFlt_die (d : Device) (f : Faults → Faults) (k : Nat) : (d.updFlt f).die k = d.die k := rfl
@[simp] theorem Device.updFlt_region (d : Device) (f : Faults → Faults) (k : Nat) : (d.updFlt f).region k = d.region k := rfl
@[simp] theorem Device.updFlt_tile (d : Device) (f : Faults → Faults) (k : Nat) : (d.updFlt f).tile k = d.tile k := rfl
@[simp] theorem Device.updFlt_cluster (d : Device) (f : Faults → Faults) (k : Nat) : (d.updFlt f).cluster k = d.cluster k := rfl
@[simp] theorem Device.updFlt_stream (d : Device) (f : Faults → Faults) (k : Nat) : (d.updFlt f).stream k = d.stream k := rfl
@[simp] theorem Device.updFlt_port (d : Device) (f : Faults → Faults) (k : Nat) : (d.updFlt f).port k = d.port k := rfl
@[simp] theorem Device.updFlt_session (d : Device) (f : Faults → Faults) (k : Nat) : (d.updFlt f).session k = d.session k := rfl
@[simp] theorem Device.updFlt_link (d : Device) (f : Faults → Faults) (k : Nat) : (d.updFlt f).link k = d.link k := rfl
@[simp] theorem Device.updFlt_modelSlot (d : Device) (f : Faults → Faults) (k : Nat) : (d.updFlt f).modelSlot k = d.modelSlot k := rfl
@[simp] theorem Device.updSec_free (d : Device) (f : Security → Security) : (d.updSec f).free = d.free := rfl
@[simp] theorem Device.updSec_clk (d : Device) (f : Security → Security) : (d.updSec f).clk = d.clk := rfl
@[simp] theorem Device.updSec_tb (d : Device) (f : Security → Security) : (d.updSec f).tb = d.tb := rfl
@[simp] theorem Device.updSec_start (d : Device) (f : Security → Security) : (d.updSec f).start = d.start := rfl
@[simp] theorem Device.updSec_therm (d : Device) (f : Security → Security) : (d.updSec f).therm = d.therm := rfl
@[simp] theorem Device.updSec_settings (d : Device) (f : Security → Security) : (d.updSec f).settings = d.settings := rfl
@[simp] theorem Device.updSec_pins (d : Device) (f : Security → Security) : (d.updSec f).pins = d.pins := rfl
@[simp] theorem Device.updSec_bcp (d : Device) (f : Security → Security) : (d.updSec f).bcp = d.bcp := rfl
@[simp] theorem Device.updSec_held (d : Device) (f : Security → Security) : (d.updSec f).held = d.held := rfl
@[simp] theorem Device.updSec_dp (d : Device) (f : Security → Security) : (d.updSec f).dp = d.dp := rfl
@[simp] theorem Device.updSec_pab (d : Device) (f : Security → Security) : (d.updSec f).pab = d.pab := rfl
@[simp] theorem Device.updSec_adm (d : Device) (f : Security → Security) : (d.updSec f).adm = d.adm := rfl
@[simp] theorem Device.updSec_mm (d : Device) (f : Security → Security) : (d.updSec f).mm = d.mm := rfl
@[simp] theorem Device.updSec_flt (d : Device) (f : Security → Security) : (d.updSec f).flt = d.flt := rfl
@[simp] theorem Device.updSec_hbm (d : Device) (f : Security → Security) : (d.updSec f).hbm = d.hbm := rfl
@[simp] theorem Device.updSec_fab (d : Device) (f : Security → Security) : (d.updSec f).fab = d.fab := rfl
@[simp] theorem Device.updSec_be (d : Device) (f : Security → Security) : (d.updSec f).be = d.be := rfl
@[simp] theorem Device.updSec_dies (d : Device) (f : Security → Security) : (d.updSec f).dies = d.dies := rfl
@[simp] theorem Device.updSec_regions (d : Device) (f : Security → Security) : (d.updSec f).regions = d.regions := rfl
@[simp] theorem Device.updSec_tiles (d : Device) (f : Security → Security) : (d.updSec f).tiles = d.tiles := rfl
@[simp] theorem Device.updSec_clusters (d : Device) (f : Security → Security) : (d.updSec f).clusters = d.clusters := rfl
@[simp] theorem Device.updSec_hostScratch (d : Device) (f : Security → Security) : (d.updSec f).hostScratch = d.hostScratch := rfl
@[simp] theorem Device.updSec_glbEvent (d : Device) (f : Security → Security) : (d.updSec f).glbEvent = d.glbEvent := rfl
@[simp] theorem Device.updSec_placement (d : Device) (f : Security → Security) : (d.updSec f).placement = d.placement := rfl
@[simp] theorem Device.updSec_out (d : Device) (f : Security → Security) : (d.updSec f).out = d.out := rfl
@[simp] theorem Device.updSec_die (d : Device) (f : Security → Security) (k : Nat) : (d.updSec f).die k = d.die k := rfl
@[simp] theorem Device.updSec_region (d : Device) (f : Security → Security) (k : Nat) : (d.updSec f).region k = d.region k := rfl
@[simp] theorem Device.updSec_tile (d : Device) (f : Security → Security) (k : Nat) : (d.updSec f).tile k = d.tile k := rfl
@[simp] theorem Device.updSec_cluster (d : Device) (f : Security → Security) (k : Nat) : (d.updSec f).cluster k = d.cluster k := rfl
@[simp] theorem Device.updSec_stream (d : Device) (f : Security → Security) (k : Nat) : (d.updSec f).stream k = d.stream k := rfl
@[simp] theorem Device.updSec_port (d : Device) (f : Security → Security) (k : Nat) : (d.updSec f).port k = d.port k := rfl
@[simp] theorem Device.updSec_session (d : Device) (f : Security → Security) (k : Nat) : (d.updSec f).session k = d.session k := rfl
@[simp] theorem Device.updSec_link (d : Device) (f : Security → Security) (k : Nat) : (d.updSec f).link k = d.link k := rfl
@[simp] theorem Device.updSec_modelSlot (d : Device) (f : Security → Security) (k : Nat) : (d.updSec f).modelSlot k = d.modelSlot k := rfl
@[simp] theorem Device.updDp_free (d : Device) (f : DataPorts → DataPorts) : (d.updDp f).free = d.free := rfl
@[simp] theorem Device.updDp_clk (d : Device) (f : DataPorts → DataPorts) : (d.updDp f).clk = d.clk := rfl
@[simp] theorem Device.updDp_tb (d : Device) (f : DataPorts → DataPorts) : (d.updDp f).tb = d.tb := rfl
@[simp] theorem Device.updDp_start (d : Device) (f : DataPorts → DataPorts) : (d.updDp f).start = d.start := rfl
@[simp] theorem Device.updDp_therm (d : Device) (f : DataPorts → DataPorts) : (d.updDp f).therm = d.therm := rfl
@[simp] theorem Device.updDp_settings (d : Device) (f : DataPorts → DataPorts) : (d.updDp f).settings = d.settings := rfl
@[simp] theorem Device.updDp_pins (d : Device) (f : DataPorts → DataPorts) : (d.updDp f).pins = d.pins := rfl
@[simp] theorem Device.updDp_sec (d : Device) (f : DataPorts → DataPorts) : (d.updDp f).sec = d.sec := rfl
@[simp] theorem Device.updDp_bcp (d : Device) (f : DataPorts → DataPorts) : (d.updDp f).bcp = d.bcp := rfl
@[simp] theorem Device.updDp_held (d : Device) (f : DataPorts → DataPorts) : (d.updDp f).held = d.held := rfl
@[simp] theorem Device.updDp_pab (d : Device) (f : DataPorts → DataPorts) : (d.updDp f).pab = d.pab := rfl
@[simp] theorem Device.updDp_adm (d : Device) (f : DataPorts → DataPorts) : (d.updDp f).adm = d.adm := rfl
@[simp] theorem Device.updDp_mm (d : Device) (f : DataPorts → DataPorts) : (d.updDp f).mm = d.mm := rfl
@[simp] theorem Device.updDp_flt (d : Device) (f : DataPorts → DataPorts) : (d.updDp f).flt = d.flt := rfl
@[simp] theorem Device.updDp_hbm (d : Device) (f : DataPorts → DataPorts) : (d.updDp f).hbm = d.hbm := rfl
@[simp] theorem Device.updDp_fab (d : Device) (f : DataPorts → DataPorts) : (d.updDp f).fab = d.fab := rfl
@[simp] theorem Device.updDp_be (d : Device) (f : DataPorts → DataPorts) : (d.updDp f).be = d.be := rfl
@[simp] theorem Device.updDp_dies (d : Device) (f : DataPorts → DataPorts) : (d.updDp f).dies = d.dies := rfl
@[simp] theorem Device.updDp_regions (d : Device) (f : DataPorts → DataPorts) : (d.updDp f).regions = d.regions := rfl
@[simp] theorem Device.updDp_tiles (d : Device) (f : DataPorts → DataPorts) : (d.updDp f).tiles = d.tiles := rfl
@[simp] theorem Device.updDp_clusters (d : Device) (f : DataPorts → DataPorts) : (d.updDp f).clusters = d.clusters := rfl
@[simp] theorem Device.updDp_hostScratch (d : Device) (f : DataPorts → DataPorts) : (d.updDp f).hostScratch = d.hostScratch := rfl
@[simp] theorem Device.updDp_glbEvent (d : Device) (f : DataPorts → DataPorts) : (d.updDp f).glbEvent = d.glbEvent := rfl
@[simp] theorem Device.updDp_placement (d : Device) (f : DataPorts → DataPorts) : (d.updDp f).placement = d.placement := rfl
@[simp] theorem Device.updDp_out (d : Device) (f : DataPorts → DataPorts) : (d.updDp f).out = d.out := rfl
@[simp] theorem Device.updDp_die (d : Device) (f : DataPorts → DataPorts) (k : Nat) : (d.updDp f).die k = d.die k := rfl
@[simp] theorem Device.updDp_region (d : Device) (f : DataPorts → DataPorts) (k : Nat) : (d.updDp f).region k = d.region k := rfl
@[simp] theorem Device.updDp_tile (d : Device) (f : DataPorts → DataPorts) (k : Nat) : (d.updDp f).tile k = d.tile k := rfl
@[simp] theorem Device.updDp_cluster (d : Device) (f : DataPorts → DataPorts) (k : Nat) : (d.updDp f).cluster k = d.cluster k := rfl
@[simp] theorem Device.updDp_stream (d : Device) (f : DataPorts → DataPorts) (k : Nat) : (d.updDp f).stream k = d.stream k := rfl
@[simp] theorem Device.updDp_session (d : Device) (f : DataPorts → DataPorts) (k : Nat) : (d.updDp f).session k = d.session k := rfl
@[simp] theorem Device.updDp_link (d : Device) (f : DataPorts → DataPorts) (k : Nat) : (d.updDp f).link k = d.link k := rfl
@[simp] theorem Device.updDp_modelSlot (d : Device) (f : DataPorts → DataPorts) (k : Nat) : (d.updDp f).modelSlot k = d.modelSlot k := rfl
@[simp] theorem Device.updPab_free (d : Device) (f : Pab → Pab) : (d.updPab f).free = d.free := rfl
@[simp] theorem Device.updPab_clk (d : Device) (f : Pab → Pab) : (d.updPab f).clk = d.clk := rfl
@[simp] theorem Device.updPab_tb (d : Device) (f : Pab → Pab) : (d.updPab f).tb = d.tb := rfl
@[simp] theorem Device.updPab_start (d : Device) (f : Pab → Pab) : (d.updPab f).start = d.start := rfl
@[simp] theorem Device.updPab_therm (d : Device) (f : Pab → Pab) : (d.updPab f).therm = d.therm := rfl
@[simp] theorem Device.updPab_settings (d : Device) (f : Pab → Pab) : (d.updPab f).settings = d.settings := rfl
@[simp] theorem Device.updPab_pins (d : Device) (f : Pab → Pab) : (d.updPab f).pins = d.pins := rfl
@[simp] theorem Device.updPab_sec (d : Device) (f : Pab → Pab) : (d.updPab f).sec = d.sec := rfl
@[simp] theorem Device.updPab_bcp (d : Device) (f : Pab → Pab) : (d.updPab f).bcp = d.bcp := rfl
@[simp] theorem Device.updPab_held (d : Device) (f : Pab → Pab) : (d.updPab f).held = d.held := rfl
@[simp] theorem Device.updPab_dp (d : Device) (f : Pab → Pab) : (d.updPab f).dp = d.dp := rfl
@[simp] theorem Device.updPab_adm (d : Device) (f : Pab → Pab) : (d.updPab f).adm = d.adm := rfl
@[simp] theorem Device.updPab_mm (d : Device) (f : Pab → Pab) : (d.updPab f).mm = d.mm := rfl
@[simp] theorem Device.updPab_flt (d : Device) (f : Pab → Pab) : (d.updPab f).flt = d.flt := rfl
@[simp] theorem Device.updPab_hbm (d : Device) (f : Pab → Pab) : (d.updPab f).hbm = d.hbm := rfl
@[simp] theorem Device.updPab_fab (d : Device) (f : Pab → Pab) : (d.updPab f).fab = d.fab := rfl
@[simp] theorem Device.updPab_be (d : Device) (f : Pab → Pab) : (d.updPab f).be = d.be := rfl
@[simp] theorem Device.updPab_dies (d : Device) (f : Pab → Pab) : (d.updPab f).dies = d.dies := rfl
@[simp] theorem Device.updPab_regions (d : Device) (f : Pab → Pab) : (d.updPab f).regions = d.regions := rfl
@[simp] theorem Device.updPab_tiles (d : Device) (f : Pab → Pab) : (d.updPab f).tiles = d.tiles := rfl
@[simp] theorem Device.updPab_clusters (d : Device) (f : Pab → Pab) : (d.updPab f).clusters = d.clusters := rfl
@[simp] theorem Device.updPab_hostScratch (d : Device) (f : Pab → Pab) : (d.updPab f).hostScratch = d.hostScratch := rfl
@[simp] theorem Device.updPab_glbEvent (d : Device) (f : Pab → Pab) : (d.updPab f).glbEvent = d.glbEvent := rfl
@[simp] theorem Device.updPab_placement (d : Device) (f : Pab → Pab) : (d.updPab f).placement = d.placement := rfl
@[simp] theorem Device.updPab_out (d : Device) (f : Pab → Pab) : (d.updPab f).out = d.out := rfl
@[simp] theorem Device.updPab_die (d : Device) (f : Pab → Pab) (k : Nat) : (d.updPab f).die k = d.die k := rfl
@[simp] theorem Device.updPab_region (d : Device) (f : Pab → Pab) (k : Nat) : (d.updPab f).region k = d.region k := rfl
@[simp] theorem Device.updPab_tile (d : Device) (f : Pab → Pab) (k : Nat) : (d.updPab f).tile k = d.tile k := rfl
@[simp] theorem Device.updPab_cluster (d : Device) (f : Pab → Pab) (k : Nat) : (d.updPab f).cluster k = d.cluster k := rfl
@[simp] theorem Device.updPab_stream (d : Device) (f : Pab → Pab) (k : Nat) : (d.updPab f).stream k = d.stream k := rfl
@[simp] theorem Device.updPab_port (d : Device) (f : Pab → Pab) (k : Nat) : (d.updPab f).port k = d.port k := rfl
@[simp] theorem Device.updPab_session (d : Device) (f : Pab → Pab) (k : Nat) : (d.updPab f).session k = d.session k := rfl
@[simp] theorem Device.updPab_link (d : Device) (f : Pab → Pab) (k : Nat) : (d.updPab f).link k = d.link k := rfl
@[simp] theorem Device.updPab_modelSlot (d : Device) (f : Pab → Pab) (k : Nat) : (d.updPab f).modelSlot k = d.modelSlot k := rfl
@[simp] theorem Device.updBcp_free (d : Device) (f : Bcp → Bcp) : (d.updBcp f).free = d.free := rfl
@[simp] theorem Device.updBcp_clk (d : Device) (f : Bcp → Bcp) : (d.updBcp f).clk = d.clk := rfl
@[simp] theorem Device.updBcp_tb (d : Device) (f : Bcp → Bcp) : (d.updBcp f).tb = d.tb := rfl
@[simp] theorem Device.updBcp_start (d : Device) (f : Bcp → Bcp) : (d.updBcp f).start = d.start := rfl
@[simp] theorem Device.updBcp_therm (d : Device) (f : Bcp → Bcp) : (d.updBcp f).therm = d.therm := rfl
@[simp] theorem Device.updBcp_settings (d : Device) (f : Bcp → Bcp) : (d.updBcp f).settings = d.settings := rfl
@[simp] theorem Device.updBcp_pins (d : Device) (f : Bcp → Bcp) : (d.updBcp f).pins = d.pins := rfl
@[simp] theorem Device.updBcp_sec (d : Device) (f : Bcp → Bcp) : (d.updBcp f).sec = d.sec := rfl
@[simp] theorem Device.updBcp_held (d : Device) (f : Bcp → Bcp) : (d.updBcp f).held = d.held := rfl
@[simp] theorem Device.updBcp_dp (d : Device) (f : Bcp → Bcp) : (d.updBcp f).dp = d.dp := rfl
@[simp] theorem Device.updBcp_pab (d : Device) (f : Bcp → Bcp) : (d.updBcp f).pab = d.pab := rfl
@[simp] theorem Device.updBcp_adm (d : Device) (f : Bcp → Bcp) : (d.updBcp f).adm = d.adm := rfl
@[simp] theorem Device.updBcp_mm (d : Device) (f : Bcp → Bcp) : (d.updBcp f).mm = d.mm := rfl
@[simp] theorem Device.updBcp_flt (d : Device) (f : Bcp → Bcp) : (d.updBcp f).flt = d.flt := rfl
@[simp] theorem Device.updBcp_hbm (d : Device) (f : Bcp → Bcp) : (d.updBcp f).hbm = d.hbm := rfl
@[simp] theorem Device.updBcp_fab (d : Device) (f : Bcp → Bcp) : (d.updBcp f).fab = d.fab := rfl
@[simp] theorem Device.updBcp_be (d : Device) (f : Bcp → Bcp) : (d.updBcp f).be = d.be := rfl
@[simp] theorem Device.updBcp_dies (d : Device) (f : Bcp → Bcp) : (d.updBcp f).dies = d.dies := rfl
@[simp] theorem Device.updBcp_regions (d : Device) (f : Bcp → Bcp) : (d.updBcp f).regions = d.regions := rfl
@[simp] theorem Device.updBcp_tiles (d : Device) (f : Bcp → Bcp) : (d.updBcp f).tiles = d.tiles := rfl
@[simp] theorem Device.updBcp_clusters (d : Device) (f : Bcp → Bcp) : (d.updBcp f).clusters = d.clusters := rfl
@[simp] theorem Device.updBcp_hostScratch (d : Device) (f : Bcp → Bcp) : (d.updBcp f).hostScratch = d.hostScratch := rfl
@[simp] theorem Device.updBcp_glbEvent (d : Device) (f : Bcp → Bcp) : (d.updBcp f).glbEvent = d.glbEvent := rfl
@[simp] theorem Device.updBcp_placement (d : Device) (f : Bcp → Bcp) : (d.updBcp f).placement = d.placement := rfl
@[simp] theorem Device.updBcp_out (d : Device) (f : Bcp → Bcp) : (d.updBcp f).out = d.out := rfl
@[simp] theorem Device.updBcp_die (d : Device) (f : Bcp → Bcp) (k : Nat) : (d.updBcp f).die k = d.die k := rfl
@[simp] theorem Device.updBcp_region (d : Device) (f : Bcp → Bcp) (k : Nat) : (d.updBcp f).region k = d.region k := rfl
@[simp] theorem Device.updBcp_tile (d : Device) (f : Bcp → Bcp) (k : Nat) : (d.updBcp f).tile k = d.tile k := rfl
@[simp] theorem Device.updBcp_cluster (d : Device) (f : Bcp → Bcp) (k : Nat) : (d.updBcp f).cluster k = d.cluster k := rfl
@[simp] theorem Device.updBcp_stream (d : Device) (f : Bcp → Bcp) (k : Nat) : (d.updBcp f).stream k = d.stream k := rfl
@[simp] theorem Device.updBcp_port (d : Device) (f : Bcp → Bcp) (k : Nat) : (d.updBcp f).port k = d.port k := rfl
@[simp] theorem Device.updBcp_link (d : Device) (f : Bcp → Bcp) (k : Nat) : (d.updBcp f).link k = d.link k := rfl
@[simp] theorem Device.updBcp_modelSlot (d : Device) (f : Bcp → Bcp) (k : Nat) : (d.updBcp f).modelSlot k = d.modelSlot k := rfl
@[simp] theorem Device.updTherm_free (d : Device) (f : Thermal → Thermal) : (d.updTherm f).free = d.free := rfl
@[simp] theorem Device.updTherm_clk (d : Device) (f : Thermal → Thermal) : (d.updTherm f).clk = d.clk := rfl
@[simp] theorem Device.updTherm_tb (d : Device) (f : Thermal → Thermal) : (d.updTherm f).tb = d.tb := rfl
@[simp] theorem Device.updTherm_start (d : Device) (f : Thermal → Thermal) : (d.updTherm f).start = d.start := rfl
@[simp] theorem Device.updTherm_settings (d : Device) (f : Thermal → Thermal) : (d.updTherm f).settings = d.settings := rfl
@[simp] theorem Device.updTherm_pins (d : Device) (f : Thermal → Thermal) : (d.updTherm f).pins = d.pins := rfl
@[simp] theorem Device.updTherm_sec (d : Device) (f : Thermal → Thermal) : (d.updTherm f).sec = d.sec := rfl
@[simp] theorem Device.updTherm_bcp (d : Device) (f : Thermal → Thermal) : (d.updTherm f).bcp = d.bcp := rfl
@[simp] theorem Device.updTherm_held (d : Device) (f : Thermal → Thermal) : (d.updTherm f).held = d.held := rfl
@[simp] theorem Device.updTherm_dp (d : Device) (f : Thermal → Thermal) : (d.updTherm f).dp = d.dp := rfl
@[simp] theorem Device.updTherm_pab (d : Device) (f : Thermal → Thermal) : (d.updTherm f).pab = d.pab := rfl
@[simp] theorem Device.updTherm_adm (d : Device) (f : Thermal → Thermal) : (d.updTherm f).adm = d.adm := rfl
@[simp] theorem Device.updTherm_mm (d : Device) (f : Thermal → Thermal) : (d.updTherm f).mm = d.mm := rfl
@[simp] theorem Device.updTherm_flt (d : Device) (f : Thermal → Thermal) : (d.updTherm f).flt = d.flt := rfl
@[simp] theorem Device.updTherm_hbm (d : Device) (f : Thermal → Thermal) : (d.updTherm f).hbm = d.hbm := rfl
@[simp] theorem Device.updTherm_fab (d : Device) (f : Thermal → Thermal) : (d.updTherm f).fab = d.fab := rfl
@[simp] theorem Device.updTherm_be (d : Device) (f : Thermal → Thermal) : (d.updTherm f).be = d.be := rfl
@[simp] theorem Device.updTherm_dies (d : Device) (f : Thermal → Thermal) : (d.updTherm f).dies = d.dies := rfl
@[simp] theorem Device.updTherm_regions (d : Device) (f : Thermal → Thermal) : (d.updTherm f).regions = d.regions := rfl
@[simp] theorem Device.updTherm_tiles (d : Device) (f : Thermal → Thermal) : (d.updTherm f).tiles = d.tiles := rfl
@[simp] theorem Device.updTherm_clusters (d : Device) (f : Thermal → Thermal) : (d.updTherm f).clusters = d.clusters := rfl
@[simp] theorem Device.updTherm_hostScratch (d : Device) (f : Thermal → Thermal) : (d.updTherm f).hostScratch = d.hostScratch := rfl
@[simp] theorem Device.updTherm_glbEvent (d : Device) (f : Thermal → Thermal) : (d.updTherm f).glbEvent = d.glbEvent := rfl
@[simp] theorem Device.updTherm_placement (d : Device) (f : Thermal → Thermal) : (d.updTherm f).placement = d.placement := rfl
@[simp] theorem Device.updTherm_out (d : Device) (f : Thermal → Thermal) : (d.updTherm f).out = d.out := rfl
@[simp] theorem Device.updTherm_die (d : Device) (f : Thermal → Thermal) (k : Nat) : (d.updTherm f).die k = d.die k := rfl
@[simp] theorem Device.updTherm_region (d : Device) (f : Thermal → Thermal) (k : Nat) : (d.updTherm f).region k = d.region k := rfl
@[simp] theorem Device.updTherm_tile (d : Device) (f : Thermal → Thermal) (k : Nat) : (d.updTherm f).tile k = d.tile k := rfl
@[simp] theorem Device.updTherm_cluster (d : Device) (f : Thermal → Thermal) (k : Nat) : (d.updTherm f).cluster k = d.cluster k := rfl
@[simp] theorem Device.updTherm_stream (d : Device) (f : Thermal → Thermal) (k : Nat) : (d.updTherm f).stream k = d.stream k := rfl
@[simp] theorem Device.updTherm_port (d : Device) (f : Thermal → Thermal) (k : Nat) : (d.updTherm f).port k = d.port k := rfl
@[simp] theorem Device.updTherm_session (d : Device) (f : Thermal → Thermal) (k : Nat) : (d.updTherm f).session k = d.session k := rfl
@[simp] theorem Device.updTherm_link (d : Device) (f : Thermal → Thermal) (k : Nat) : (d.updTherm f).link k = d.link k := rfl
@[simp] theorem Device.updTherm_modelSlot (d : Device) (f : Thermal → Thermal) (k : Nat) : (d.updTherm f).modelSlot k = d.modelSlot k := rfl
@[simp] theorem Device.updFab_free (d : Device) (f : Fabric → Fabric) : (d.updFab f).free = d.free := rfl
@[simp] theorem Device.updFab_clk (d : Device) (f : Fabric → Fabric) : (d.updFab f).clk = d.clk := rfl
@[simp] theorem Device.updFab_tb (d : Device) (f : Fabric → Fabric) : (d.updFab f).tb = d.tb := rfl
@[simp] theorem Device.updFab_start (d : Device) (f : Fabric → Fabric) : (d.updFab f).start = d.start := rfl
@[simp] theorem Device.updFab_therm (d : Device) (f : Fabric → Fabric) : (d.updFab f).therm = d.therm := rfl
@[simp] theorem Device.updFab_settings (d : Device) (f : Fabric → Fabric) : (d.updFab f).settings = d.settings := rfl
@[simp] theorem Device.updFab_pins (d : Device) (f : Fabric → Fabric) : (d.updFab f).pins = d.pins := rfl
@[simp] theorem Device.updFab_sec (d : Device) (f : Fabric → Fabric) : (d.updFab f).sec = d.sec := rfl
@[simp] theorem Device.updFab_bcp (d : Device) (f : Fabric → Fabric) : (d.updFab f).bcp = d.bcp := rfl
@[simp] theorem Device.updFab_held (d : Device) (f : Fabric → Fabric) : (d.updFab f).held = d.held := rfl
@[simp] theorem Device.updFab_dp (d : Device) (f : Fabric → Fabric) : (d.updFab f).dp = d.dp := rfl
@[simp] theorem Device.updFab_pab (d : Device) (f : Fabric → Fabric) : (d.updFab f).pab = d.pab := rfl
@[simp] theorem Device.updFab_adm (d : Device) (f : Fabric → Fabric) : (d.updFab f).adm = d.adm := rfl
@[simp] theorem Device.updFab_mm (d : Device) (f : Fabric → Fabric) : (d.updFab f).mm = d.mm := rfl
@[simp] theorem Device.updFab_flt (d : Device) (f : Fabric → Fabric) : (d.updFab f).flt = d.flt := rfl
@[simp] theorem Device.updFab_hbm (d : Device) (f : Fabric → Fabric) : (d.updFab f).hbm = d.hbm := rfl
@[simp] theorem Device.updFab_dies (d : Device) (f : Fabric → Fabric) : (d.updFab f).dies = d.dies := rfl
@[simp] theorem Device.updFab_regions (d : Device) (f : Fabric → Fabric) : (d.updFab f).regions = d.regions := rfl
@[simp] theorem Device.updFab_tiles (d : Device) (f : Fabric → Fabric) : (d.updFab f).tiles = d.tiles := rfl
@[simp] theorem Device.updFab_clusters (d : Device) (f : Fabric → Fabric) : (d.updFab f).clusters = d.clusters := rfl
@[simp] theorem Device.updFab_hostScratch (d : Device) (f : Fabric → Fabric) : (d.updFab f).hostScratch = d.hostScratch := rfl
@[simp] theorem Device.updFab_glbEvent (d : Device) (f : Fabric → Fabric) : (d.updFab f).glbEvent = d.glbEvent := rfl
@[simp] theorem Device.updFab_placement (d : Device) (f : Fabric → Fabric) : (d.updFab f).placement = d.placement := rfl
@[simp] theorem Device.updFab_out (d : Device) (f : Fabric → Fabric) : (d.updFab f).out = d.out := rfl
@[simp] theorem Device.updFab_die (d : Device) (f : Fabric → Fabric) (k : Nat) : (d.updFab f).die k = d.die k := rfl
@[simp] theorem Device.updFab_region (d : Device) (f : Fabric → Fabric) (k : Nat) : (d.updFab f).region k = d.region k := rfl
@[simp] theorem Device.updFab_tile (d : Device) (f : Fabric → Fabric) (k : Nat) : (d.updFab f).tile k = d.tile k := rfl
@[simp] theorem Device.updFab_cluster (d : Device) (f : Fabric → Fabric) (k : Nat) : (d.updFab f).cluster k = d.cluster k := rfl
@[simp] theorem Device.updFab_stream (d : Device) (f : Fabric → Fabric) (k : Nat) : (d.updFab f).stream k = d.stream k := rfl
@[simp] theorem Device.updFab_port (d : Device) (f : Fabric → Fabric) (k : Nat) : (d.updFab f).port k = d.port k := rfl
@[simp] theorem Device.updFab_session (d : Device) (f : Fabric → Fabric) (k : Nat) : (d.updFab f).session k = d.session k := rfl
@[simp] theorem Device.updFab_modelSlot (d : Device) (f : Fabric → Fabric) (k : Nat) : (d.updFab f).modelSlot k = d.modelSlot k := rfl
@[simp] theorem Device.updSeq_free (d : Device) (n : Nat) (f : SeqRegs → SeqRegs) : (d.updSeq n f).free = d.free := rfl
@[simp] theorem Device.updSeq_clk (d : Device) (n : Nat) (f : SeqRegs → SeqRegs) : (d.updSeq n f).clk = d.clk := rfl
@[simp] theorem Device.updSeq_tb (d : Device) (n : Nat) (f : SeqRegs → SeqRegs) : (d.updSeq n f).tb = d.tb := rfl
@[simp] theorem Device.updSeq_start (d : Device) (n : Nat) (f : SeqRegs → SeqRegs) : (d.updSeq n f).start = d.start := rfl
@[simp] theorem Device.updSeq_therm (d : Device) (n : Nat) (f : SeqRegs → SeqRegs) : (d.updSeq n f).therm = d.therm := rfl
@[simp] theorem Device.updSeq_settings (d : Device) (n : Nat) (f : SeqRegs → SeqRegs) : (d.updSeq n f).settings = d.settings := rfl
@[simp] theorem Device.updSeq_pins (d : Device) (n : Nat) (f : SeqRegs → SeqRegs) : (d.updSeq n f).pins = d.pins := rfl
@[simp] theorem Device.updSeq_sec (d : Device) (n : Nat) (f : SeqRegs → SeqRegs) : (d.updSeq n f).sec = d.sec := rfl
@[simp] theorem Device.updSeq_bcp (d : Device) (n : Nat) (f : SeqRegs → SeqRegs) : (d.updSeq n f).bcp = d.bcp := rfl
@[simp] theorem Device.updSeq_held (d : Device) (n : Nat) (f : SeqRegs → SeqRegs) : (d.updSeq n f).held = d.held := rfl
@[simp] theorem Device.updSeq_dp (d : Device) (n : Nat) (f : SeqRegs → SeqRegs) : (d.updSeq n f).dp = d.dp := rfl
@[simp] theorem Device.updSeq_pab (d : Device) (n : Nat) (f : SeqRegs → SeqRegs) : (d.updSeq n f).pab = d.pab := rfl
@[simp] theorem Device.updSeq_adm (d : Device) (n : Nat) (f : SeqRegs → SeqRegs) : (d.updSeq n f).adm = d.adm := rfl
@[simp] theorem Device.updSeq_mm (d : Device) (n : Nat) (f : SeqRegs → SeqRegs) : (d.updSeq n f).mm = d.mm := rfl
@[simp] theorem Device.updSeq_flt (d : Device) (n : Nat) (f : SeqRegs → SeqRegs) : (d.updSeq n f).flt = d.flt := rfl
@[simp] theorem Device.updSeq_hbm (d : Device) (n : Nat) (f : SeqRegs → SeqRegs) : (d.updSeq n f).hbm = d.hbm := rfl
@[simp] theorem Device.updSeq_fab (d : Device) (n : Nat) (f : SeqRegs → SeqRegs) : (d.updSeq n f).fab = d.fab := rfl
@[simp] theorem Device.updSeq_be (d : Device) (n : Nat) (f : SeqRegs → SeqRegs) : (d.updSeq n f).be = d.be := rfl
@[simp] theorem Device.updSeq_dies (d : Device) (n : Nat) (f : SeqRegs → SeqRegs) : (d.updSeq n f).dies = d.dies := rfl
@[simp] theorem Device.updSeq_tiles (d : Device) (n : Nat) (f : SeqRegs → SeqRegs) : (d.updSeq n f).tiles = d.tiles := rfl
@[simp] theorem Device.updSeq_clusters (d : Device) (n : Nat) (f : SeqRegs → SeqRegs) : (d.updSeq n f).clusters = d.clusters := rfl
@[simp] theorem Device.updSeq_hostScratch (d : Device) (n : Nat) (f : SeqRegs → SeqRegs) : (d.updSeq n f).hostScratch = d.hostScratch := rfl
@[simp] theorem Device.updSeq_glbEvent (d : Device) (n : Nat) (f : SeqRegs → SeqRegs) : (d.updSeq n f).glbEvent = d.glbEvent := rfl
@[simp] theorem Device.updSeq_placement (d : Device) (n : Nat) (f : SeqRegs → SeqRegs) : (d.updSeq n f).placement = d.placement := rfl
@[simp] theorem Device.updSeq_out (d : Device) (n : Nat) (f : SeqRegs → SeqRegs) : (d.updSeq n f).out = d.out := rfl
@[simp] theorem Device.updSeq_die (d : Device) (n : Nat) (f : SeqRegs → SeqRegs) (k : Nat) : (d.updSeq n f).die k = d.die k := rfl
@[simp] theorem Device.updSeq_tile (d : Device) (n : Nat) (f : SeqRegs → SeqRegs) (k : Nat) : (d.updSeq n f).tile k = d.tile k := rfl
@[simp] theorem Device.updSeq_cluster (d : Device) (n : Nat) (f : SeqRegs → SeqRegs) (k : Nat) : (d.updSeq n f).cluster k = d.cluster k := rfl
@[simp] theorem Device.updSeq_stream (d : Device) (n : Nat) (f : SeqRegs → SeqRegs) (k : Nat) : (d.updSeq n f).stream k = d.stream k := rfl
@[simp] theorem Device.updSeq_port (d : Device) (n : Nat) (f : SeqRegs → SeqRegs) (k : Nat) : (d.updSeq n f).port k = d.port k := rfl
@[simp] theorem Device.updSeq_session (d : Device) (n : Nat) (f : SeqRegs → SeqRegs) (k : Nat) : (d.updSeq n f).session k = d.session k := rfl
@[simp] theorem Device.updSeq_link (d : Device) (n : Nat) (f : SeqRegs → SeqRegs) (k : Nat) : (d.updSeq n f).link k = d.link k := rfl
@[simp] theorem Device.updSeq_modelSlot (d : Device) (n : Nat) (f : SeqRegs → SeqRegs) (k : Nat) : (d.updSeq n f).modelSlot k = d.modelSlot k := rfl
@[simp] theorem Device.updConv_free (d : Device) (n j : Nat) (f : ClaimConv → ClaimConv) : (d.updConv n j f).free = d.free := rfl
@[simp] theorem Device.updConv_clk (d : Device) (n j : Nat) (f : ClaimConv → ClaimConv) : (d.updConv n j f).clk = d.clk := rfl
@[simp] theorem Device.updConv_tb (d : Device) (n j : Nat) (f : ClaimConv → ClaimConv) : (d.updConv n j f).tb = d.tb := rfl
@[simp] theorem Device.updConv_start (d : Device) (n j : Nat) (f : ClaimConv → ClaimConv) : (d.updConv n j f).start = d.start := rfl
@[simp] theorem Device.updConv_therm (d : Device) (n j : Nat) (f : ClaimConv → ClaimConv) : (d.updConv n j f).therm = d.therm := rfl
@[simp] theorem Device.updConv_settings (d : Device) (n j : Nat) (f : ClaimConv → ClaimConv) : (d.updConv n j f).settings = d.settings := rfl
@[simp] theorem Device.updConv_pins (d : Device) (n j : Nat) (f : ClaimConv → ClaimConv) : (d.updConv n j f).pins = d.pins := rfl
@[simp] theorem Device.updConv_sec (d : Device) (n j : Nat) (f : ClaimConv → ClaimConv) : (d.updConv n j f).sec = d.sec := rfl
@[simp] theorem Device.updConv_bcp (d : Device) (n j : Nat) (f : ClaimConv → ClaimConv) : (d.updConv n j f).bcp = d.bcp := rfl
@[simp] theorem Device.updConv_held (d : Device) (n j : Nat) (f : ClaimConv → ClaimConv) : (d.updConv n j f).held = d.held := rfl
@[simp] theorem Device.updConv_dp (d : Device) (n j : Nat) (f : ClaimConv → ClaimConv) : (d.updConv n j f).dp = d.dp := rfl
@[simp] theorem Device.updConv_pab (d : Device) (n j : Nat) (f : ClaimConv → ClaimConv) : (d.updConv n j f).pab = d.pab := rfl
@[simp] theorem Device.updConv_mm (d : Device) (n j : Nat) (f : ClaimConv → ClaimConv) : (d.updConv n j f).mm = d.mm := rfl
@[simp] theorem Device.updConv_flt (d : Device) (n j : Nat) (f : ClaimConv → ClaimConv) : (d.updConv n j f).flt = d.flt := rfl
@[simp] theorem Device.updConv_hbm (d : Device) (n j : Nat) (f : ClaimConv → ClaimConv) : (d.updConv n j f).hbm = d.hbm := rfl
@[simp] theorem Device.updConv_fab (d : Device) (n j : Nat) (f : ClaimConv → ClaimConv) : (d.updConv n j f).fab = d.fab := rfl
@[simp] theorem Device.updConv_be (d : Device) (n j : Nat) (f : ClaimConv → ClaimConv) : (d.updConv n j f).be = d.be := rfl
@[simp] theorem Device.updConv_dies (d : Device) (n j : Nat) (f : ClaimConv → ClaimConv) : (d.updConv n j f).dies = d.dies := rfl
@[simp] theorem Device.updConv_regions (d : Device) (n j : Nat) (f : ClaimConv → ClaimConv) : (d.updConv n j f).regions = d.regions := rfl
@[simp] theorem Device.updConv_tiles (d : Device) (n j : Nat) (f : ClaimConv → ClaimConv) : (d.updConv n j f).tiles = d.tiles := rfl
@[simp] theorem Device.updConv_clusters (d : Device) (n j : Nat) (f : ClaimConv → ClaimConv) : (d.updConv n j f).clusters = d.clusters := rfl
@[simp] theorem Device.updConv_hostScratch (d : Device) (n j : Nat) (f : ClaimConv → ClaimConv) : (d.updConv n j f).hostScratch = d.hostScratch := rfl
@[simp] theorem Device.updConv_glbEvent (d : Device) (n j : Nat) (f : ClaimConv → ClaimConv) : (d.updConv n j f).glbEvent = d.glbEvent := rfl
@[simp] theorem Device.updConv_placement (d : Device) (n j : Nat) (f : ClaimConv → ClaimConv) : (d.updConv n j f).placement = d.placement := rfl
@[simp] theorem Device.updConv_out (d : Device) (n j : Nat) (f : ClaimConv → ClaimConv) : (d.updConv n j f).out = d.out := rfl
@[simp] theorem Device.updConv_die (d : Device) (n j : Nat) (f : ClaimConv → ClaimConv) (k : Nat) : (d.updConv n j f).die k = d.die k := rfl
@[simp] theorem Device.updConv_region (d : Device) (n j : Nat) (f : ClaimConv → ClaimConv) (k : Nat) : (d.updConv n j f).region k = d.region k := rfl
@[simp] theorem Device.updConv_tile (d : Device) (n j : Nat) (f : ClaimConv → ClaimConv) (k : Nat) : (d.updConv n j f).tile k = d.tile k := rfl
@[simp] theorem Device.updConv_cluster (d : Device) (n j : Nat) (f : ClaimConv → ClaimConv) (k : Nat) : (d.updConv n j f).cluster k = d.cluster k := rfl
@[simp] theorem Device.updConv_port (d : Device) (n j : Nat) (f : ClaimConv → ClaimConv) (k : Nat) : (d.updConv n j f).port k = d.port k := rfl
@[simp] theorem Device.updConv_session (d : Device) (n j : Nat) (f : ClaimConv → ClaimConv) (k : Nat) : (d.updConv n j f).session k = d.session k := rfl
@[simp] theorem Device.updConv_link (d : Device) (n j : Nat) (f : ClaimConv → ClaimConv) (k : Nat) : (d.updConv n j f).link k = d.link k := rfl
@[simp] theorem Device.updConv_modelSlot (d : Device) (n j : Nat) (f : ClaimConv → ClaimConv) (k : Nat) : (d.updConv n j f).modelSlot k = d.modelSlot k := rfl
@[simp] theorem Device.updPartner_free (d : Device) (n : Nat) (f : Partner → Partner) : (d.updPartner n f).free = d.free := rfl
@[simp] theorem Device.updPartner_clk (d : Device) (n : Nat) (f : Partner → Partner) : (d.updPartner n f).clk = d.clk := rfl
@[simp] theorem Device.updPartner_tb (d : Device) (n : Nat) (f : Partner → Partner) : (d.updPartner n f).tb = d.tb := rfl
@[simp] theorem Device.updPartner_start (d : Device) (n : Nat) (f : Partner → Partner) : (d.updPartner n f).start = d.start := rfl
@[simp] theorem Device.updPartner_therm (d : Device) (n : Nat) (f : Partner → Partner) : (d.updPartner n f).therm = d.therm := rfl
@[simp] theorem Device.updPartner_settings (d : Device) (n : Nat) (f : Partner → Partner) : (d.updPartner n f).settings = d.settings := rfl
@[simp] theorem Device.updPartner_pins (d : Device) (n : Nat) (f : Partner → Partner) : (d.updPartner n f).pins = d.pins := rfl
@[simp] theorem Device.updPartner_sec (d : Device) (n : Nat) (f : Partner → Partner) : (d.updPartner n f).sec = d.sec := rfl
@[simp] theorem Device.updPartner_bcp (d : Device) (n : Nat) (f : Partner → Partner) : (d.updPartner n f).bcp = d.bcp := rfl
@[simp] theorem Device.updPartner_held (d : Device) (n : Nat) (f : Partner → Partner) : (d.updPartner n f).held = d.held := rfl
@[simp] theorem Device.updPartner_pab (d : Device) (n : Nat) (f : Partner → Partner) : (d.updPartner n f).pab = d.pab := rfl
@[simp] theorem Device.updPartner_adm (d : Device) (n : Nat) (f : Partner → Partner) : (d.updPartner n f).adm = d.adm := rfl
@[simp] theorem Device.updPartner_mm (d : Device) (n : Nat) (f : Partner → Partner) : (d.updPartner n f).mm = d.mm := rfl
@[simp] theorem Device.updPartner_flt (d : Device) (n : Nat) (f : Partner → Partner) : (d.updPartner n f).flt = d.flt := rfl
@[simp] theorem Device.updPartner_hbm (d : Device) (n : Nat) (f : Partner → Partner) : (d.updPartner n f).hbm = d.hbm := rfl
@[simp] theorem Device.updPartner_fab (d : Device) (n : Nat) (f : Partner → Partner) : (d.updPartner n f).fab = d.fab := rfl
@[simp] theorem Device.updPartner_be (d : Device) (n : Nat) (f : Partner → Partner) : (d.updPartner n f).be = d.be := rfl
@[simp] theorem Device.updPartner_dies (d : Device) (n : Nat) (f : Partner → Partner) : (d.updPartner n f).dies = d.dies := rfl
@[simp] theorem Device.updPartner_regions (d : Device) (n : Nat) (f : Partner → Partner) : (d.updPartner n f).regions = d.regions := rfl
@[simp] theorem Device.updPartner_tiles (d : Device) (n : Nat) (f : Partner → Partner) : (d.updPartner n f).tiles = d.tiles := rfl
@[simp] theorem Device.updPartner_clusters (d : Device) (n : Nat) (f : Partner → Partner) : (d.updPartner n f).clusters = d.clusters := rfl
@[simp] theorem Device.updPartner_hostScratch (d : Device) (n : Nat) (f : Partner → Partner) : (d.updPartner n f).hostScratch = d.hostScratch := rfl
@[simp] theorem Device.updPartner_glbEvent (d : Device) (n : Nat) (f : Partner → Partner) : (d.updPartner n f).glbEvent = d.glbEvent := rfl
@[simp] theorem Device.updPartner_placement (d : Device) (n : Nat) (f : Partner → Partner) : (d.updPartner n f).placement = d.placement := rfl
@[simp] theorem Device.updPartner_out (d : Device) (n : Nat) (f : Partner → Partner) : (d.updPartner n f).out = d.out := rfl
@[simp] theorem Device.updPartner_die (d : Device) (n : Nat) (f : Partner → Partner) (k : Nat) : (d.updPartner n f).die k = d.die k := rfl
@[simp] theorem Device.updPartner_region (d : Device) (n : Nat) (f : Partner → Partner) (k : Nat) : (d.updPartner n f).region k = d.region k := rfl
@[simp] theorem Device.updPartner_tile (d : Device) (n : Nat) (f : Partner → Partner) (k : Nat) : (d.updPartner n f).tile k = d.tile k := rfl
@[simp] theorem Device.updPartner_cluster (d : Device) (n : Nat) (f : Partner → Partner) (k : Nat) : (d.updPartner n f).cluster k = d.cluster k := rfl
@[simp] theorem Device.updPartner_stream (d : Device) (n : Nat) (f : Partner → Partner) (k : Nat) : (d.updPartner n f).stream k = d.stream k := rfl
@[simp] theorem Device.updPartner_session (d : Device) (n : Nat) (f : Partner → Partner) (k : Nat) : (d.updPartner n f).session k = d.session k := rfl
@[simp] theorem Device.updPartner_link (d : Device) (n : Nat) (f : Partner → Partner) (k : Nat) : (d.updPartner n f).link k = d.link k := rfl
@[simp] theorem Device.updPartner_modelSlot (d : Device) (n : Nat) (f : Partner → Partner) (k : Nat) : (d.updPartner n f).modelSlot k = d.modelSlot k := rfl
@[simp] theorem Device.updBatch_free (d : Device) (n : Nat) (f : Batch → Batch) : (d.updBatch n f).free = d.free := rfl
@[simp] theorem Device.updBatch_clk (d : Device) (n : Nat) (f : Batch → Batch) : (d.updBatch n f).clk = d.clk := rfl
@[simp] theorem Device.updBatch_tb (d : Device) (n : Nat) (f : Batch → Batch) : (d.updBatch n f).tb = d.tb := rfl
@[simp] theorem Device.updBatch_start (d : Device) (n : Nat) (f : Batch → Batch) : (d.updBatch n f).start = d.start := rfl
@[simp] theorem Device.updBatch_therm (d : Device) (n : Nat) (f : Batch → Batch) : (d.updBatch n f).therm = d.therm := rfl
@[simp] theorem Device.updBatch_settings (d : Device) (n : Nat) (f : Batch → Batch) : (d.updBatch n f).settings = d.settings := rfl
@[simp] theorem Device.updBatch_pins (d : Device) (n : Nat) (f : Batch → Batch) : (d.updBatch n f).pins = d.pins := rfl
@[simp] theorem Device.updBatch_sec (d : Device) (n : Nat) (f : Batch → Batch) : (d.updBatch n f).sec = d.sec := rfl
@[simp] theorem Device.updBatch_bcp (d : Device) (n : Nat) (f : Batch → Batch) : (d.updBatch n f).bcp = d.bcp := rfl
@[simp] theorem Device.updBatch_held (d : Device) (n : Nat) (f : Batch → Batch) : (d.updBatch n f).held = d.held := rfl
@[simp] theorem Device.updBatch_pab (d : Device) (n : Nat) (f : Batch → Batch) : (d.updBatch n f).pab = d.pab := rfl
@[simp] theorem Device.updBatch_adm (d : Device) (n : Nat) (f : Batch → Batch) : (d.updBatch n f).adm = d.adm := rfl
@[simp] theorem Device.updBatch_mm (d : Device) (n : Nat) (f : Batch → Batch) : (d.updBatch n f).mm = d.mm := rfl
@[simp] theorem Device.updBatch_flt (d : Device) (n : Nat) (f : Batch → Batch) : (d.updBatch n f).flt = d.flt := rfl
@[simp] theorem Device.updBatch_hbm (d : Device) (n : Nat) (f : Batch → Batch) : (d.updBatch n f).hbm = d.hbm := rfl
@[simp] theorem Device.updBatch_fab (d : Device) (n : Nat) (f : Batch → Batch) : (d.updBatch n f).fab = d.fab := rfl
@[simp] theorem Device.updBatch_be (d : Device) (n : Nat) (f : Batch → Batch) : (d.updBatch n f).be = d.be := rfl
@[simp] theorem Device.updBatch_dies (d : Device) (n : Nat) (f : Batch → Batch) : (d.updBatch n f).dies = d.dies := rfl
@[simp] theorem Device.updBatch_regions (d : Device) (n : Nat) (f : Batch → Batch) : (d.updBatch n f).regions = d.regions := rfl
@[simp] theorem Device.updBatch_tiles (d : Device) (n : Nat) (f : Batch → Batch) : (d.updBatch n f).tiles = d.tiles := rfl
@[simp] theorem Device.updBatch_clusters (d : Device) (n : Nat) (f : Batch → Batch) : (d.updBatch n f).clusters = d.clusters := rfl
@[simp] theorem Device.updBatch_hostScratch (d : Device) (n : Nat) (f : Batch → Batch) : (d.updBatch n f).hostScratch = d.hostScratch := rfl
@[simp] theorem Device.updBatch_glbEvent (d : Device) (n : Nat) (f : Batch → Batch) : (d.updBatch n f).glbEvent = d.glbEvent := rfl
@[simp] theorem Device.updBatch_placement (d : Device) (n : Nat) (f : Batch → Batch) : (d.updBatch n f).placement = d.placement := rfl
@[simp] theorem Device.updBatch_out (d : Device) (n : Nat) (f : Batch → Batch) : (d.updBatch n f).out = d.out := rfl
@[simp] theorem Device.updBatch_die (d : Device) (n : Nat) (f : Batch → Batch) (k : Nat) : (d.updBatch n f).die k = d.die k := rfl
@[simp] theorem Device.updBatch_region (d : Device) (n : Nat) (f : Batch → Batch) (k : Nat) : (d.updBatch n f).region k = d.region k := rfl
@[simp] theorem Device.updBatch_tile (d : Device) (n : Nat) (f : Batch → Batch) (k : Nat) : (d.updBatch n f).tile k = d.tile k := rfl
@[simp] theorem Device.updBatch_cluster (d : Device) (n : Nat) (f : Batch → Batch) (k : Nat) : (d.updBatch n f).cluster k = d.cluster k := rfl
@[simp] theorem Device.updBatch_stream (d : Device) (n : Nat) (f : Batch → Batch) (k : Nat) : (d.updBatch n f).stream k = d.stream k := rfl
@[simp] theorem Device.updBatch_session (d : Device) (n : Nat) (f : Batch → Batch) (k : Nat) : (d.updBatch n f).session k = d.session k := rfl
@[simp] theorem Device.updBatch_link (d : Device) (n : Nat) (f : Batch → Batch) (k : Nat) : (d.updBatch n f).link k = d.link k := rfl
@[simp] theorem Device.updBatch_modelSlot (d : Device) (n : Nat) (f : Batch → Batch) (k : Nat) : (d.updBatch n f).modelSlot k = d.modelSlot k := rfl
@[simp] theorem Device.settle_free (d : Device) : (d.settle).free = d.free := rfl
@[simp] theorem Device.settle_clk (d : Device) : (d.settle).clk = d.clk := rfl
@[simp] theorem Device.settle_tb (d : Device) : (d.settle).tb = d.tb := rfl
@[simp] theorem Device.settle_start (d : Device) : (d.settle).start = d.start := rfl
@[simp] theorem Device.settle_therm (d : Device) : (d.settle).therm = d.therm := rfl
@[simp] theorem Device.settle_settings (d : Device) : (d.settle).settings = d.settings := rfl
@[simp] theorem Device.settle_sec (d : Device) : (d.settle).sec = d.sec := rfl
@[simp] theorem Device.settle_bcp (d : Device) : (d.settle).bcp = d.bcp := rfl
@[simp] theorem Device.settle_held (d : Device) : (d.settle).held = d.held := rfl
@[simp] theorem Device.settle_dp (d : Device) : (d.settle).dp = d.dp := rfl
@[simp] theorem Device.settle_pab (d : Device) : (d.settle).pab = d.pab := rfl
@[simp] theorem Device.settle_adm (d : Device) : (d.settle).adm = d.adm := rfl
@[simp] theorem Device.settle_mm (d : Device) : (d.settle).mm = d.mm := rfl
@[simp] theorem Device.settle_flt (d : Device) : (d.settle).flt = d.flt := rfl
@[simp] theorem Device.settle_hbm (d : Device) : (d.settle).hbm = d.hbm := rfl
@[simp] theorem Device.settle_fab (d : Device) : (d.settle).fab = d.fab := rfl
@[simp] theorem Device.settle_be (d : Device) : (d.settle).be = d.be := rfl
@[simp] theorem Device.settle_dies (d : Device) : (d.settle).dies = d.dies := rfl
@[simp] theorem Device.settle_regions (d : Device) : (d.settle).regions = d.regions := rfl
@[simp] theorem Device.settle_tiles (d : Device) : (d.settle).tiles = d.tiles := rfl
@[simp] theorem Device.settle_clusters (d : Device) : (d.settle).clusters = d.clusters := rfl
@[simp] theorem Device.settle_hostScratch (d : Device) : (d.settle).hostScratch = d.hostScratch := rfl
@[simp] theorem Device.settle_glbEvent (d : Device) : (d.settle).glbEvent = d.glbEvent := rfl
@[simp] theorem Device.settle_placement (d : Device) : (d.settle).placement = d.placement := rfl
@[simp] theorem Device.settle_out (d : Device) : (d.settle).out = d.out := rfl
@[simp] theorem Device.settle_die (d : Device) (k : Nat) : (d.settle).die k = d.die k := rfl
@[simp] theorem Device.settle_region (d : Device) (k : Nat) : (d.settle).region k = d.region k := rfl
@[simp] theorem Device.settle_tile (d : Device) (k : Nat) : (d.settle).tile k = d.tile k := rfl
@[simp] theorem Device.settle_cluster (d : Device) (k : Nat) : (d.settle).cluster k = d.cluster k := rfl
@[simp] theorem Device.settle_stream (d : Device) (k : Nat) : (d.settle).stream k = d.stream k := rfl
@[simp] theorem Device.settle_port (d : Device) (k : Nat) : (d.settle).port k = d.port k := rfl
@[simp] theorem Device.settle_session (d : Device) (k : Nat) : (d.settle).session k = d.session k := rfl
@[simp] theorem Device.settle_link (d : Device) (k : Nat) : (d.settle).link k = d.link k := rfl
@[simp] theorem Device.settle_modelSlot (d : Device) (k : Nat) : (d.settle).modelSlot k = d.modelSlot k := rfl
@[simp] theorem Device.glb_free (d : Device) (b : Nat) : (d.glb b).free = d.free := rfl
@[simp] theorem Device.glb_clk (d : Device) (b : Nat) : (d.glb b).clk = d.clk := rfl
@[simp] theorem Device.glb_tb (d : Device) (b : Nat) : (d.glb b).tb = d.tb := rfl
@[simp] theorem Device.glb_start (d : Device) (b : Nat) : (d.glb b).start = d.start := rfl
@[simp] theorem Device.glb_therm (d : Device) (b : Nat) : (d.glb b).therm = d.therm := rfl
@[simp] theorem Device.glb_settings (d : Device) (b : Nat) : (d.glb b).settings = d.settings := rfl
@[simp] theorem Device.glb_pins (d : Device) (b : Nat) : (d.glb b).pins = d.pins := rfl
@[simp] theorem Device.glb_sec (d : Device) (b : Nat) : (d.glb b).sec = d.sec := rfl
@[simp] theorem Device.glb_bcp (d : Device) (b : Nat) : (d.glb b).bcp = d.bcp := rfl
@[simp] theorem Device.glb_held (d : Device) (b : Nat) : (d.glb b).held = d.held := rfl
@[simp] theorem Device.glb_dp (d : Device) (b : Nat) : (d.glb b).dp = d.dp := rfl
@[simp] theorem Device.glb_pab (d : Device) (b : Nat) : (d.glb b).pab = d.pab := rfl
@[simp] theorem Device.glb_adm (d : Device) (b : Nat) : (d.glb b).adm = d.adm := rfl
@[simp] theorem Device.glb_mm (d : Device) (b : Nat) : (d.glb b).mm = d.mm := rfl
@[simp] theorem Device.glb_flt (d : Device) (b : Nat) : (d.glb b).flt = d.flt := rfl
@[simp] theorem Device.glb_hbm (d : Device) (b : Nat) : (d.glb b).hbm = d.hbm := rfl
@[simp] theorem Device.glb_fab (d : Device) (b : Nat) : (d.glb b).fab = d.fab := rfl
@[simp] theorem Device.glb_be (d : Device) (b : Nat) : (d.glb b).be = d.be := rfl
@[simp] theorem Device.glb_dies (d : Device) (b : Nat) : (d.glb b).dies = d.dies := rfl
@[simp] theorem Device.glb_regions (d : Device) (b : Nat) : (d.glb b).regions = d.regions := rfl
@[simp] theorem Device.glb_tiles (d : Device) (b : Nat) : (d.glb b).tiles = d.tiles := rfl
@[simp] theorem Device.glb_clusters (d : Device) (b : Nat) : (d.glb b).clusters = d.clusters := rfl
@[simp] theorem Device.glb_hostScratch (d : Device) (b : Nat) : (d.glb b).hostScratch = d.hostScratch := rfl
@[simp] theorem Device.glb_placement (d : Device) (b : Nat) : (d.glb b).placement = d.placement := rfl
@[simp] theorem Device.glb_out (d : Device) (b : Nat) : (d.glb b).out = d.out := rfl
@[simp] theorem Device.glb_die (d : Device) (b : Nat) (k : Nat) : (d.glb b).die k = d.die k := rfl
@[simp] theorem Device.glb_region (d : Device) (b : Nat) (k : Nat) : (d.glb b).region k = d.region k := rfl
@[simp] theorem Device.glb_tile (d : Device) (b : Nat) (k : Nat) : (d.glb b).tile k = d.tile k := rfl
@[simp] theorem Device.glb_cluster (d : Device) (b : Nat) (k : Nat) : (d.glb b).cluster k = d.cluster k := rfl
@[simp] theorem Device.glb_stream (d : Device) (b : Nat) (k : Nat) : (d.glb b).stream k = d.stream k := rfl
@[simp] theorem Device.glb_port (d : Device) (b : Nat) (k : Nat) : (d.glb b).port k = d.port k := rfl
@[simp] theorem Device.glb_session (d : Device) (b : Nat) (k : Nat) : (d.glb b).session k = d.session k := rfl
@[simp] theorem Device.glb_link (d : Device) (b : Nat) (k : Nat) : (d.glb b).link k = d.link k := rfl
@[simp] theorem Device.glb_modelSlot (d : Device) (b : Nat) (k : Nat) : (d.glb b).modelSlot k = d.modelSlot k := rfl

/-! ### The pins after a command -/

@[simp] theorem Device.settle_bootStat (d : Device) : d.settle.pins.bootStat = d.start.st.code := rfl
@[simp] theorem Device.settle_faultLow (d : Device) : d.settle.pins.faultLow = d.faultPin := rfl
@[simp] theorem Device.settle_intLow (d : Device) : d.settle.pins.intLow = decide (d.glbEvent ≠ 0) := rfl
@[simp] theorem Device.settle_rstHigh (d : Device) : d.settle.pins.rstHigh = d.pins.rstHigh := rfl
@[simp] theorem Device.settle_railHold (d : Device) : d.settle.pins.railHold = d.pins.railHold := rfl
@[simp] theorem Device.settle_refclkLost (d : Device) : d.settle.pins.refclkLost = d.pins.refclkLost := rfl
@[simp] theorem Device.settle_hubHalted (d : Device) : d.settle.pins.hubHalted = d.pins.hubHalted := rfl
@[simp] theorem Device.settle_vppLow (d : Device) : d.settle.pins.vppLow = d.pins.vppLow := rfl
@[simp] theorem Device.settle_stopped (d : Device) : d.settle.stopped = d.stopped := rfl
@[simp] theorem Device.settle_faultPin (d : Device) : d.settle.faultPin = d.faultPin := rfl
@[simp] theorem Device.settle_settle (d : Device) : d.settle.settle = d.settle := rfl

/-- A command of a part that runs changes the device by its effect, and the pins follow. -/
theorem State.upd_of_runs (s : State) (f : Device → Device) (h : s.dev.stopped = false) :
    s.upd f = { s with dev := (f s.dev).settle } := by simp [State.upd, h]

/-- A command of a part that is held changes the pins alone. -/
theorem State.upd_of_stopped (s : State) (f : Device → Device) (h : s.dev.stopped = true) :
    s.upd f = { s with dev := s.dev.settle } := by simp [State.upd, h]

@[simp] theorem State.updAlways_dev (s : State) (f : Device → Device) : (s.updAlways f).dev = (f s.dev).settle := rfl

end Sys2Proof.Machine
end

