-- ==== Sys2Proof/Laws/Reports.lean ====
section
/-! SUPPORT. What replies, records, notices and breaches can change, said once: `Reports` for the ones that only report,
`Breaches` for the ones that also move guarantee flags. -/
namespace Sys2Proof.Machine

/-- Nothing differs but reports: the fault log, the notices, the port B items, GLB_EVENT, what sessions were sent and what
has left. -/
structure Reports (d d' : Device) : Prop where
  free : d'.free = d.free
  clk : d'.clk = d.clk
  tb : d'.tb = d.tb
  start : d'.start = d.start
  therm : d'.therm = d.therm
  settings : d'.settings = d.settings
  pins : d'.pins = d.pins
  sec : d'.sec = d.sec
  held : d'.held = d.held
  dp : d'.dp = d.dp
  mm : d'.mm = d.mm
  hbm : d'.hbm = d.hbm
  fab : d'.fab = d.fab
  dies : d'.dies = d.dies
  regions : d'.regions = d.regions
  tiles : d'.tiles = d.tiles
  clusters : d'.clusters = d.clusters
  hostScratch : d'.hostScratch = d.hostScratch
  placement : d'.placement = d.placement
  streams : d'.adm.streams = d.adm.streams
  queue : d'.adm.queue = d.adm.queue
  convs : d'.adm.convs = d.adm.convs
  ledger : d'.adm.ledger = d.adm.ledger
  groups : d'.adm.groups = d.adm.groups
  pkgLimit : d'.adm.pkgLimit = d.adm.pkgLimit
  closed : d'.adm.closed = d.adm.closed
  fenced : d'.flt.fenced = d.flt.fenced
  fenceCause : d'.flt.fenceCause = d.flt.fenceCause
  replacements : d'.flt.replacements = d.flt.replacements
  inUse : ∀ n, (d'.session n).inUse = (d.session n).inUse
  role : ∀ n, (d'.session n).role = (d.session n).role
  out : d.out <:+ d'.out

theorem Reports.refl (d : Device) : Reports d d := by constructor <;> simp

theorem Reports.trans {a b c : Device} (h : Reports a b) (k : Reports b c) : Reports a c := by
  cases h
  cases k
  constructor <;> simp_all
  exact List.IsSuffix.trans ‹_› ‹_›

/-- A report for each entry of a list is a report. -/
theorem Reports.forEach (l : List Nat) (f : Nat → Device → Device) (h : ∀ n d, Reports d (f n d)) :
    ∀ d, Reports d (forEach l f d) := by
  induction l with
  | nil => exact Reports.refl
  | cons n rest ih => exact fun d => (h n d).trans (ih _)

theorem Device.glb_reports (d : Device) (b : Nat) : Reports d (d.glb b) := by constructor <;> simp

theorem Device.item_reports (d : Device) (k : Nat) (w : List Nat) : Reports d (d.item k w) := by
  unfold Device.item
  dsimp only
  split <;> exact { Reports.refl d with }

/-- A field of a session that sending does not touch. -/
theorem Device.session_upd_field {α : Type} (d : Device) (s n : Nat) (f : Session → Session) (g : Session → α)
    (h : ∀ x, g (f x) = g x) : g ((d.updSession s f).session n) = g (d.session n) := by
  by_cases hn : n = s
  · subst hn
    simp [h]
  · simp [hn]

theorem Device.emit_reports (d : Device) (o : Out) : Reports d (d.emit o) := by
  unfold Device.emit
  split
  · rename_i s _
    exact { Reports.refl d with
      inUse := fun n => d.session_upd_field s n _ (fun x => x.inUse) fun _ => rfl
      role := fun n => d.session_upd_field s n _ (fun x => x.role) fun _ => rfl
      out := List.suffix_cons o d.out }
  · exact { Reports.refl d with out := List.suffix_cons o d.out }

/-- What is emitted stands first. -/
@[simp] theorem Device.emit_out (d : Device) (o : Out) : (d.emit o).out = o :: d.out := by
  unfold Device.emit
  split <;> rfl

/-- The fault log and its number change. -/
theorem Reports.setLog (d : Device) (k : Nat) (l : List FaultRecord) :
    Reports d { d with flt := { d.flt with seq := k, log := l } } := { Reports.refl d with }

/-- The notice log, its number and the notice flags change. -/
theorem Reports.setNotices (d : Device) (k : Nat) (l : List Notice) (b s c : Bool) :
    Reports d { d with adm := { d.adm with noticeSeq := k, notices := l, breachF := b, shedF := s, capacityF := c } } :=
  { Reports.refl d with }

theorem Device.beReport_reports (d : Device) (u : Nat) : Reports d (d.beReport u) := by
  unfold Device.beReport
  split <;> exact { Reports.refl d with }
@[simp] theorem Device.beReport_flt (d : Device) (u : Nat) : (d.beReport u).flt = d.flt := by
  unfold Device.beReport
  split <;> rfl
theorem Device.faultRec_reports (d : Device) (a b e c n x s : Nat) : Reports d (d.faultRec a b e c n x s) := by
  unfold Device.faultRec
  exact (((d.beReport_reports b).trans (Reports.setLog _ _ _)).trans (Device.glb_reports _ _)).trans (Device.item_reports _ _ _)

theorem Device.fault_reports (d : Device) (a b e c x : Nat) : Reports d (d.fault a b e c x) := d.faultRec_reports _ _ _ _ _ _ _
theorem Device.faultTile_reports (d : Device) (p e c x : Nat) : Reports d (d.faultTile p e c x) := d.fault_reports _ _ _ _ _
theorem Device.faultRegion_reports (d : Device) (r e c x : Nat) : Reports d (d.faultRegion r e c x) := d.fault_reports _ _ _ _ _
theorem Device.faultDie_reports (d : Device) (n e c x : Nat) : Reports d (d.faultDie n e c x) := d.fault_reports _ _ _ _ _
theorem Device.dropped_reports (d : Device) (r x s : Nat) : Reports d (d.dropped r x s) := d.faultRec_reports _ _ _ _ _ _ _
theorem Device.portEvent_reports (d : Device) (p e s i : Nat) : Reports d (d.portEvent p e s i) :=
  (d.glb_reports 5).trans (Device.item_reports _ _ _)

/-- The newest record of the fault log after a record is written (R445). -/
theorem Device.item_flt (d : Device) (k : Nat) (w : List Nat) : (d.item k w).flt = d.flt := by
  unfold Device.item
  dsimp only
  split <;> rfl
theorem Device.faultRec_log (d : Device) (a b e c n x s : Nat) :
    ∃ f rest, (d.faultRec a b e c n x s).flt.log = f :: rest ∧ f.unitL = a ∧ f.unitP = b ∧ f.event = e ∧ f.action = c ∧
      f.count = n ∧ f.detail = x ∧ f.stream = s ∧ f.mer = d.mer ∧ f.seq = (d.faultRec a b e c n x s).flt.seq := by
  unfold Device.faultRec
  simp only [Device.item_flt, Device.glb_flt]
  exact ⟨_, _, rfl, rfl, rfl, rfl, rfl, rfl, rfl, rfl, rfl, rfl⟩

/-- Raising one bit of GLB_EVENT or another. -/
theorem Reports.iteGlb (d x : Device) (p q : Bool) (h : Reports d x) :
    Reports d (if p then x.glb 0 else if q then x.glb 1 else x) := by
  split
  · exact h.trans (x.glb_reports _)
  · split
    · exact h.trans (x.glb_reports _)
    · exact h

/-- A notice reports (R344, R346, R469). -/
theorem Device.notice_reports (d : Device) (cause kind unit : Nat) (named : List (Nat × Nat × Nat)) :
    Reports d (d.notice cause kind unit named) := by
  unfold Device.notice
  refine Reports.trans ?_ (Reports.forEach _ _ (fun s d => ?_) _)
  · refine Reports.trans ?_ (Device.item_reports _ _ _)
    exact Reports.iteGlb _ _ _ _ { Reports.refl d with }
  · refine Reports.trans ?_ (Device.emit_reports _ _)
    exact { Reports.refl d with
      inUse := fun n => d.session_upd_field s n _ (fun x => x.inUse) fun _ => rfl
      role := fun n => d.session_upd_field s n _ (fun x => x.role) fun _ => rfl }

theorem Device.capacityNotice_reports (d : Device) : Reports d d.capacityNotice := d.notice_reports _ _ _ _
theorem Device.modelNotice_reports (d : Device) (m v st i : Nat) (l : List Nat) : Reports d (d.modelNotice m v st i l) :=
  Reports.forEach _ _ (fun _ d => d.emit_reports _) d

/-- A reply reports, moves BASE of the session that waits, and stands first in what has left (R460, R461). -/
theorem Device.reply_reports (d : Device) (who cmd st : Nat) (body : List Nat) : Reports d (d.reply who cmd st body) := by
  unfold Device.reply
  refine Reports.trans ?_ (Device.emit_reports _ _)
  refine { Reports.refl d with inUse := fun n => ?_, role := fun n => ?_ }
  · exact d.session_upd_field who n _ (fun x => x.inUse) fun x => by split <;> rfl
  · exact d.session_upd_field who n _ (fun x => x.role) fun x => by split <;> rfl
@[simp] theorem Device.reply_out (d : Device) (who cmd st : Nat) (body : List Nat) :
    (d.reply who cmd st body).out = .reply who cmd st body :: d.out := by
  unfold Device.reply
  simp
theorem Device.emit_session_ne (d : Device) (o : Out) (n : Nat) (h : o.session ≠ some n) : (d.emit o).session n = d.session n := by
  unfold Device.emit
  split
  · rename_i s hs
    have : n ≠ s := fun e => h (e ▸ hs)
    exact d.session_updSession_ne s n _ this
  · rfl
@[simp] theorem Device.reply_session_ne (d : Device) (who cmd st n : Nat) (body : List Nat) (h : n ≠ who) :
    (d.reply who cmd st body).session n = d.session n := by
  unfold Device.reply
  rw [Device.emit_session_ne _ _ _ (by simpa [Out.session] using Ne.symm h)]
  simp [h]

/-! ### Breaches (R315, R342, R344) -/

/-- Reports, and guarantee flags with their causes. -/
structure Breaches (d d' : Device) : Prop where
  clk : d'.clk = d.clk
  tb : d'.tb = d.tb
  start : d'.start = d.start
  therm : d'.therm = d.therm
  settings : d'.settings = d.settings
  pins : d'.pins = d.pins
  sec : d'.sec = d.sec
  held : d'.held = d.held
  dp : d'.dp = d.dp
  mm : d'.mm = d.mm
  hbm : d'.hbm = d.hbm
  fab : d'.fab = d.fab
  dies : d'.dies = d.dies
  regions : d'.regions = d.regions
  tiles : d'.tiles = d.tiles
  clusters : d'.clusters = d.clusters
  queue : d'.adm.queue = d.adm.queue
  convs : d'.adm.convs = d.adm.convs
  ledger : d'.adm.ledger = d.adm.ledger
  fenced : d'.flt.fenced = d.flt.fenced
  fenceCause : d'.flt.fenceCause = d.flt.fenceCause
  replacements : d'.flt.replacements = d.flt.replacements
  inUse : ∀ n, (d'.session n).inUse = (d.session n).inUse
  stream : ∀ n, ∃ g l, d'.stream n = { d.stream n with guarantee := g, clearedBy := l }

theorem Breaches.refl (d : Device) : Breaches d d := by
  constructor <;> first | rfl | exact fun _ => rfl | exact fun n => ⟨_, _, rfl⟩

theorem Breaches.trans {a b c : Device} (h : Breaches a b) (k : Breaches b c) : Breaches a c := by
  have hs := h.stream
  have ks := k.stream
  cases h
  cases k
  constructor <;> first | (intro n; obtain ⟨g, l, e⟩ := hs n; obtain ⟨g', l', e'⟩ := ks n; exact ⟨g', l', by rw [e', e]⟩) | simp_all

theorem Reports.breaches {d d' : Device} (h : Reports d d') : Breaches d d' := by
  have hs := h.streams
  cases h
  constructor <;> first | assumption | exact fun n => ⟨_, _, by unfold Device.stream; rw [hs]⟩

theorem Breaches.forEach (l : List Nat) (f : Nat → Device → Device) (h : ∀ n d, Breaches d (f n d)) :
    ∀ d, Breaches d (forEach l f d) := by
  induction l with
  | nil => exact Breaches.refl
  | cons n rest ih => exact fun d => (h n d).trans (ih _)

/-- A change of a stream's guarantee flag and causes alone. -/
theorem Device.updStream_breaches (d : Device) (s : Nat) (f : Stream → Stream)
    (h : ∀ x, ∃ g l, f x = { x with guarantee := g, clearedBy := l }) : Breaches d (d.updStream s f) := by
  refine { Breaches.refl d with stream := fun n => ?_ }
  by_cases hn : n = s
  · subst hn
    obtain ⟨g, l, e⟩ := h (d.stream n)
    exact ⟨g, l, by rw [Device.stream_updStream_same, e]⟩
  · exact ⟨_, _, by rw [Device.stream_updStream_ne _ _ _ _ hn]⟩

theorem Device.clearFlags_breaches (d : Device) (cause : Nat) (l : List Nat) : Breaches d (d.clearFlags cause l) := by
  unfold Device.clearFlags
  split
  · exact Breaches.forEach _ _ (fun s d => d.updStream_breaches s _ fun x => ⟨_, _, rfl⟩) d
  · exact Breaches.refl d

theorem Device.breach_breaches (d : Device) (cause unit : Nat) (l : List Nat) : Breaches d (d.breach cause unit l) := by
  unfold Device.breach
  dsimp only
  split
  · exact Breaches.refl d
  · exact (Device.clearFlags_breaches _ _ _).trans (Device.notice_reports _ _ _ _ _).breaches

theorem Device.restore_breaches (d : Device) (cause unit : Nat) (l : List Nat) : Breaches d (d.restore cause unit l) := by
  unfold Device.restore
  dsimp only
  have h : Breaches d (Machine.forEach (l.filter fun s => decide ((d.stream s).st ≠ .free) && (d.stream s).clearedBy.contains cause)
      (fun s d => d.updStream s fun x =>
        { x with clearedBy := x.clearedBy.filter fun c => c ≠ cause,
                 guarantee := x.clearedBy.filter (fun c => c ≠ cause) = [] }) d) :=
    Breaches.forEach _ _ (fun s d => d.updStream_breaches s _ fun x => ⟨_, _, rfl⟩) d
  split
  · exact h
  · exact h.trans (Device.notice_reports _ _ _ _ _).breaches

/-! ### Commands and register rows (R16, R462, R580) -/

/-- A command of a session that may not be served has no effect. -/
theorem Device.cmd_not_served (d : Device) (who code : Nat) (need : Role) (op : Device → Nat × List Nat × Device)
    (h : d.served who = false) : d.cmd who code need op = d := by simp [Device.cmd, Device.request, h]

/-- Below the role the answer is NOT_AUTHORISED, before any other check. -/
theorem Device.cmd_no_role (d : Device) (who code : Nat) (need : Role) (op : Device → Nat × List Nat × Device)
    (h : d.served who = true) (k : d.hasRole who need = false) :
    d.cmd who code need op = d.reply who code stNotAuthorised [] := by simp [Device.cmd, Device.request, h, k]

/-- A command that the mode admits does what its operation says, then answers. -/
theorem Device.cmd_ok (d : Device) (who code : Nat) (need : Role) (op : Device → Nat × List Nat × Device)
    (h : d.served who = true) (k : d.hasRole who need = true) (m : d.modeCheck code = none) :
    d.cmd who code need op = (op d).2.2.reply who code (op d).1 (op d).2.1 := by simp [Device.cmd, Device.request, h, k, m]

/-- A command that the mode refuses changes nothing but its answer. -/
theorem Device.cmd_mode (d : Device) (who code st : Nat) (need : Role) (op : Device → Nat × List Nat × Device)
    (h : d.served who = true) (k : d.hasRole who need = true) (m : d.modeCheck code = some st) :
    d.cmd who code need op = d.reply who code st [] := by simp [Device.cmd, Device.request, h, k, m]

/-- A register write by the part's own firmware (R16, R581). -/
theorem Device.rowWrite_firmware (d : Device) (need : Role) (op : Device → Nat × Device) :
    d.rowWrite 8 need op = if (op d).1 = stOK then (op d).2 else d.ignored (op d).1 := by
  simp only [Device.rowWrite, if_true]

/-- A register write by a session that may make it. -/
theorem Device.rowWrite_session (d : Device) (who : Nat) (need : Role) (op : Device → Nat × Device) (w : who ≠ 8)
    (h : d.served who = true) (k : d.hasRole who need = true) (m : d.modeCheck cmdRegWrite = none) :
    d.rowWrite who need op = (if (op d).1 = stOK then (op d).2 else d).reply who cmdRegWrite (op d).1 [] := by
  simp only [Device.rowWrite, if_neg w]
  rw [Device.cmd_ok _ _ _ _ _ h k m]

end Sys2Proof.Machine
end

