-- ==== Sys2Proof/Laws/Step.lean ====
section
/-! SUPPORT. What a step is on an empty queue and on a queue with a command in front, and what the two ways to update a state
leave. -/
namespace Sys2Proof.Machine

/-! ### Updating a state -/

/-- While the part is held, an update changes the pins alone. -/
theorem State.upd_stopped (s : State) (f : Device → Device) (h : s.dev.stopped = true) : s.upd f = Safety.becomes s s.dev := by
  simp [State.upd, h, Safety.becomes]

/-- While the part runs, an update is the new device with its pins settled. -/
theorem State.upd_runs (s : State) (f : Device → Device) (h : s.dev.stopped = false) : s.upd f = Safety.becomes s (f s.dev) := by
  simp [State.upd, h, Safety.becomes]

@[simp] theorem State.upd_pending (s : State) (f : Device → Device) : (s.upd f).pending = s.pending := rfl
@[simp] theorem State.updAlways_pending (s : State) (f : Device → Device) : (s.updAlways f).pending = s.pending := rfl

/-- Settled pins agree with the state. -/
theorem Device.settle_pinsAgree (s : State) (d : Device) : Safety.PinsAgree { s with dev := d.settle } := ⟨rfl, rfl, rfl⟩

theorem State.upd_pinsAgree (s : State) (f : Device → Device) : Safety.PinsAgree (s.upd f) := Device.settle_pinsAgree s _
theorem State.updAlways_pinsAgree (s : State) (f : Device → Device) : Safety.PinsAgree (s.updAlways f) :=
  Device.settle_pinsAgree s _

/-- Settling the pins changes the pins alone: a property of a device that looks at no pin survives it. -/
theorem Device.settle_eq (d : Device) : d.settle = { d with pins := d.settle.pins } := rfl

/-- Canonical memories survive an update that keeps them. -/
theorem State.upd_memories (s : State) (f : Device → Device) (h : Safety.MemoriesCanonical s)
    (k : Safety.MemoriesCanonical { s with dev := f s.dev }) : Safety.MemoriesCanonical (s.upd f) := by
  cases r : s.dev.stopped
  · rw [State.upd_runs s f r]; exact k
  · rw [State.upd_stopped s f r]; exact h

/-! ### A step -/

theorem step_idle (s : State) (h : s.pending = []) : step s = .next (s.upd Device.tick) := by simp [step, h]

theorem step_front (s : State) (c : Instr) (rest : List Instr) (h : s.pending = c :: rest) :
    step s = exec c { s with pending := rest } := by simp [step, h]

/-- A step that answers a next state is one cycle of the timebase, or the command at the front with the rest of the queue. -/
theorem step_cases {s t : State} (h : step s = .next t) :
    (s.pending = [] ∧ t = s.upd Device.tick) ∨ ∃ c rest, s.pending = c :: rest ∧ exec c { s with pending := rest } = .next t := by
  cases p : s.pending with
  | nil => rw [step_idle s p] at h; cases h; exact Or.inl ⟨rfl, rfl⟩
  | cons c rest => rw [step_front s c rest p] at h; exact Or.inr ⟨c, rest, rfl, h⟩

end Sys2Proof.Machine
end

