-- ==== Sys2Proof/Tests/Slice0.lean ====
section
/-! SUPPORT. Tests: which operands are well formed, the worked examples of the spec, a few steps, and for each statement small
states that meet its hypotheses, clause by clause. -/

open Sys2Proof Sys2Proof.Machine Sys2Proof.Safety

namespace Sys2Proof.Tests

set_option Elab.async false

/-! ### Small states -/

/-- The reset state with its device changed. -/
def dev (f : Device → Device) : State := { State.reset with dev := f .reset }

/-- An open session with a role. -/
def sess (n : Nat) (r : Role) (d : Device) : Device :=
  d.updSession n fun x => { x with inUse := true, role := r, blockSize := 1024, base := 1 }

/-- A part that is READY, with an open Owner session 0. -/
def rdy (d : Device) : Device := sess 0 .owner { d with start := { d.start with st := .ready } }

/-- Start-up at a step. -/
def starting (n : Nat) (d : Device) : Device := { d with start := { d.start with st := .starting, step := n } }

/-- A part that has run for a long time, and one in a frame. -/
def late (d : Device) : Device := { d with clk := { d.clk with cycles := 10 ^ 12 } }
def inFrame (n : Nat) (d : Device) : Device := { d with clk := { d.clk with frame := n } }

def reg (r : Nat) (f : Region → Region) (d : Device) : Device := d.updRegion r f
def tile (p : Nat) (f : Tile → Tile) (d : Device) : Device := d.updTile p f
def strm (n : Nat) (f : Stream → Stream) (d : Device) : Device := d.updStream n f

/-- Region 0 running slot 0, a program of 64 bundles, with some registers. -/
def running (s a t q : Table Nat) (d : Device) : Device :=
  d.updRegion 0 fun g =>
    { g with regs := { g.regs with st := .running }, active := true, cyc := 100,
             ps := [(0, { ProgSlot.reset with st := .valid, len := 64, stream := 1 })],
             arch := [(0, { Bank.reset with s := s, a := a, t := t, q := q, pc := 3 })] }

/-- A descriptor of `n` tokens of `len` elements at an address, with records of a set or none. -/
def td (addr fmt n len stride sref qset : Nat) : Nat :=
  addr + fmt * 2 ^ 48 + 1 * 2 ^ 52 + qset * 2 ^ 54 + sref * 2 ^ 58 + (len - 1) * 2 ^ 64 + (n - 1) * 2 ^ 80 + stride * 2 ^ 128

/-- A boot with every self-test passed and no firmware copy. -/
def bootEnv : BootEnv :=
  { recoveryHigh := true, selfTests := 31, copyA := none, copyB := none, firstTry := true, secondTry := true, bootId := 7,
    badKeys := [], badLog := [] }

/-- An activation whose Q is set. -/
def a0 : Activation := { drain := false, q := some 0, limitAt := 0 }

/-- A token, a burst of it and an MVM of 4 columns. -/
def token0 : BurstToken := { codes := [1, 2], record := 0x3f800000, bad := false, dst := 4096, recd := 8192 }
def burst0 : Burst :=
  { region := 0, stream := 1, slot := 0, pc := 3, logical := 3, span := 1, signed := false, range := 2, zp2 := 0, cls := 0,
    outs := 4, fmt := 8, qset := 0, hold := false, pm := 0, pmAt := 0, tokens := [token0], total := 1, at_ := none, due := 0,
    pair := none, twin := false }
def mvm0 : Mvm :=
  { no := 2, stream := 1, region := 0, logical := 3, cls := 0, range := 2, zp2 := 0, outs := 4, dst := 4096, recd := 8192,
    hold := false, fmt := 8, qset := 0, recIn := 0x3f800000, bad := false, pm := 0, pmAt := 0, doneAt := 0, last := true,
    slot := 0, pc := 3, scales := [], charge := [], pair := none, twin := false, at_ := 0, forced := false, kappaT := 0, trims := [], adc := [], span := 1, signed := false,
    u := [], clips := [], ys := [], complete := false, judged := none }

/-- A test that is due. -/
def test0 : TestEntry := { unit := unitPt 3, code := 1, part := 0, len := 1000, dueAt := 0, overdue := false }

/-- A parameter set of a format, its records at an address. -/
def qs (fmt rec_ : Nat) : Nat := fmt + rec_ * 2 ^ 40

/-- A tile control word: a logical tile of the region's cluster 0, a first token and a count. -/
def rc (t first n : Nat) : Nat := 16 * t + 256 + 2048 + first * 2 ^ 16 + (n - 1) * 2 ^ 40

/-- Region 0 runs a program of stream 1, which is ACTIVE and binds logical tile 2; tensors and records stand in scratch. -/
def prog (d : Device) : Device :=
  (running
    [(0, 1), (1, 5), (2, 64), (5, 2 ^ 25), (6, 0x3f80000000000000), (7, rc 2 1 1), (8, rc 2 1 2), (9, 0x3f800000), (28,
      0x3c000000),
      (29, 0x3f000000), (30, 0x3f000000), (31, 0x33000000)]
    [(1, 4096), (2, 8192), (3, 16384), (4, 0x10 * 2 ^ 40), (5, 0x100)]
    [(1, td 4096 0 2 4 64 1 1), (2, td 8192 5 2 4 64 2 0), (3, td 9216 5 2 4 64 2 0), (4, td 12288 0 4 3 64 1 2),
      (5, td 16384 5 2 3 64 2 0), (6, td 20480 6 2 4 64 2 0), (7, td 24576 5 1 4 64 2 0), (8, td (2 ^ 40) 6 2 4 64 1 5),
      (9, td 28672 3 2 4 64 2 0), (10, td 32768 1 2 4 64 1 3), (11, td 36864 1 2 4 64 1 4), (12,
        td (0x10 * 2 ^ 40) 4 4 3 64 1 2),
      (13, td 40960 7 2 3 64 1 5), (14, td 45056 5 2 3 64 1 5), (15, td 49152 6 2 4 64 1 5)]
    [(1, qs 0 65536), (2, qs 0 65792), (3, qs 1 66048), (4, qs 1 66304), (5, qs 0 66560)]
    (strm 1 (fun x =>
      { x with st := .active, almanac := 20, ctxQuota := 1, channels := [(0, 77, 0, 0)], tiles := [(2, 1, 1, 0)],
               flows := [⟨0, 3, 0, 4096, 0, 0, 0, 64⟩, ⟨0, 1, 0, 4096, 0, 0, 0, 64⟩],
               egress := [⟨0, 0, 1, 8192, 10, 0⟩] }) (rdy d))).updRegion 0 fun g =>
    { g with
      scratch := memWrite (memWrite (memWrite (memWrite (memWrite (memWrite (memWrite (memWrite [] 4096 (leBytes 4 0x01020304)) 4160
        (leBytes 4 0x05060708)) 8192 (leBytes 8 0x3f8040003f003f80)) 8256 (leBytes 8 0xbf804000bf003f80)) 12288 (leBytes 3 0x010203))
        12352 (leBytes 3 0x040506)) 65536 ((List.range 3).flatMap fun _ => leBytes 8 0x033f800000)) 65792
        ((List.range 130).flatMap fun _ => leBytes 8 0x013f800000),
      ps := tupd .reset g.ps 0 fun p => { p with win := [{ base := 0, size := 16, read := true, write := true }] } }

def xfer0 : Xfer :=
  { id := 0, kind := .localCopy, writes := [(4096, leBytes 8 9)], stream := 1, key := 0, del := false, doneAt := 0, pc := 3,
    requests := 0, poison := [], recs := [] }
def hold0 : Hold :=
  { y := List.replicate 512 7, clips := [], ready := true, pass := true, record := 0x3f800000, scales := [], signed := false,
    cond := false, stream := 1 }

/-- A claim of stream 1 with tag 9, 20 beats and one HBM record, and one with a wrong version. -/
def conv0 : ClaimConv :=
  { st := .queued, stream := 1, tag := 9, length := 96, session := 0,
    blocks := [(0, [2 ^ 56 + 2 ^ 48 + 20 * 2 ^ 27, 3, 0, 1 + 64 * 2 ^ 32, 9, 0, 0,
      0].flatMap fun v => (leBytes 8 v).reverse)],
    records := [.hbm 0 100 0], refusal := none, startFrame := 0, touchedAt := 0 }
def conv1 : ClaimConv := { conv0 with blocks := [] }
def frame0 : ResultFrame :=
  { stream := 1, seq := 0, flags := 0, mer := 0, epoch := 0, fmt := 5, recs := false, group := 4, gidx := 0, tokens := 1,
    dim0 := 3, batch := 0, body := [1] }
def packet0 : EgressPacket := { region := 0, instant := 983040, pc := 3, frame := frame0 }
def entry0 : LedgerEntry :=
  { region := 0, slot := 0, frame := frame0, arrived := 0, instant := 983040, counted := true, due := false, late := false, verdict := none,
    sent := false }
def egressing (d : Device) : Device := (prog d).updStream 1 fun x => { x with ledger := 1, cutThrough := true }

/-- A manifest of one tile and one shard of 128 bytes, an area that holds it,
  and the HBM bytes of its one weight and scale. -/
def rec0 : TileRecord := { tile := 2, offset := 0, stride := 1, rows := 0, cols := 0, rescale := 64 }
def man0 : Manifest :=
  { format := 1, anchor := 0, model := 5, version := 6, bytes := 128, shardCount := 1, tileCount := 1, area := 1, shards := [(77, 128)],
    tiles := [rec0], reservedZero := true, objLength := 0, digest := 0, keyHash := 55 }
def shard0 : Shard := { units := [0, 1], verified := false, corrupt := false, attempts := 0, requested := true, askedAt := 0 }
def area0 : Area :=
  { Area.reset with st := .receiving, version := 6, epoch := 1, manifest := some man0, shards := [shard0], partner := [(0, 3)],
                    allocated := true }
/-- Model 5 in slot 2, its second area changed. -/
def modelAt (f : Area → Area) (d : Device) : Device :=
  { rdy d with
    mm := { d.mm with slots := [(2, { ModelSlot.reset with model := 5, area1 := f area0, activeEpoch := 1 })] },
    hbm := { d.hbm with mem := memWrite (memWrite [] 0 (leBytes 1 5)) 64 (leBytes 4 0x3f800000) } }
def shed0 : Replacement := { stream := 1, region := 0, target := some 3, cause := 0x12, since := 0 }
def lostStream (d : Device) : Device :=
  (rdy { d with
    adm := { d.adm with convs := [{ conv0 with st := .accepted }],
                        streams := [(1, { Stream.reset with st := .active, tag := 9, clearedBy := [0x12], programs := [⟨0, 0, 0, 64, 0, [], []⟩] })] },
    flt := { d.flt with replacements := [shed0] } })

/-- A HELLO under anchor 2, its handshake, and a part with session 0 open on port A. -/
def hello0 : HelloMsg :=
  { port := 0, peer := 5, version := 1, formatOk := true, role := .operator, takeover := false, payload := 1024, nonce := 6,
    chainOk := true, inPeriod := true, selfSignedRoot := true, rootHash := 55, leafKey := 66, sessionId := 45,
      ephemeralOk := true }
def hs0 : Handshake :=
  { port := 0, peer := 5, nonce := 7, key := 66, root := 55, anchor := 2, role := .operator, id := 45, payload := 1024,
    noTime := false, since := 0 }
def sessDev (d : Device) : Device :=
  ({ rdy d with
    pab := { d.pab with linkA := true },
    sec := { d.sec with anchors := [.reset, .reset, { Anchor.reset with present := true, hash := 55, ceiling := 0 }, .reset] } }).updSession 0
    fun x => { x with id := 44, recHigh := 9, recSeen := [8], cache := [⟨0, 8, 1, 0, [4]⟩] }
def hr0 : HeldRequest := { session := 0, seq := 1, fingerprint := 8, msg := .request .ping }

/-- The manifest of `man0` as its 416 bytes: a header, one shard entry, one tile record and a signature of zeros (R380 to R383). -/
def manBytes : List (Nat × Byte) :=
  memWrite (memWrite (memWrite (memWrite [] 0 ([2 ^ 56, 5 * 2 ^ 32 + 6, 128 * 2 ^ 24, 2 ^ 48 + 2 ^ 32 + 2 ^ 16].flatMap fun v =>
    (leBytes 8 v).reverse)) 111 [77]) 112 (leBytes 4 128).reverse) 128 ([2 * 2 ^ 32, 1, 64].flatMap fun v => (leBytes 8 v).reverse)
def buf0 : ManifestBuf := ⟨0, 5, 6, 416, 0, 0, [(0, 416)], manBytes, 0⟩
def wenv : WriteEnv := { races := 0, burnOk := true, linkOk := true, microcodeOk := true, scans := [], testsOk := true }
/-- A part with an anchor and an open manifest buffer. -/
def buffered (d : Device) : Device :=
  { rdy d with
    mm := { d.mm with buffers := [buf0] },
    sec := { d.sec with anchors := [{ Anchor.reset with present := true, hash := 55 }, .reset, .reset, .reset] } }
def convDev (c : ClaimConv) (d : Device) : Device := { rdy d with adm := { d.adm with convs := [c] } }
/-- A second epoch of model 5 staged beside the first. -/
def twoEpochs (x y : AreaSt) (f : ModelSlot → ModelSlot) (d : Device) : Device :=
  (modelAt (fun a => { a with st := y, epoch := 1 }) d).updModelSlot 2 fun m => f { m with area0 := { area0 with st := x, epoch := 2 } }

/-- A valid firmware header, a conversation of it, and a part with that conversation. -/
def fwPart0 (k : Nat) : FwComponent := { type := k + 1, svn := 0, offset := 64 * k, length := 64, digest := 70 + k }
def fw0 : FwHeader :=
  { magic := 0xD0F15E08, format := 1, version := 3, build := 4, payloadLength := 192, reservedZero := true,
    components := [fwPart0 0, fwPart0 1, fwPart0 2], keyHash := 0, sig := 5, signatureOk := true }
/-- The 512 bytes of that header (R529, R530). -/
def fwBytes : List Byte :=
  ([0xD0F15E08 * 2 ^ 32 + 2 ^ 24, 3 * 2 ^ 32 + 4, 192 * 2 ^ 32, 0, 0, 0, 0, 0].flatMap fun v => (leBytes 8 v).reverse) ++
    ((List.range 3).flatMap fun k =>
      [(k + 1) * 2 ^ 56, (64 * k) * 2 ^ 32 + 64, 0, 0, 0, 0, 0, 70 + k].flatMap fun v => (leBytes 8 v).reverse) ++
    List.replicate 256 0
def fwDev (f : FwConv → FwConv) (d : Device) : Device :=
  { rdy d with sec := { d.sec with fw := f { d.sec.fw with st := .receiving, header := some fw0 } } }
def fwDev2 (f : FwHeader) (d : Device) : Device :=
  { rdy d with sec := { d.sec with fw := { d.sec.fw with st := .receiving, header := some f } } }
def debug0 : DebugToken :=
  { length := 256, magic := 0xD0F1DB60, deviceId := 0, bootId := 0, scope := 2, reservedZero := true, keyHash := 0, signatureOk := true }
def key0 : KeyBody := { length := 72, op := 0, port := 2, prio := 9, cknLen := 4, reservedZero := true, ckn := 33, cak := 44 }
def cak0 : CakRecord := { port := 2, ckn := 33, cak := 40, prio := 1, debugKey := false }
def anchor0 (op slot : Nat) : AnchorBody := { length := if op = 0 then 56 else 8, op := op, slot := slot, ceiling := 1, reservedZero := true, hash := 99 }
def anchored (d : Device) : Device :=
  sess 3 .operator { rdy d with
    sec := { d.sec with anchors := [{ Anchor.reset with present := true, hash := 55 }, { Anchor.reset with present := true, hash := 56 }, .reset, .reset] } }
    |>.updSession 3 fun x => { x with anchor := 1 }

/-- Every data port in use, port 0 in a state; a stream 1 that receives on port 0, its batch 40 being filled. -/
def ported (f : Port → Port) (d : Device) : Device :=
  (rdy { d with dp := { d.dp with quadCfg := [1, 1, 1, 1] } }).updPort 0 f
def upPort (d : Device) : Device := ported (fun p => { p with st := .up, lanes := 0 }) d
def batch0 : Batch := { Batch.reset with beat := 40 }
def bind0 (kind : Nat) : InBind :=
  { w := [2 ^ 31 + 2 ^ 14 + 6 * 2 ^ 10 + 16 + kind, 9 * 2 ^ 16, 5, 0, 14, 4, 1, 0] }
def receivingDev (kind : Nat) (d : Device) : Device :=
  (strm 1 (fun x => { x with st := .active, almanac := 20, ingress := [(0, 1, 100, 0)], channels := [(3, 5, 1, 0)] })
    { upPort d with dp := { (upPort d).dp with binds := [(1, bind0 kind)], batches := [(1, batch0)] } }).updRegion 1 fun g =>
      { g with rxwin := [{ base := 2, size := 64, read := true, write := true }] }
def prbData0 : List Byte := List.replicate 48 3
def sec0 : UplaneSection := { startPrb := 0, numPrb := 1, compHdr := 0, data := prbData0 }
def item0 : ReportItem := { kind := 1, words := [2] }
def collected (items : List ReportItem) (d : Device) : Device :=
  { rdy d with pab := { d.pab with linkB := true, collCfg := [2 ^ 31, 0], items := items } }
/-- The same with less in scratch: one record of each parameter set. -/
def vecs (d : Device) : Device :=
  (prog d).updRegion 0 fun g =>
    { g with scratch := memWrite (memWrite (memWrite [] 65536 ((List.range 2).flatMap fun _ => leBytes 8 0x033f800000)) 65792
        (leBytes 8 0x013f800000)) 66048 ((List.range 2).flatMap fun _ => leBytes 8 0x013f800000) }

/-! ### Well-formedness: each check refuses a term that breaks it alone -/

/-- A guard that names the predicate that is always true. -/
def guard0 : Guard := { gp := 0, gn := false }

/-- Slot instructions with every field in range. -/
theorem test_slot_operands_legal_1 :
    (([.nop, .br 0, .brc 0 0 0, .call 0, .ret, .loopI 1, .loopR 0, .loopE, .waitM 0, .waitB, .yieldTest 1, .seal, .halt,
      .trap 0,
     .alu .add 0 0, .addi 0 0, .movi 0 0, .shli 0 0, .shri 0 0, .sari 0 0, .cmp .eq 0 0 0, .limm 0 false false 0, .movS 0 0,
     .movSA 0 0, .movAS 0 0, .movAI 0 0, .movAA 0 0, .movTA 0 0, .movTS 0 0 0,
       .movST 0 0 0] : List SlotOp).all fun x => x.legal) = true := by decide +kernel

/-- Slot instructions with every field in range. -/
theorem test_slot_operands_legal_2 :
    (([.movPS 0, .movSP 0, .movQS 0 false 0, .movSQ 0 0 false, .movL 0 0 0, .movW 0 0 0, .movSM 0 false, .xferD 0 0,
     .xferB 0 0 0, .ctxGet 0 0, .ctxPut 0 0 false, .send 0 0, .egress 0 0, .tileMvm 0 0 0 0, .tileLoad 0 0 0, .tileRead 0 0 0,
     .tileChk 0 0 0, .tileSight 0, .vmm 0 0 0, .vmmE 0 0 0 0, .vadd 0 0 0 false false, .vmul 0 0 0 false, .vact 0 0 0 0 0,
     .vsmax 0 0, .vnormL 0 0 0 0, .vnormR 0 0 0 0, .vadapt 0 0 0 false 0, .qscan 0 0, .qconv 0 0 0,
       .dq 0 0 0] : List SlotOp).all fun x => x.legal) = true := by decide +kernel

/-- A field out of its range is refused (R268, R271, R280, R296, R307). -/
theorem test_slot_operands_refused_1 :
    (([.br 16384, .brc 32 0 0, .brc 0 6 0, .brc 0 0 32, .brc 0 0 (-33), .call 16384, .loopI 0, .loopI 16384, .loopR 32,
     .waitM 32, .yieldTest 0, .yieldTest 1001, .trap 256, .alu .add 32 0, .alu .add 0 32, .addi 32 0, .addi 0 256,
     .addi 0 (-257), .movi 32 0, .movi 0 256, .movi 0 (-257), .shli 32 0, .shli 0 64, .shri 32 0, .shri 0 64, .sari 32 0,
     .sari 0 64, .cmp .eq 8 0 0, .cmp .eq 0 32 0,
       .cmp .eq 0 0 32] : List SlotOp).all fun x => !x.legal) = true := by decide +kernel

/-- A field out of its range is refused (R268, R271, R280, R296, R307). -/
theorem test_slot_operands_refused_2 :
    (([.limm 32 false false 0, .limm 0 true true 0, .limm 0 false false (2 ^ 32), .movS 32 0, .movS 0 32, .movSA 16 0,
     .movSA 0 32, .movAS 32 0, .movAS 0 16, .movAI 16 0, .movAI 0 2097152, .movAI 0 (-2097153), .movAA 16 0, .movAA 0 32,
     .movTA 64 0, .movTA 0 16, .movTS 64 0 0, .movTS 0 10 0, .movTS 0 0 32, .movST 32 0 0, .movST 0 64 0, .movST 0 0 10,
     .movPS 32, .movSP 32, .movQS 16 false 0, .movQS 0 false 32, .movSQ 32 0 false, .movSQ 0 16 false, .movL 32 0 0,
     .movL 0 16 0] : List SlotOp).all fun x => !x.legal) = true := by decide +kernel

/-- A field out of its range is refused (R268, R271, R280, R296, R307). -/
theorem test_slot_operands_refused_3 :
    (([.movL 0 0 65536, .movL 0 0 (-65537), .movW 32 0 0, .movW 0 16 0, .movW 0 0 65536, .movW 0 0 (-65537), .movSM 32 false,
     .xferD 64 0, .xferD 0 64, .xferB 16 0 0, .xferB 0 16 0, .xferB 0 0 32, .ctxGet 32 0, .ctxGet 0 16, .ctxPut 32 0 false,
     .ctxPut 0 16 false, .send 64 0, .send 0 64, .egress 64 0, .egress 0 32, .tileMvm 32 0 0 0, .tileMvm 0 64 0 0,
     .tileMvm 0 0 64 0, .tileMvm 0 0 0 8, .tileLoad 32 0 0, .tileLoad 0 64 0, .tileLoad 0 0 32, .tileRead 32 0 0,
     .tileRead 0 64 0, .tileRead 0 0 8] : List SlotOp).all fun x => !x.legal) = true := by decide +kernel

/-- A field out of its range is refused (R268, R271, R280, R296, R307). -/
theorem test_slot_operands_refused_4 :
    (([.tileChk 32 0 0, .tileChk 0 8 0, .tileChk 0 0 32, .tileSight 32, .vmm 64 0 0, .vmm 0 64 0, .vmm 0 0 64, .vmmE 64 0 0 0,
     .vmmE 0 64 0 0, .vmmE 0 0 64 0, .vmmE 0 0 0 16, .vadd 64 0 0 false false, .vadd 0 64 0 false false,
     .vadd 0 0 64 false false, .vmul 64 0 0 false, .vmul 0 64 0 false, .vmul 0 0 64 false, .vact 64 0 0 0 0, .vact 0 64 0 0 0,
     .vact 0 0 8 0 0, .vact 0 0 0 4 0, .vact 0 0 0 0 32, .vsmax 64 0, .vsmax 0 64, .vnormL 64 0 0 0, .vnormL 0 64 0 0,
     .vnormL 0 0 64 0, .vnormL 0 0 0 16, .vnormR 64 0 0 0,
       .vnormR 0 64 0 0] : List SlotOp).all fun x => !x.legal) = true := by decide +kernel

/-- A field out of its range is refused (R268, R271, R280, R296, R307). -/
theorem test_slot_operands_refused_5 :
    (([.vnormR 0 0 64 0, .vnormR 0 0 0 16, .vadapt 64 0 0 false 0, .vadapt 0 64 0 false 0, .vadapt 0 0 64 false 0,
     .vadapt 0 0 0 false 8, .qscan 64 0, .qscan 0 64, .qconv 64 0 0, .qconv 0 64 0, .qconv 0 0 8, .dq 64 0 0, .dq 0 64 0,
     .dq 0 0 16] : List SlotOp).all fun x => !x.legal) = true := by decide +kernel

/-- Commands with every operand in range. -/
theorem test_commands_wellformed_1 :
    (([.packageReset bootEnv false, .hubWatchdogExpiry bootEnv, .dieEnumeration [] [] [], .linkQualification 0 5,
     .microcodeBroadcast [], .hbmTraining false false, .lockWaitExpiry, .startupSightingScan [], .ready [], .regionReset 0,
     .regionResetForcedStop 0, .tileCtrlReset 0 0, .forwardedClockLoss 0, .railFault, .refclkLoss, .thermalTrip 0,
     .hubHaltAfterTrip, .vppPcmDrop, .vppPcmRecover, .meridianLoRead 0, .frameOffsetHiWrite 0 0, .frameOffsetStep,
     .tbCtrlModeWrite 0 0, .refPrioWrite 0 0, .ptpSyncExchange 0 ⟨0, 0⟩ 0, .ptpAnnounce 0 (.management 0), .announceReceiptTimeout 0,
     .syncExchangeTimeout 0, .ppsEdge 0 false, .ppsEdgeMissing] : List Instr).all fun x => x.wf) = true := by decide +kernel

/-- Commands with every operand in range. -/
theorem test_commands_wellformed_2 :
    (([.holdoverExpiry, .replicaTimestamp 0 0, .applyStrobe 0 false, .mvmOutputComplete 0 0 [] [], .checkVerdict 0 0,
      .rowTrip 0 [],
     .toneCtrlStart 0 0, .toneCtrlStop 0 0, .toneStrobe 0 [], .toneRunEnd 0, .histSelClear 0 0, .dressingStart 0,
     .dressRow 0 [], .dressingComplete 0, .dressAllowWrite 0 0 0, .sightTimerTrigger 0, .sightApplyTrigger 0,
     .sightingInterval 0, .sightingRead 0 [], .sightCtrlWrite 0 0 0, .sightPeriodWrite 0 0 0, .sightDelayWrite 0 0 0,
     .trimEntryLowWrite 0 0 0 0, .trimEntryHighWrite 0 0 0 0, .kappaWrite 0 0 0, .redressStart 0, .tileMapSwitch 0,
     .activationStart 0 0 0 0, .escBalRefill 0, .stallOverrun 0] : List Instr).all fun x => x.wf) = true := by decide +kernel

/-- Commands with every operand in range. -/
theorem test_commands_wellformed_3 :
    (([.lateTrap 0 0 0 0 0, .trapTimeoutExpiry 0, .seqCtrlHalt 0 0, .seqCtrlResume 0 0, .seqCtrlAbort 0 0,
     .seqCtrlQuarantine 0 0, .seqCtrlRelease 0 0, .yieldGap 0, .testDue 0 0 0, .testStart 0 0, .testEnd 0 false 0,
     .yieldOfferExpiry 0, .testOverdue 0 0, .remoteWriteArrival 0 0 [], .transferComplete 0 0 ⟨.clean, []⟩, .nop 0 guard0 false 0 .clean,
     .br 0 guard0 false 0, .brc 0 guard0 false 0 0 0, .call 0 guard0 false 0, .ret 0 guard0 false, .loopI 0 guard0 false 1,
     .loopR 0 guard0 false 0, .loopE 0 guard0 false, .waitm 0 guard0 false 0, .waitmRelease 0, .waitb 0 guard0 false,
     .waitbRelease 0, .yieldTest 0 guard0 false 1, .seal 0 guard0 false,
       .halt 0 guard0 false] : List Instr).all fun x => x.wf) = true := by decide +kernel

/-- Commands with every operand in range. -/
theorem test_commands_wellformed_4 :
    (([.trap 0 guard0 false 0, .aluAdd 0 guard0 false 0 0, .aluSub 0 guard0 false 0 0, .aluAnd 0 guard0 false 0 0,
     .aluOr 0 guard0 false 0 0, .aluXor 0 guard0 false 0 0, .aluShl 0 guard0 false 0 0, .aluShr 0 guard0 false 0 0,
     .aluSar 0 guard0 false 0 0, .aluMul 0 guard0 false 0 0, .aluMin 0 guard0 false 0 0, .aluMax 0 guard0 false 0 0,
     .aluMinu 0 guard0 false 0 0, .aluMaxu 0 guard0 false 0 0, .aluMeradd 0 guard0 false 0 0, .aluFadd 0 guard0 false 0 0,
     .aluFmul 0 guard0 false 0 0, .addi 0 guard0 false 0 0, .movi 0 guard0 false 0 0, .shli 0 guard0 false 0 0,
     .shri 0 guard0 false 0 0, .sari 0 guard0 false 0 0, .cmpEq 0 guard0 false 0 0 0, .cmpNe 0 guard0 false 0 0 0,
     .cmpLt 0 guard0 false 0 0 0, .cmpLe 0 guard0 false 0 0 0, .cmpLtu 0 guard0 false 0 0 0, .cmpLeu 0 guard0 false 0 0 0,
     .limm 0 false 0 false false 0, .movS 0 guard0 false 0 0] : List Instr).all fun x => x.wf) = true := by decide +kernel

/-- Commands with every operand in range. -/
theorem test_commands_wellformed_5 :
    (([.movSa 0 guard0 false 0 0, .movAs 0 guard0 false 0 0, .movAi 0 guard0 false 0 0, .movAa 0 guard0 false 0 0,
     .movTa 0 guard0 false 0 0, .movTs 0 guard0 false 0 0 0, .movSt 0 guard0 false 0 0 0, .movPs 0 guard0 false 0,
     .movSp 0 guard0 false 0, .movQs 0 guard0 false 0 false 0, .movSq 0 guard0 false 0 0 false, .movL 0 guard0 false 0 0 0 .clean,
     .movW 0 guard0 false 0 0 0, .movSm 0 guard0 false 0 false, .xferD 0 guard0 false 0 0, .xferB 0 guard0 false 0 0 0,
     .ctxGet 0 guard0 false 0 0, .ctxPut 0 guard0 false 0 0 false .clean, .send 0 guard0 false 0 0 .clean, .egress 0 guard0 false 0 0 .clean,
     .tileMvm 0 guard0 false 0 0 0 0 .clean, .tileLoad 0 guard0 false 0 0 0 .clean, .tileRead 0 guard0 false 0 0 0,
     .tileChk 0 guard0 false 0 0 0, .tileSight 0 guard0 false 0, .vmm 0 guard0 false 0 0 0 .clean, .vmmE 0 guard0 false 0 0 0 0 .clean,
     .vadd 0 guard0 false 0 0 0 false false .clean, .vmul 0 guard0 false 0 0 0 false .clean,
       .vact 0 guard0 false 0 0 0 0 0 .clean] : List Instr).all fun x => x.wf) = true := by decide +kernel

/-- Commands with every operand in range. -/
theorem test_commands_wellformed_6 :
    (([.vsmax 0 guard0 false 0 0 .clean, .vnormL 0 guard0 false 0 0 0 0 .clean, .vnormR 0 guard0 false 0 0 0 0 .clean,
     .vadapt 0 guard0 false 0 0 0 false 0 .clean, .qscan 0 guard0 false 0 0 .clean, .qconv 0 guard0 false 0 0 0 .clean, .dq 0 guard0 false 0 0 0 .clean,
     .statTagWrite 0 0 0 0, .statLoRead 0 0 0 0, .busyCyclesLoRead 0 0, .trapMerLoRead 0 0, .reportSeqLoRead 0,
     .egressGroupTimeout 0 0, .egressDataArrival 0, .resultVerdict 0 0, .egressInstant 0 0 0, .sealFrame 0 0,
     .claimEvaluation, .almanacBankExchange, .streamFree 0, .pkgLimitWrite 0 0, .regionDarkWrite 0 0 0 0, .darkSlotStart 0,
     .darkSlotEnd 0, .fabricSlotBoundary 0, .noticeResend 0, .linkFrameReceive 0 0 false false, .retrainComplete 0 5,
     .linkCtrlRetrain 0 0 0, .linkCtrlUnfence 0 0 0] : List Instr).all fun x => x.wf) = true := by decide +kernel

/-- Commands with every operand in range. -/
theorem test_commands_wellformed_7 :
    (([.bePacketTimeout 0 0, .routerCtrlReset 0 0, .routerSlotMove 0 0, .routerDrainEnd 0 0, .routerLinksTrained 0,
     .routerRejoin 0, .shardComplete 0 0 0 0, .shardTimeoutExpiry 0 0 0, .idleLimitExpiry 0 0, .shardReqFrame 0 0 0 0 0 false,
     .shardDataFrame 0 0 0 0 0 0 false [], .epochTileDress 0 0 ⟨0, []⟩, .switchInstant 0 0, .shardRehash 0 0 0 0, .tileAudit 0 0,
     .fenceCtrlFence 0 0, .fenceCtrlUnfence 0 0 false false [] false, .dmWatchdogMiss 0, .regionReplacement 0 0 false,
     .remapLimitExpiry 0, .faultMergeWindowEnd 0, .hello hello0, .finish 0 0 0 false false,
     .dataDatagram 0 0 0 0 0 0 false false (.request .ping), .heldRequestExecute 0, .handshakeTimeout 0, .bcpIdleExpiry 0,
     .conversationHoldExpiry 0 0, .ping 0, .close 0] : List Instr).all fun x => x.wf) = true := by decide +kernel

/-- Commands with every operand in range. -/
theorem test_commands_wellformed_8 :
    (([.sessionInfo 0, .regRead 0 0 0, .regWrite 0 0 0 wenv, .timeOfDay 0 0, .timeStep 0, .admitOpen 0 0 0 0,
     .admitBlock 0 0 0 0 0 [], .admitCommit 0 0 0 [], .admitStatus 0 0, .release 0 0 0, .modelOpen 0 0 0 0 0 0,
     .modelBlock 0 0 0 0 0 false [], .modelManifest 0 ⟨0, 0, 0, 0⟩ false, .modelStatus 0 0 0, .modelResume 0 0 0, .modelDiscard 0 0 0,
     .switch 0 0, .adapterRestore 0 0 0, .redress 0 0, .fwOpen 0 [] ⟨0, false⟩, .fwBlock 0 0 0 0 0 [] 0, .fwStatus 0 0 0,
     .activate 0 0 0 false, .attest 0 0 0, .anchorSet 0 (anchor0 0 2) 0, .keySet 0 key0, .debugUnlock 0 debug0, .test 0 0 0,
     .restart 0 bootEnv, .noticeAck 0 0] : List Instr).all fun x => x.wf) = true := by decide +kernel

/-- Commands with every operand in range. -/
theorem test_commands_wellformed_9 :
    (([.noticeFetch 0 0 0, .faultFetch 0 0 0, .flashWriteComplete false, .activationRestart bootEnv, .trngHealthFail,
     .trngRetest false, .portTrainingComplete 0 0 0 false, .portRetryTimer, .portLinkLoss 0, .quadCfgWrite 0 0,
     .uplaneFrame 0 0 0 0 0 0 0 0 false [] 0, .tensorFrame 0 0 0 0 0 0 0 false [] [] 0, .fabricFrame 0 0 0 0 false false [],
     .quarHoldExpiry 0, .pCtrlRelease 0 0, .batchCutoff 0, .mkaFrame 0 0 0 false 0 false, .mkaLifeExpiry 0,
     .pabDatagram 0 0 0 false, .reportDatagramSend, .reportHeartbeat, .thermalSample 0 0 false, .pkgPowerUpdate 0,
     .setCommit 0 0 false, .drainLimitExpiry, .dieManagerRestart 0, .portAbLinkChange 0 false, .testAccessPortOperation 0,
     .migrationComplete, .testPeriodEnd 0] : List Instr).all fun x => x.wf) = true := by decide +kernel

/-- Commands with every operand in range. -/
theorem test_commands_wellformed_10 :
    (([.mkaHelloTimer] : List Instr).all fun x => x.wf) = true := by decide +kernel

/-- An operand that names nothing is refused (R24, R30, R113, R314). -/
theorem test_commands_refused_1 :
    (([.linkQualification 16 0, .regionReset 48, .regionResetForcedStop 48, .tileCtrlReset 9 0, .tileCtrlReset 0 6912,
     .forwardedClockLoss 8, .thermalTrip 18, .meridianLoRead 9, .frameOffsetHiWrite 9 0, .frameOffsetHiWrite 0 (2 ^ 32),
     .tbCtrlModeWrite 9 0, .tbCtrlModeWrite 0 (2 ^ 32), .refPrioWrite 9 0, .refPrioWrite 0 (2 ^ 32), .ptpSyncExchange 4 ⟨0, 0⟩ 0,
     .ptpAnnounce 4 (.management 0), .announceReceiptTimeout 4, .syncExchangeTimeout 4, .replicaTimestamp 8 0, .applyStrobe 6912 false,
     .mvmOutputComplete 6912 0 [] [], .checkVerdict 6912 0, .rowTrip 6912 [], .toneCtrlStart 9 0, .toneCtrlStart 0 6912,
     .toneCtrlStop 9 0, .toneCtrlStop 0 6912, .toneStrobe 6912 [], .toneRunEnd 6912] : List Instr).all fun x => !x.wf) = true := by decide +kernel

/-- An operand that names nothing is refused (R24, R30, R113, R314). -/
theorem test_commands_refused_2 :
    (([.histSelClear 9 0, .histSelClear 0 6912, .dressingStart 6912, .dressRow 6912 [], .dressingComplete 6912,
     .dressAllowWrite 9 0 0, .dressAllowWrite 0 48 0, .dressAllowWrite 0 0 (2 ^ 32), .sightTimerTrigger 6912,
     .sightApplyTrigger 6912, .sightingInterval 6912, .sightingRead 6912 [], .sightCtrlWrite 9 0 0, .sightCtrlWrite 0 6912 0,
     .sightCtrlWrite 0 0 (2 ^ 32), .sightPeriodWrite 9 0 0, .sightPeriodWrite 0 6912 0, .sightPeriodWrite 0 0 (2 ^ 32),
     .sightDelayWrite 9 0 0, .sightDelayWrite 0 6912 0, .sightDelayWrite 0 0 (2 ^ 32), .trimEntryLowWrite 9 0 0 0,
     .trimEntryLowWrite 0 8 0 0, .trimEntryLowWrite 0 0 456192 0, .trimEntryLowWrite 0 0 0 (2 ^ 32),
     .trimEntryHighWrite 9 0 0 0, .trimEntryHighWrite 0 8 0 0, .trimEntryHighWrite 0 0 456192 0,
     .trimEntryHighWrite 0 0 0 (2 ^ 32), .kappaWrite 9 0 0] : List Instr).all fun x => !x.wf) = true := by decide +kernel

/-- An operand that names nothing is refused (R24, R30, R113, R314). -/
theorem test_commands_refused_3 :
    (([.kappaWrite 0 6912 0, .kappaWrite 0 0 (2 ^ 32), .redressStart 6144, .tileMapSwitch 6144, .activationStart 48 0 0 0,
     .activationStart 0 16 0 0, .activationStart 0 0 16384 0, .escBalRefill 256, .stallOverrun 48, .lateTrap 48 0 0 0 0,
     .lateTrap 0 256 0 0 0, .trapTimeoutExpiry 48, .seqCtrlHalt 9 0, .seqCtrlHalt 0 48, .seqCtrlResume 9 0,
     .seqCtrlResume 0 48, .seqCtrlAbort 9 0, .seqCtrlAbort 0 48, .seqCtrlQuarantine 9 0, .seqCtrlQuarantine 0 48,
     .seqCtrlRelease 9 0, .seqCtrlRelease 0 48, .yieldGap 48, .testDue 0 9 0, .testStart 48 0, .testEnd 48 false 0,
     .yieldOfferExpiry 48, .testOverdue 48 0, .remoteWriteArrival 48 0 [],
       .transferComplete 48 0 ⟨.clean, []⟩, .transferComplete 0 0 ⟨.clean, [1]⟩] : List Instr).all fun x => !x.wf) = true := by decide +kernel

/-- An error in a memory that the command does not read, and a trim entry past the last, are refused (R31, R204, R236). -/
theorem test_errors_refused :
    (([.nop 0 guard0 false 0 (.corrected .hbm), .movL 0 guard0 false 0 0 0 (.corrected .fast),
     .ctxPut 0 guard0 false 0 0 false (.corrected .hbm), .send 0 guard0 false 0 0 (.uncorrectable .hbm),
     .egress 0 guard0 false 0 0 (.uncorrectable .fast), .tileMvm 0 guard0 false 0 0 0 0 (.corrected .fast),
     .tileLoad 0 guard0 false 0 0 0 (.corrected .fast), .vmm 0 guard0 false 0 0 0 (.corrected .hbm),
     .vmmE 0 guard0 false 0 0 0 0 (.corrected .fast), .vadd 0 guard0 false 0 0 0 false false (.corrected .fast),
     .vmul 0 guard0 false 0 0 0 false (.corrected .fast), .vact 0 guard0 false 0 0 0 0 0 (.corrected .fast),
     .vsmax 0 guard0 false 0 0 (.corrected .fast), .vnormL 0 guard0 false 0 0 0 0 (.corrected .fast),
     .vnormR 0 guard0 false 0 0 0 0 (.corrected .fast), .vadapt 0 guard0 false 0 0 0 false 0 (.corrected .hbm),
     .qscan 0 guard0 false 0 0 (.corrected .fast), .qconv 0 guard0 false 0 0 0 (.corrected .fast),
     .dq 0 guard0 false 0 0 0 (.corrected .fast), .transferComplete 0 0 ⟨.corrected .fast, []⟩,
     .mvmOutputComplete 0 0 [] [528]] : List Instr).all fun x => !x.wf) = true := by decide +kernel

/-- An operand that names nothing is refused (R24, R30, R113, R314). -/
theorem test_commands_refused_4 :
    (([.nop 48 guard0 false 0 .clean, .nop 0 { gp := 8, gn := false } false 0 .clean, .br 48 guard0 false 0, .brc 48 guard0 false 0 0 0,
     .call 48 guard0 false 0, .ret 48 guard0 false, .loopI 48 guard0 false 1, .loopR 48 guard0 false 0,
     .loopE 48 guard0 false, .waitm 48 guard0 false 0, .waitmRelease 48, .waitb 48 guard0 false, .waitbRelease 48,
     .yieldTest 48 guard0 false 1, .seal 48 guard0 false, .halt 48 guard0 false, .trap 48 guard0 false 0,
     .aluAdd 48 guard0 false 0 0, .aluAdd 0 { gp := 8, gn := false } false 0 0, .aluSub 48 guard0 false 0 0,
     .aluAnd 48 guard0 false 0 0, .aluOr 48 guard0 false 0 0, .aluXor 48 guard0 false 0 0, .aluShl 48 guard0 false 0 0,
     .aluShr 48 guard0 false 0 0, .aluSar 48 guard0 false 0 0, .aluMul 48 guard0 false 0 0, .aluMin 48 guard0 false 0 0,
     .aluMax 48 guard0 false 0 0, .aluMinu 48 guard0 false 0 0] : List Instr).all fun x => !x.wf) = true := by decide +kernel

/-- An operand that names nothing is refused (R24, R30, R113, R314). -/
theorem test_commands_refused_5 :
    (([.aluMaxu 48 guard0 false 0 0, .aluMeradd 48 guard0 false 0 0, .aluFadd 48 guard0 false 0 0,
      .aluFmul 48 guard0 false 0 0,
     .addi 48 guard0 false 0 0, .movi 48 guard0 false 0 0, .shli 48 guard0 false 0 0, .shri 48 guard0 false 0 0,
     .sari 48 guard0 false 0 0, .cmpEq 48 guard0 false 0 0 0, .cmpNe 48 guard0 false 0 0 0, .cmpLt 48 guard0 false 0 0 0,
     .cmpLe 48 guard0 false 0 0 0, .cmpLtu 48 guard0 false 0 0 0, .cmpLeu 48 guard0 false 0 0 0,
     .limm 48 false 0 false false 0, .movS 48 guard0 false 0 0, .movSa 48 guard0 false 0 0, .movAs 48 guard0 false 0 0,
     .movAi 48 guard0 false 0 0, .movAa 48 guard0 false 0 0, .movTa 48 guard0 false 0 0, .movTs 48 guard0 false 0 0 0,
     .movSt 48 guard0 false 0 0 0, .movPs 48 guard0 false 0, .movSp 48 guard0 false 0, .movQs 48 guard0 false 0 false 0,
     .movSq 48 guard0 false 0 0 false, .movL 48 guard0 false 0 0 0 .clean,
       .movW 48 guard0 false 0 0 0] : List Instr).all fun x => !x.wf) = true := by decide +kernel

/-- An operand that names nothing is refused (R24, R30, R113, R314). -/
theorem test_commands_refused_6 :
    (([.movSm 48 guard0 false 0 false, .xferD 48 guard0 false 0 0, .xferB 48 guard0 false 0 0 0, .ctxGet 48 guard0 false 0 0,
     .ctxPut 48 guard0 false 0 0 false .clean, .send 48 guard0 false 0 0 .clean, .egress 48 guard0 false 0 0 .clean,
     .tileMvm 48 guard0 false 0 0 0 0 .clean, .tileMvm 0 { gp := 8, gn := false } false 0 0 0 0 .clean, .tileLoad 48 guard0 false 0 0 0 .clean,
     .tileRead 48 guard0 false 0 0 0, .tileChk 48 guard0 false 0 0 0, .tileSight 48 guard0 false 0,
     .vmm 48 guard0 false 0 0 0 .clean, .vmmE 48 guard0 false 0 0 0 0 .clean, .vadd 48 guard0 false 0 0 0 false false .clean,
     .vmul 48 guard0 false 0 0 0 false .clean, .vact 48 guard0 false 0 0 0 0 0 .clean, .vsmax 48 guard0 false 0 0 .clean,
     .vnormL 48 guard0 false 0 0 0 0 .clean, .vnormR 48 guard0 false 0 0 0 0 .clean, .vadapt 48 guard0 false 0 0 0 false 0 .clean,
     .qscan 48 guard0 false 0 0 .clean, .qconv 48 guard0 false 0 0 0 .clean, .dq 48 guard0 false 0 0 0 .clean, .statTagWrite 9 0 0 0,
     .statTagWrite 0 48 0 0, .statTagWrite 0 0 64 0, .statTagWrite 0 0 0 (2 ^ 32),
       .statLoRead 9 0 0 0] : List Instr).all fun x => !x.wf) = true := by decide +kernel

/-- An operand that names nothing is refused (R24, R30, R113, R314). -/
theorem test_commands_refused_7 :
    (([.statLoRead 0 48 0 0, .statLoRead 0 0 64 0, .statLoRead 0 0 0 3, .busyCyclesLoRead 9 0, .busyCyclesLoRead 0 48,
     .trapMerLoRead 9 0, .trapMerLoRead 0 48, .reportSeqLoRead 9, .egressGroupTimeout 48 0, .egressGroupTimeout 0 256,
     .egressDataArrival 48, .resultVerdict 256 0, .egressInstant 256 0 0, .sealFrame 256 0, .streamFree 256,
     .pkgLimitWrite 9 0, .pkgLimitWrite 0 (2 ^ 32), .regionDarkWrite 9 0 0 0, .regionDarkWrite 0 48 0 0,
     .regionDarkWrite 0 0 2 0, .regionDarkWrite 0 0 0 (2 ^ 32), .fabricSlotBoundary 48, .noticeResend 8,
     .linkFrameReceive 16 0 false false, .linkFrameReceive 0 2 false false, .retrainComplete 16 0, .linkCtrlRetrain 9 0 0,
     .linkCtrlRetrain 0 16 0, .linkCtrlRetrain 0 0 2,
       .linkCtrlUnfence 9 0 0] : List Instr).all fun x => !x.wf) = true := by decide +kernel

/-- An operand that names nothing is refused (R24, R30, R113, R314). -/
theorem test_commands_refused_8 :
    (([.linkCtrlUnfence 0 16 0, .linkCtrlUnfence 0 0 2, .routerCtrlReset 9 0, .routerCtrlReset 0 48, .routerSlotMove 48 0,
     .routerDrainEnd 48 0, .routerLinksTrained 48, .routerRejoin 48, .shardComplete 16 0 0 0, .shardComplete 0 2 0 0,
     .shardComplete 0 0 (2 ^ 10) 0, .shardTimeoutExpiry 16 0 0, .shardTimeoutExpiry 0 2 0, .shardTimeoutExpiry 0 0 (2 ^ 10),
     .idleLimitExpiry 16 0, .idleLimitExpiry 0 2, .shardReqFrame 16 0 0 0 0 false, .shardReqFrame 0 0 0 0 (2 ^ 10) false,
     .shardDataFrame 16 0 0 0 0 0 false [], .shardDataFrame 0 0 0 0 (2 ^ 10) 0 false [], .epochTileDress 16 0 ⟨0, []⟩,
     .epochTileDress 0 2 ⟨0, []⟩, .switchInstant 16 0, .switchInstant 0 48, .shardRehash 16 0 0 0, .shardRehash 0 2 0 0,
     .shardRehash 0 0 (2 ^ 10) 0, .tileAudit 6912 0, .fenceCtrlFence 9 0,
       .fenceCtrlFence 0 8] : List Instr).all fun x => !x.wf) = true := by decide +kernel

/-- An operand that names nothing is refused (R24, R30, R113, R314). -/
theorem test_commands_refused_9 :
    (([.fenceCtrlUnfence 9 0 false false [] false, .fenceCtrlUnfence 0 8 false false [] false, .dmWatchdogMiss 8,
     .regionReplacement 256 0 false, .remapLimitExpiry 256, .faultMergeWindowEnd 6912, .hello { hello0 with port := 2 },
     .hello { hello0 with sessionId := 0 }, .finish 2 0 0 false false, .dataDatagram 2 0 0 0 0 0 false false (.request .ping),
     .dataDatagram 0 0 0 (2 ^ 48) 0 0 false false (.request .ping),
     .dataDatagram 0 0 0 0 (2 ^ 32) 0 false false (.request .ping), .heldRequestExecute 8, .bcpIdleExpiry 8,
     .conversationHoldExpiry 3 0, .ping 8, .close 8, .sessionInfo 8, .regRead 9 0 0, .regRead 0 (2 ^ 32) 0,
     .regWrite 9 0 0 wenv, .regWrite 0 0 0 { wenv with races := 2 ^ 32 }, .regWrite 0 (2 ^ 32) 0 wenv, .regWrite 0 0 (2 ^ 32) wenv, .timeOfDay 8 0, .timeStep 8,
     .admitOpen 8 0 0 0, .admitOpen 0 256 0 0, .admitOpen 0 0 (2 ^ 64) 0, .admitBlock 8 0 0 0 0 [],
     .admitBlock 0 256 0 0 0 []] : List Instr).all fun x => !x.wf) = true := by decide +kernel

/-- An operand that names nothing is refused (R24, R30, R113, R314). -/
theorem test_commands_refused_10 :
    (([.admitBlock 0 0 (2 ^ 64) 0 0 [], .admitCommit 8 0 0 [], .admitCommit 0 256 0 [], .admitCommit 0 0 (2 ^ 64) [],
     .admitStatus 8 0, .admitStatus 0 256, .release 8 0 0, .release 0 256 0, .release 0 0 (2 ^ 64), .modelOpen 8 0 0 0 0 0,
     .modelBlock 8 0 0 0 0 false [], .modelManifest 8 ⟨0, 0, 0, 0⟩ false, .modelStatus 8 0 0, .modelResume 8 0 0, .modelDiscard 8 0 0,
     .switch 8 0, .adapterRestore 8 0 0, .redress 8 0, .fwOpen 8 [] ⟨0, false⟩, .fwBlock 8 0 0 0 0 [] 0, .fwStatus 8 0 0,
     .activate 8 0 0 false, .attest 8 0 0, .anchorSet 8 (anchor0 0 2) 0, .keySet 8 key0, .debugUnlock 8 debug0, .test 8 0 0,
     .restart 8 bootEnv, .noticeAck 8 0, .noticeFetch 8 0 0] : List Instr).all fun x => !x.wf) = true := by decide +kernel

/-- An operand that names nothing is refused (R24, R30, R113, R314). -/
theorem test_commands_refused_11 :
    (([.faultFetch 8 0 0, .portTrainingComplete 16 0 0 false, .portLinkLoss 16, .quadCfgWrite 9 0, .quadCfgWrite 0 (2 ^ 32),
     .uplaneFrame 16 0 0 0 0 0 0 0 false [] 0, .uplaneFrame 0 0 0 0 256 0 0 0 false [] 0,
     .uplaneFrame 0 0 0 0 0 10 0 0 false [] 0, .uplaneFrame 0 0 0 0 0 0 64 0 false [] 0,
     .uplaneFrame 0 0 0 0 0 0 0 14 false [] 0, .tensorFrame 16 0 0 0 0 0 0 false [] [] 0,
     .fabricFrame 16 0 0 0 false false [], .quarHoldExpiry 64, .pCtrlRelease 9 0, .pCtrlRelease 0 64, .batchCutoff 256,
     .mkaFrame 16 0 0 false 0 false, .mkaLifeExpiry 16, .pabDatagram 2 0 0 false, .thermalSample 40 0 false,
     .setCommit 9 0 false, .setCommit 0 (2 ^ 32) false, .dieManagerRestart 8,
       .portAbLinkChange 2 false] : List Instr).all fun x => !x.wf) = true := by decide +kernel

/-- A NOP with a guard bit set is refused (R268). -/
theorem test_nop_guard_refused : Slot.legal { g := { gp := 1, gn := false }, op := .nop } = false := by decide

/-! ### Worked examples of the spec -/

/-- One column of a receiver layer (the worked example of the analogue tile, R97 to R105). -/
theorem test_trim_stage_example :
    adcIndex 301 1 = 2 * 37 ∧ adcQuarter { offs := 4, gain := 0, skew := 0 } 733 = 883 ∧
    trimY (trimU 2 (32768 * 2 ^ 24) { colsum := 1843, gain := 0, offset := 64, role := 1, bad := false, heldLow := none } 883) 37 1843
      = 78801 := by decide +kernel

/-- A token with two ties (the worked example of R168 to R176): its scale, its zero point and its codes. -/
def tieToken : List FpVal :=
  [.num (-2), .num (191 / 32), .num (35 / 64), .num (-19 / 64), .num 1, .num (53 / 16), .num 0, .num (-129 / 128)]
theorem test_two_ties_scan : scanToken 0 tieToken false = (mkRec 0x3D000000 64 false false false false false 0, false) := by
  decide +kernel
theorem test_two_ties_codes : (convToken 0 0x3D000000 64 tieToken).pats = [0, 255, 82, 54, 96, 170, 64,
  32] := by decide +kernel

/-- Zero and constant tokens (the worked example of R171): the scale of 64 × 0.75, and the least scale for zeros. -/
theorem test_constant_token_scan :
    (scanToken 0 (List.replicate 64 (.num (3 / 4))) false).1 = mkRec 0x3B40C0C1 0 false false false false false 0 := by decide +kernel
theorem test_zero_token_scan :
    scanToken 0 (.nan :: List.replicate 63 (.num 0)) false = (mkRec 0x00800000 0 true true false false false 0, true) := by
  decide +kernel

/-- A static layer outgrows its calibration (the worked example of R187): codes and saturations. -/
theorem test_static_codes :
    (convToken 1 0x3D800000 0 [.num (253 / 32), .num (255 / 32), .num (-255 / 32), .num (17 / 2), .inf false]).pats
      = [127, 127, 0x81, 127, 127] ∧
    (convToken 1 0x3D800000 0 [.num (253 / 32), .num (255 / 32), .num (-255 / 32), .num (17 / 2), .inf false]).satn = 4 := by
  decide +kernel

/-- A per-slot combining matrix (the worked example of R200), and a 512 × 512 re-run. -/
theorem test_dmu_cycles : vmmCycles 2 24 16 64 = 64 ∧ vmmCycles 0 24 16 64 = 64 ∧ escCost 512 512 = 8212 := by decide

/-- A Sync outage on a cell-site box (the worked example of R68): L is 2.625 s, and 4 s with the default oscillator. -/
theorem test_holdover_length :
    (dev fun d => { d with tb := { d.tb with teLimit := 500, lastGoodOff := 60 * 196608, oscStab := 150, freqUnc := 6 * 256 } }).dev.holdoverLength
      = some 5160960000 ∧
    (dev fun d => { d with tb := { d.tb with teLimit := 500, lastGoodOff := 60 * 196608, oscStab := 50, freqUnc := 6 * 256 } }).dev.holdoverLength
      = some 7864320000 := by decide +kernel

/-- A fan failure on a hub site (the worked example of R561): the step at 94.94, 95, 95.75 and 98.63 °C. -/
theorem test_throttle_targets : [1519, 1520, 1532, 1578].map (fun v : Int => targetOf ((v - 1520 : Int) / 160 : Rat)) = [0,
  1, 2, 6] := by
  decide +kernel

/-- One tile in two banks (the worked example of R582, R583): the offsets of its KAPPA, a trim entry, a rescale entry and a
statistics slot. -/
theorem test_bank_addresses :
    diePart 0 0x98B148 = .tile 395 0x148 ∧ diePart 1 0x9D8590 = .trim 209074 false ∧ diePart 1 0x9D8594 = .trim 209074 true ∧
    diePart 0 0xC6E8A0 = .rescale 349 40 ∧ diePart 1 0xC6E8A0 = .rescale 349 40 ∧ diePart 0 0x308140 = .region 2 0x8140 := by
  decide +kernel

/-- The sine table of R107: entries 0, 1, 256, 512 and 768. -/
theorem test_sine_table : [0, 1, 256, 512, 768].map sineRom = [0, 201, 32767, 0, -32767] := by decide +kernel

/-! ### Steps -/

/-- The block idles on an empty queue: one timebase cycle of 4 Tc at the nominal rate (R44, R46). -/
theorem test_idle_step :
    (match step State.reset with | .next t => (t.dev.clk.tc, t.dev.clk.cycles, t.pending.length) | _ => (0, 0, 9)) = (4, 1,
      0) := by
  decide +kernel

/-- The command at the front runs and leaves the rest of the queue: a TIME_STEP, here of an Observer, is answered
NOT_AUTHORISED (R462, R466). -/
theorem test_step_takes_front :
    (match step { dev (sess 0 .observer ∘ rdy) with pending := [.timeStep 0, .close 0] } with
      | .next t => (t.dev.out.head?, t.pending) | _ => (none, [])) = (some (.reply 0 0x0021 0x0501 []),
        [.close 0]) := by decide +kernel

/-- No word spells a command: the table gives its rows no bits. -/
theorem test_no_words : decodeTableWord 32 5 = none ∧ (State.withFetchWord State.reset 32 5).pending = [] := by decide +kernel

/-- 64-bit results wrap; a shift by 64 or more gives 0, and SAR the sign (R275). -/
theorem test_alu_corners :
    AluFn.eval .add (2 ^ 64 - 1) 1 = 0 ∧ AluFn.eval .shl 1 64 = 0 ∧ AluFn.eval .sar (2 ^ 63) 64 = 2 ^ 64 - 1 ∧
    AluFn.eval .mul (2 ^ 32) (2 ^ 32) = 0 := by
  decide +kernel

/-! ### The bundle's encoding: the worked examples of chapters 08 and 09, and the loader's refusals (R261, R267 to R270) -/

theorem test_bundle_limm : bundleSlots 0x0009000000000031 =
    [⟨⟨0, false⟩, .limm 3 false false 589824, .clean⟩, ⟨⟨0, false⟩, .nop, .clean⟩, ⟨⟨0, false⟩, .nop, .clean⟩] := by decide +kernel

theorem test_bundle_meradd : (bundleSlots 0x000000000D189000).head? = some ⟨⟨0, false⟩, .alu .meradd 2 3, .clean⟩ := by decide +kernel

theorem test_bundle_egress : (bundleSlots 0x0000215900000000)[1]? = some ⟨⟨0, false⟩, .egress 5 2, .clean⟩ := by decide +kernel

theorem test_slot_tile_mvm : readSlot entryT 0x1040A810 = .slot ⟨⟨0, false⟩, .tileMvm 10 1 2 2, .clean⟩ := by decide +kernel

theorem test_slot_vmm_e : readSlot entryV 0xA0890022 = .slot ⟨⟨2, false⟩, .vmmE 0 9 2 10, .clean⟩ := by decide +kernel

/-- BRC s1, NEZ, back two bundles, with guard not p3: fields [2:0], [3], [9:4], [14:10], [17:15], [23:18]. -/
theorem test_slot_brc : readSlot entryC (3 + 8 + 2 * 16 + 1 * 1024 + 1 * 32768 + 62 * 262144) =
    .slot ⟨⟨3, true⟩, .brc 1 1 (-2), .clean⟩ := by decide +kernel

/-- MOV.SA uses [13:10] and [19:15]; bit 14 stands unused. -/
theorem test_slot_mov_sa : readSlot entryM (2 * 16 + 9 * 1024 + 17 * 32768) = .slot ⟨⟨0, false⟩, .movSA 9 17, .clean⟩ ∧
    readSlot entryM (2 * 16 + 9 * 1024 + 16384) = .reserved := by decide +kernel

theorem test_loader_accepts_halt : bundleFault 1 0 0xC00 = none := by decide +kernel

theorem test_loader_refuses : [bundleFault 1 0 0, bundleFault 1 0 0xC02, bundleFault 1 0 0xC04, bundleFault 2 0 0x10,
    bundleFault 2 0 0x500, bundleFault 2 0 0x601, bundleFault 2 1 0xC80] =
    [some stFieldRange, some stFieldRange, some stReserved, some stReserved, some stFieldRange, some stFieldRange,
     some stFieldRange] := by decide +kernel

/-! ### Worst-case execution: the two-layer stream of chapter 09 and small paths (R326, R327) -/

/-- The initial bank of the two-layer stream: control words s10 and s11, t0 to t7, t9, t10 and q0 to q7. -/
def layersBank : Bank :=
  { Bank.reset with
    s := [(10, 0x0000070000000E00), (11, 0x0000070000000A10)],
    t := [(0, 0x40000000000000701ff0415000000000000),
      (1, 0x20000000000000701ff0450000000004000),
      (2, 0x40000000000000701ff0495000000008000),
      (3, 0x40000000000000701ff04d500000000c000),
      (4, 0x20000000000000701ff0510000000010000),
      (5, 0x100000000000007003f0557000000014000),
      (6, 0x100000000000007003f0596000000018000),
      (7, 0x80000000000007003f05d500000001c000),
      (9, 0x2000000000001ff01ff0014100000000000),
      (10, 0x400000000001ff003f0014100000100000)],
    q := (List.range 8).map fun i => (i, (0x20000 + 0x100 * i) * 2 ^ 40) }

/-- Its bundles b0 to b12. -/
def layersImage : List Nat :=
  [0x10100000000000000088f00000000,
   0x10110000000000003c00000000031,
   0x1040a810000000000d189000,
   0xa0890022000000000000000000000000,
   0x20308a0000000000000000000000000,
   0x40d00000000000000000000000000,
   0x40d10000000000000000000000000,
   0x20a22c100000000000000000,
   0x2c61520000000000000000000000000,
   0xb18a0c24000000000000000000000000,
   0x718b0000000000000000000000000,
   0x21d900000b00,
   0xc00]

/-- Its activation with PS_HBM_BOUND at 2,500 cycles. The example counts no fabric stall. -/
def layersPriced : Priced :=
  { r := 9, stream := 3, redundant := false, beats := 40, offTc := 0, entry := 0, image := layersImage, bank := layersBank,
    win := [], hbm := 2500, fab := 0, bounds := [], waits := [], arrivals := [] }

/-- HALT falls 17,605 cycles after the first issue, which is at 9; the EGRESS before it takes 16 cycles of the egress path. Its
instant is 125 µs after the beat's start, and the array is priced at 8,192 and 1,024 cycles. -/
theorem test_price_of_two_layers :
    (let f := Device.reset.worstCase layersPriced
     (f.w, f.egress, f.span, f.dmuCycles) = (9 + 17604 + 16, [(245760, 9 + 17604 + 16)], 9 + 17605, 8192 + 1024)) := by
  decide +kernel

def pathW (image : List Nat) : Nat :=
  (Device.reset.worstCase { layersPriced with image := image, bounds := [(1, 3)], waits := [(0, 491520)] }).w

/-- LOOP.I 3 over two bundles; BRC back one bundle, three iterations; a guarded BR; CALL and RET; WAITM to 250 µs; WAITB of the
next 250 µs beat; YIELD.TEST of 20 µs. -/
theorem test_price_of_paths :
    [pathW [0xc500, 0x0, 0x700, 0xc00], pathW [0x0, 0xfc00200, 0xc00],
     pathW [0x8110, 0x0, 0xc00], pathW [0x8300, 0xc00, 0x400], pathW [0x800, 0xc00],
     pathW [0x900, 0xc00], pathW [0x50a00, 0xc00]] = [16, 18, 12, 13, 312501, 312501, 25010] := by decide +kernel


/-! ### Witnesses: the hypotheses of the statements can be met, clause by clause -/

theorem test_meets_idleStepAdvancesMeridian : ∃ s : State, s.pending = [] ∧ Runs s ∧ s.dev.clk.tc < 19660800 :=
  ⟨State.reset, by decide +kernel⟩

theorem test_meets_everyStepKeepsPinsAndQueue : ∃ s t : State, PinsAgree s ∧ step s = .next t :=
  ⟨State.reset, State.reset.upd Device.tick, by unfold PinsAgree; decide +kernel, rfl⟩

/-- The reset state's memories are canonical. -/
theorem test_reset_memories : MemoriesCanonical State.reset := 
  ⟨by decide +kernel, by decide +kernel, fun b h => absurd h (by simp [State.reset, Device.reset, ModelMgr.reset]),
    fun _ => ⟨rfl, rfl, rfl⟩⟩
theorem test_meets_memoriesStayCanonical : ∃ s t : State, MemoriesCanonical s ∧ step s = .next t :=
  ⟨State.reset, State.reset.upd Device.tick, test_reset_memories, rfl⟩

theorem test_meets_commandsCompleteAndHeldPartIgnoresThem :
    ∃ (c : Instr) (s : State), s.dev.stopped = true ∧ (∀ env b, c ≠ .packageReset env b) ∧ c ≠ .railFault ∧ c ≠ .refclkLoss ∧
      c ≠ .vppPcmDrop ∧ c ≠ .vppPcmRecover ∧ (∀ i, c ≠ .testAccessPortOperation i) :=
  ⟨.ping 0, dev fun d => { d with pins := { d.pins with rstHigh := false } }, by decide +kernel, by intro _ _; simp, by simp,
    by simp,
    by simp, by simp, by intro _; simp⟩

theorem test_meets_underprivilegedSessionChangesNothing :
    ∃ (i : Instr) (s : State) (who code : Nat) (need : Role), Runs s ∧ commandOf i = some (who, code, need) ∧
      s.dev.served who = true ∧ s.dev.hasRole who need = false :=
  ⟨.timeStep 0, dev (sess 0 .observer ∘ rdy), 0, 0x0021, .owner, by decide +kernel⟩

/-- The hypotheses of PackageResetKeepsOtpFlashAndCells can be met, clause by clause. -/
theorem test_meets_packageResetKeepsOtpFlashAndCells :
  (∃ env : BootEnv, env.selfTests % 32 ≠ 31) ∧
  (∃ env : BootEnv, env.selfTests % 32 = 31 ∧ env.recoveryHigh = false) :=
  ⟨⟨{ bootEnv with selfTests := 0 }, by decide +kernel⟩,
    ⟨{ bootEnv with selfTests := 31, recoveryHigh := false }, by decide +kernel⟩⟩

/-- The hypotheses of HubRestartEndsHubWorkAndBoots can be met, clause by clause. -/
theorem test_meets_hubRestartEndsHubWorkAndBoots :
  (∃ s : State, ∃ a : Activation, Runs s ∧ s.dev.sec.activation = some a ∧ (a.q.any fun q => decide (q ≤ s.dev.clk.now)) = true ∧ s.dev.sec.mode ≠ .error ∧ s.dev.pins.hubHalted = false ∧ s.dev.start.st ≠ .reset) ∧
  (∃ s : State, ∃ a : Activation, Runs s ∧ s.dev.sec.activation = some a ∧ (a.q.any fun q => decide (q ≤ s.dev.clk.now)) = false) ∧
  (∃ s : State, (s.dev.sec.mode = .error ∨ s.dev.pins.hubHalted = true)) :=
  ⟨⟨dev fun d => { rdy d with sec := { d.sec with activation := some a0 } }, a0, by decide +kernel⟩,
    ⟨dev fun d => { rdy d with sec := { d.sec with activation := some { a0 with q := some 10 } } }, { a0 with q := some 10 }, by decide +kernel⟩,
    ⟨dev fun d => { rdy d with sec := { d.sec with mode := .error } }, by decide +kernel⟩⟩

/-- The hypotheses of StartUpFindsDiesAndTrainsLinks can be met, clause by clause. -/
theorem test_meets_startUpFindsDiesAndTrainsLinks :
  (∃ s : State, ∃ answers : List Nat, Runs s ∧ s.dev.start.st = .starting ∧ s.dev.start.step = 3 ∧ s.dev.sec.grade ≤ 8 ∧ (∃ n, n ∈ answers ∧ s.dev.dieLive n = true)) ∧
  (∃ s : State, ∃ n : Nat, ∃ k : Nat, Runs s ∧ s.dev.start.st = .starting ∧ s.dev.start.step = 4 ∧ n ∈ s.dev.linksLeft ∧ k ≤ s.dev.fab.errThr / 4) ∧
  (∃ s : State, ∃ n : Nat, ∃ k : Nat, Runs s ∧ s.dev.start.st = .starting ∧ s.dev.start.step = 4 ∧ n ∈ s.dev.linksLeft ∧ s.dev.fab.errThr / 4 < k ∧ (s.dev.link n).fails = 0) ∧
  (∃ s : State, ∃ n : Nat, ∃ k : Nat, Runs s ∧ s.dev.start.st = .starting ∧ s.dev.start.step = 4 ∧ n ∈ s.dev.linksLeft ∧ s.dev.fab.errThr / 4 < k ∧ (s.dev.link n).fails ≠ 0) :=
  ⟨⟨dev (starting 3), [0, 1], by decide +kernel⟩,
    ⟨dev fun d => (starting 4 d).updLink 0 (fun x => { x with st := .training }) |>.updLink 8 fun x => { x with st := .training }, 8, 0, by decide +kernel⟩,
    ⟨dev fun d => (starting 4 d).updLink 0 (fun x => { x with st := .training }) |>.updLink 8 fun x => { x with st := .training }, 8, 5, by decide +kernel⟩,
    ⟨dev fun d => (starting 4 d).updLink 0 (fun x => { x with st := .training }) |>.updLink 8 fun x => { x with st := .training, fails := 1 }, 8, 5, by decide +kernel⟩⟩

/-- The hypotheses of StartUpReachesReady can be met, clause by clause. -/
theorem test_meets_startUpReachesReady :
  (∃ s : State, Runs s ∧ s.dev.start.st = .starting ∧ s.dev.start.step = 6) ∧
  (∃ s : State, Runs s ∧ s.dev.start.st = .starting ∧ s.dev.start.step = 7 ∧ s.dev.start.hbmFails = 0) ∧
  (∃ s : State, Runs s ∧ s.dev.start.st = .starting ∧ s.dev.start.step = 7 ∧ s.dev.start.hbmFails ≠ 0) ∧
  (∃ s : State, Runs s ∧ s.dev.start.st = .starting ∧ s.dev.start.step = 8 ∧ s.dev.start.scanDone = false) ∧
  (∃ s : State, Runs s ∧ s.dev.readyDue = true ∧ s.dev.start.minDies ≤ s.dev.diesUp.length) ∧
  (∃ s : State, Runs s ∧ s.dev.readyDue = true ∧ s.dev.diesUp.length < s.dev.start.minDies) :=
  ⟨⟨dev (starting 6), by decide +kernel⟩,
    ⟨dev (starting 7), by decide +kernel⟩,
    ⟨dev fun d => { starting 7 d with start := { (starting 7 d).start with hbmFails := 1 } }, by decide +kernel⟩,
    ⟨dev (starting 8), by decide +kernel⟩,
    ⟨dev fun d => { starting 11 d with dies := (List.range 8).map fun n => (n, { Die.reset with dm := .inService }), start := { (starting 11 d).start with minDies := 8 } }, by decide +kernel⟩,
    ⟨dev fun d => { starting 11 d with start := { (starting 11 d).start with minDies := 8 } }, by decide +kernel⟩⟩

/-- The hypotheses of SuppliesAndReferenceClock can be met, clause by clause. -/
theorem test_meets_suppliesAndReferenceClock :
  (∃ s : State, s.dev.pins.rstHigh = true ∧ s.dev.pins.railHold = false) ∧
  (∃ s : State, s.dev.pins.vppLow = false) ∧
  (∃ s : State, s.dev.sec.mode ≠ .debug ∧ s.dev.pins.rstHigh = false) ∧
  (∃ s : State, s.dev.sec.mode ≠ .debug ∧ s.dev.pins.rstHigh = true) :=
  ⟨⟨dev rdy, by decide +kernel⟩,
    ⟨dev rdy, by decide +kernel⟩,
    ⟨dev fun d => { d with pins := { d.pins with rstHigh := false } }, by decide +kernel⟩,
    ⟨dev rdy, by decide +kernel⟩⟩

/-- The hypotheses of TimebaseRegistersTakeEffect can be met, clause by clause. -/
theorem test_meets_timebaseRegistersTakeEffect :
  (∃ s : State, ∃ who : Nat, Runs s ∧ MayRead s.dev who .observer) ∧
  (∃ s : State, ∃ who : Nat, ∃ v : Nat, Runs s ∧ MayWrite s.dev who .owner ∧ s.dev.noStream = true ∧ 0 ≤ s.dev.frameAfter (frameOffsetOf v s.dev.tb.frameOffsetLo) ∧ s.dev.frameAfter (frameOffsetOf v s.dev.tb.frameOffsetLo) < 2 ^ 39 - 2 ^ 32) ∧
  (∃ s : State, ∃ who : Nat, Runs s ∧ MayWrite s.dev who .owner ∧ s.dev.noStream = false) ∧
  (∃ s : State, ∃ who : Nat, ∃ v : Nat, Runs s ∧ MayWrite s.dev who .owner ∧ s.dev.noStream = true ∧ (s.dev.frameAfter (frameOffsetOf v s.dev.tb.frameOffsetLo) < 0 ∨ 2 ^ 39 - 2 ^ 32 ≤ s.dev.frameAfter (frameOffsetOf v s.dev.tb.frameOffsetLo))) ∧
  (∃ s : State, ∃ k : Int, Runs s ∧ s.dev.tb.stepPending = some k ∧ s.dev.tb.stepAt ≤ s.dev.clk.now ∧ s.dev.clk.tc < 19660800 ∧ 0 ≤ (s.dev.clk.frame : Int) + k ∧ (s.dev.clk.frame : Int) + k < 2 ^ 39) ∧
  (∃ s : State, ∃ who : Nat, ∃ v : Nat, Runs s ∧ MayWrite s.dev who .owner ∧ (bits v 2 0 ≠ s.dev.tb.mode → s.dev.noStream = true) ∧ bits v 7 5 = 0 ∧ bits v 31 24 = 0 ∧ bits v 2 0 ≤ 1 ∧ 24 ≤ bits v 15 8 ∧ bits v 15 8 ≤ 43) ∧
  (∃ s : State, ∃ who : Nat, Runs s ∧ MayWrite s.dev who .operator) :=
  ⟨⟨dev fun d => { rdy d with clk := { d.clk with tc := 19660799, frame := 5 } }, 0, by decide +kernel⟩,
    ⟨dev rdy, 0, 0, by decide +kernel⟩,
    ⟨dev fun d => strm 1 (fun x => { x with st := .active }) (rdy d), 0, by decide +kernel⟩,
    ⟨dev rdy, 0, 2^31, by decide +kernel⟩,
    ⟨dev fun d => { rdy d with tb := { d.tb with stepPending := some (-5) }, clk := { d.clk with frame := 5 } }, -5, by decide +kernel⟩,
    ⟨dev rdy, 0, 0x2b01, by decide +kernel⟩,
    ⟨dev rdy, 0, by decide +kernel⟩⟩

/-- The hypotheses of PtpExchangesMeasure can be met, clause by clause. -/
theorem test_meets_ptpExchangesMeasure :
  (∃ s : State, ∃ q : Nat, ∃ rate : Nat, Runs s ∧ q < 4 ∧ s.dev.enabled q = true ∧ 16 ≤ rate ∧ rate ≤ 128 ∧ (s.dev.source q).clockClass ≤ s.dev.tb.classMax ∧ s.dev.tb.sources.length = 5 ∧ s.dev.tb.st = .freerun) ∧
  (∃ s : State, ∃ q : Nat, ∃ time : Nat, ∃ rate : Nat, Runs s ∧ q < 4 ∧ s.dev.enabled q = true ∧ 16 ≤ rate ∧ rate ≤ 128 ∧ (s.dev.source q).clockClass ≤ s.dev.tb.classMax ∧ s.dev.tb.sources.length = 5 ∧ s.dev.tb.st = .locked ∧ s.dev.tb.refSrc = q ∧ within (s.dev.offsetFrom 0 (ptpTime s.dev q time)) s.dev.tb.stepThreshold = true) ∧
  (∃ s : State, ∃ q : Nat, ∃ dom : Nat, Runs s ∧ q < 4 ∧ s.dev.enabled q = true ∧ dom ≠ s.dev.tb.ptpDomain) ∧
  (∃ s : State, ∃ q : Nat, ∃ rate : Nat, Runs s ∧ q < 4 ∧ s.dev.enabled q = true ∧ (rate < 16 ∨ 128 < rate) ∧ s.dev.tb.sources.length = 5) ∧
  (∃ s : State, ∃ q : Nat, ∃ a : PtpAnnounce, Runs s ∧ q < 4 ∧ s.dev.enabled q = true ∧ s.dev.tb.sources.length = 5 ∧ a.domain = s.dev.tb.ptpDomain ∧ ((s.dev.source q).master = none ∨ ∃ m, (s.dev.source q).master = some m ∧ m.identity = a.identity)) ∧
  (∃ s : State, ∃ q : Nat, ∃ m : PtpMsg, Runs s ∧ q < 4 ∧ s.dev.enabled q = true ∧ (∀ a, m = .announce a → a.domain ≠ s.dev.tb.ptpDomain)) ∧
  (∃ s : State, ∃ q : Nat, Runs s ∧ q < 4 ∧ s.dev.tb.sources.length = 5 ∧ s.dev.tb.refSrc ≠ q ∧ (s.dev.source q).announceAt + msTc 375 ≤ s.dev.real) ∧
  (∃ s : State, ∃ q : Nat, Runs s ∧ q < 4 ∧ s.dev.tb.sources.length = 5 ∧ s.dev.tb.refSrc ≠ q ∧ (s.dev.source q).exchangeAt + (s.dev.source q).syncTimeout ≤ s.dev.real) ∧
  (∃ s : State, ∃ q : Nat, Runs s ∧ q < 4 ∧ s.dev.tb.refSrc = q ∧ s.dev.tb.st = .acquiring ∧ (s.dev.source q).announceAt + msTc 375 ≤ s.dev.real) ∧
  (∃ s : State, ∃ q : Nat, Runs s ∧ q < 4 ∧ s.dev.tb.refSrc = q ∧ s.dev.tb.st = .acquiring ∧ (s.dev.source q).exchangeAt + (s.dev.source q).syncTimeout ≤ s.dev.real) ∧
  (∃ s : State, ∃ q : Nat, Runs s ∧ s.dev.real < (s.dev.source q).announceAt + msTc 375) ∧
  (∃ s : State, ∃ q : Nat, Runs s ∧ s.dev.real < (s.dev.source q).exchangeAt + (s.dev.source q).syncTimeout) :=
  ⟨⟨dev fun d => { rdy d with tb := { d.tb with ptpEn := true, refPrio := 0x4321E } }, 0, 16, by decide +kernel⟩,
    ⟨dev fun d => { rdy d with tb := { d.tb with ptpEn := true, refPrio := 0x4321E, st := .locked, refSrc := 3 } }, 3, 0, 128, by decide +kernel⟩,
    ⟨dev fun d => { rdy d with tb := { d.tb with ptpEn := true, refPrio := 0x4321E } }, 0, 7, by decide +kernel⟩,
    ⟨dev fun d => { rdy d with tb := { d.tb with ptpEn := true, refPrio := 0x4321E } }, 0, 129, by decide +kernel⟩,
    ⟨dev fun d => { rdy d with tb := { d.tb with ptpEn := true, ptpDomain := 24, refPrio := 0x4321E } }, 0, ⟨24, 6, 33, 5, 128, 77, 1⟩, ⟨by decide +kernel, by decide, by decide +kernel, by decide, rfl, .inl rfl⟩⟩,
    ⟨dev fun d => { rdy d with tb := { d.tb with ptpEn := true, refPrio := 0x4321E } }, 0, .management 0, ⟨by decide +kernel, by decide, by decide +kernel, fun a h => by cases h⟩⟩,
    ⟨dev ((fun d => { d with tb := { d.tb with ptpEn := true, refPrio := 0x4321E } }) ∘ rdy ∘ late), 0, by decide +kernel⟩,
    ⟨dev ((fun d => { d with tb := { d.tb with ptpEn := true, refPrio := 0x4321E } }) ∘ rdy ∘ late), 0, by decide +kernel⟩,
    ⟨dev ((fun d => { d with tb := { d.tb with st := .acquiring, refSrc := 3 } }) ∘ rdy ∘ late), 3, by decide +kernel⟩,
    ⟨dev ((fun d => { d with tb := { d.tb with st := .acquiring, refSrc := 3 } }) ∘ rdy ∘ late), 3, by decide +kernel⟩,
    ⟨dev fun d => { rdy d with tb := { d.tb with st := .acquiring, refSrc := 3 } }, 3, by decide +kernel⟩,
    ⟨dev fun d => { rdy d with tb := { d.tb with ptpEn := true, refPrio := 0x4321E } }, 0, by decide +kernel⟩⟩

/-- The hypotheses of PpsEdgesAndHoldoverEnd can be met, clause by clause. -/
theorem test_meets_ppsEdgesAndHoldoverEnd :
  (∃ s : State, ∃ ahead : Nat, ∃ tai : Nat, ∃ rest : List (Option Nat), Runs s ∧ s.dev.enabled 4 = true ∧ s.dev.tb.st = .freerun ∧ s.dev.tb.ppsTai = some tai :: rest ∧ (∀ t, s.dev.tb.ppsAt = some t → within (offTc (ppsDeviation t (s.dev.real - ahead))) 200 = true)) ∧
  (∃ s : State, ∃ t : Nat, Runs s ∧ s.dev.tb.sources.length = 5 ∧ s.dev.tb.ppsAt = some t ∧ 200 * 196608 < offTc (ppsDeviation t s.dev.real)) ∧
  (∃ s : State, Runs s ∧ s.dev.tb.st = .holdover ∧ s.dev.tb.lastGoodAt + s.dev.tb.holdLen + 4 ≤ s.dev.real) :=
  ⟨⟨dev fun d => { rdy d with tb := { d.tb with ppsEn := true, ppsTai := [some 9], ppsLast := some 8 } }, 0, 9, [], ⟨by decide +kernel, by decide +kernel, by decide, rfl, fun t h => by cases h⟩⟩,
    ⟨dev fun d => { rdy d with tb := { d.tb with ppsAt := some 0 }, clk := { d.clk with cycles := 10 ^ 9 } }, 0, by decide +kernel⟩,
    ⟨dev fun d => { strm 1 (fun x => { x with st := .active, guarantee := true }) (rdy d) with tb := { d.tb with st := .holdover }, clk := { d.clk with cycles := 1 } }, by decide +kernel⟩⟩

/-- The hypotheses of ApplyStrobeStartsOneMvm can be met, clause by clause. -/
theorem test_meets_applyStrobeStartsOneMvm :
  (∃ s : State, ∃ p : Nat, ∃ b : Burst, ∃ rest : List Burst, ∃ k : BurstToken, ∃ ks : List BurstToken, Runs s ∧ (s.dev.tile p).bursts = b :: rest ∧ b.tokens = k :: ks ∧ (s.dev.region (ptRegion p)).held = [] ∧ s.dev.strobeDue p b = true ∧ s.dev.came (b.at_.getD s.dev.clk.now) = true ∧ s.dev.inOrder (unitPt p) ordStrobe = true ∧ (s.dev.tile p).check.health ≠ .faulty ∧ k.bad = false) :=
  ⟨dev (tile 3 (fun t => { t with bursts := [burst0] }) ∘ rdy), 3, burst0, [], token0, [], by decide +kernel⟩

/-- The hypotheses of MvmOutputReachesHoldOrScratch can be met, clause by clause. -/
theorem test_meets_mvmOutputReachesHoldOrScratch :
  (∃ s : State, ∃ p : Nat, ∃ no : Nat, ∃ m : Mvm, Runs s ∧ (s.dev.tile p).waiting no = some m ∧ m.twin = false ∧ (s.dev.region (ptRegion p)).held = [] ∧ m.hold = true) ∧
  (∃ s : State, ∃ p : Nat, ∃ no : Nat, ∃ m : Mvm, Runs s ∧ (s.dev.tile p).waiting no = some m ∧ m.twin = false ∧ (s.dev.region (ptRegion p)).held = [] ∧ m.hold = false) ∧
  (∃ s : State, ∃ p : Nat, ∃ no : Nat, ∃ m : Mvm, Runs s ∧ (s.dev.tile p).waiting no = some m ∧ m.twin = false ∧ (s.dev.region (ptRegion p)).held = [] ∧ (∃ slot, (tget .reset (s.dev.tile p).trims slot).bad = false ∧ (s.dev.tile p).check.health = .normal ∧ (s.dev.tile p).check.eccAt = none ∧ (s.dev.tile p).check.obsEndedAt = none ∧ s.dev.strict = false)) :=
  ⟨⟨dev (tile 3 (fun t => { t with flight := [{ mvm0 with hold := true }] }) ∘ rdy), 3, 2, { mvm0 with hold := true }, by decide +kernel⟩,
    ⟨dev (tile 3 (fun t => { t with flight := [mvm0] }) ∘ rdy), 3, 2, mvm0, by decide +kernel⟩,
    ⟨dev (tile 3 (fun t => { t with flight := [mvm0] }) ∘ rdy ∘ fun d => { d with sec := { d.sec with grade := 4 } }), 3, 2, mvm0, by decide +kernel, by decide +kernel, by decide +kernel, by decide +kernel, 9, by decide +kernel⟩⟩

/-- The hypotheses of its clause about an uncorrectable trim entry can be met, with a column in use. -/
theorem test_meets_uncorrectableTrim :
    ∃ s : State, ∃ p : Nat, ∃ no : Nat, ∃ m : Mvm, ∃ slot : Nat, Runs s ∧ (s.dev.tile p).waiting no = some m ∧ m.twin = false ∧
      (s.dev.region (ptRegion p)).held = [] ∧ (tget .reset (s.dev.tile p).trims slot).bad = false ∧
      (s.dev.tile p).check.health = .normal ∧ (s.dev.tile p).check.eccAt = none ∧ (s.dev.tile p).check.obsEndedAt = none ∧
      s.dev.strict = false ∧ m.hold = true ∧ (tget .reset m.trims slot).role ≠ 0 :=
  ⟨dev (tile 3 (fun t => { t with flight := [{ mvm0 with hold := true, trims := [(527, { TrimEntry.reset with role := 1 })] }] })
      ∘ (fun d => { d with sec := { d.sec with grade := 4 } }) ∘ rdy), 3, 2,
    { mvm0 with hold := true, trims := [(527, { TrimEntry.reset with role := 1 })] }, 527, by decide +kernel⟩

/-- The hypotheses of CheckVerdictCountsFails can be met, clause by clause. -/
theorem test_meets_checkVerdictCountsFails :
  (∃ s : State, ∃ p : Nat, ∃ no : Nat, ∃ m : Mvm, Runs s ∧ (s.dev.tile p).flight.find? (fun x => x.no = no && x.complete && x.judged = none) = some m ∧ m.at_ + nsTc 168 ≤ s.dev.clk.now ∧ m.pair = none ∧ (m.forced = true ∨ (s.dev.tile p).check.health = .withdrawn ∨ ((s.dev.flt.ckK * s.dev.flt.ckK : Nat) : Rat) * unit0Sq (s.dev.tile p) m < delta0 (s.dev.tile p) m * delta0 (s.dev.tile p) m ∨ ((s.dev.flt.ckK * s.dev.flt.ckK : Nat) : Rat) * unit1Sq (s.dev.tile p) m < delta1 (s.dev.tile p) m * delta1 (s.dev.tile p) m)) ∧
  (∃ s : State, ∃ p : Nat, ∃ no : Nat, ∃ m : Mvm, Runs s ∧ (s.dev.tile p).flight.find? (fun x => x.no = no && x.complete && x.judged = none) = some m ∧ m.at_ + nsTc 168 ≤ s.dev.clk.now ∧ m.pair = none ∧ m.forced = false ∧ (s.dev.tile p).check.health ≠ .withdrawn ∧ delta0 (s.dev.tile p) m * delta0 (s.dev.tile p) m ≤ ((s.dev.flt.ckK * s.dev.flt.ckK : Nat) : Rat) * unit0Sq (s.dev.tile p) m ∧ delta1 (s.dev.tile p) m * delta1 (s.dev.tile p) m ≤ ((s.dev.flt.ckK * s.dev.flt.ckK : Nat) : Rat) * unit1Sq (s.dev.tile p) m ∧ ((s.dev.tile p).check.update (zOf s.dev.flt.ckK (delta0 (s.dev.tile p) m) (unit0Sq (s.dev.tile p) m)) (zOf s.dev.flt.ckK (delta1 (s.dev.tile p) m) (unit1Sq (s.dev.tile p) m)) s.dev.flt.cusumK).reaches s.dev.flt.cusumH = false) ∧
  (∃ s : State, ∃ p : Nat, Runs s ∧ (∀ m, m ∈ (s.dev.tile p).flight → s.dev.clk.now < m.at_ + nsTc 168)) ∧
  (∃ s : State, ∃ p : Nat, ∃ n : Nat, Runs s ∧ (s.dev.tile p).check.mergeCount = some n ∧ s.dev.real < (s.dev.tile p).check.mergeAt + msTc 1) ∧
  (∃ s : State, ∃ p : Nat, ∃ n : Nat, Runs s ∧ (s.dev.tile p).check.mergeCount = some n ∧ (s.dev.tile p).check.mergeAt + msTc 1 ≤ s.dev.real) :=
  ⟨⟨dev (tile 3 (fun t => { t with flight := [{ mvm0 with complete := true, forced := true }] }) ∘ rdy ∘ inFrame 1), 3, 2, { mvm0 with complete := true, forced := true }, by decide +kernel⟩,
    ⟨dev (tile 3 (fun t => { t with flight := [{ mvm0 with complete := true }] }) ∘ rdy ∘ inFrame 1), 3, 2, { mvm0 with complete := true }, by decide +kernel⟩,
    ⟨dev (tile 3 (fun t => { t with flight := [mvm0] }) ∘ rdy), 3, by decide +kernel⟩,
    ⟨dev (tile 3 (fun t => { t with check := { t.check with mergeCount := some 65536 } }) ∘ rdy), 3, 65536, by decide +kernel⟩,
    ⟨dev (tile 3 (fun t => { t with check := { t.check with mergeCount := some 65536 } }) ∘ rdy ∘ late), 3, 65536, by decide +kernel⟩⟩

/-- The hypotheses of RowTripParksAndTileResetDiscards can be met, clause by clause. -/
theorem test_meets_rowTripParksAndTileResetDiscards :
  (∃ s : State, ∃ p : Nat, ∃ o : RowOver, ∃ rows : List RowOver, Runs s ∧ o ∈ rows ∧ (s.dev.tile p).trips o = true ∧ o.row ∉ (s.dev.tile p).parked) ∧
  (∃ s : State, ∃ who : Nat, ∃ p : Nat, Runs s ∧ MayWrite s.dev who .maintainer ∧ s.dev.dieAccess (ptDie p) = stOK ∧ s.dev.tileOpen p = true ∧ s.dev.widerReset (ptDie p) = false ∧ (s.dev.region (ptRegion p)).resetAsked = false) ∧
  (∃ s : State, ∃ who : Nat, ∃ p : Nat, Runs s ∧ MayWrite s.dev who .maintainer ∧ s.dev.dieAccess (ptDie p) = stOK ∧ s.dev.tileOpen p = true ∧ (s.dev.region (ptRegion p)).resetAsked = true) ∧
  (∃ s : State, ∃ who : Nat, ∃ p : Nat, Runs s ∧ MaySend s.dev who cmdRegWrite .maintainer ∧ s.dev.dieAccess (ptDie p) = stOK ∧ s.dev.tileOpen p = false) :=
  ⟨⟨dev rdy, 3, ⟨515, 12000, 4⟩, [⟨515, 12000, 4⟩], by decide +kernel⟩,
    ⟨dev (reg 0 (fun g => { g with regs := { g.regs with st := .halted } }) ∘ tile 3 (fun t => { t with flight := [mvm0], mvmNo := 4, parked := [9] }) ∘ (fun d => { d with dies := [(0, { Die.reset with dm := .inService })] }) ∘ rdy), 8, 3, by decide +kernel⟩,
    ⟨dev (reg 0 (fun g => { g with resetAsked := true }) ∘ reg 0 (fun g => { g with regs := { g.regs with st := .halted } }) ∘ (fun d => { d with dies := [(0, { Die.reset with dm := .inService })] }) ∘ rdy), 8, 3, by decide +kernel⟩,
    ⟨dev (reg 0 (fun g => { g with regs := { g.regs with st := .running } }) ∘ rdy ∘ fun d => { d with adm := { d.adm with unboundLen := 100, unboundPeriod := 4 }, clk := { d.clk with tc := 300000 } }), 0, 3, by decide +kernel⟩⟩

/-- The hypotheses of ToneRunsAndHistogram can be met, clause by clause. -/
theorem test_meets_toneRunsAndHistogram :
  (∃ s : State, ∃ who : Nat, ∃ p : Nat, Runs s ∧ MayWrite s.dev who .maintainer ∧ s.dev.dieAccess (ptDie p) = stOK ∧ s.dev.tileOpen p = true ∧ (s.dev.tile p).tone.running = false) ∧
  (∃ s : State, ∃ who : Nat, ∃ p : Nat, Runs s ∧ MayWrite s.dev who .maintainer ∧ s.dev.dieAccess (ptDie p) = stOK ∧ s.dev.tileOpen p = true ∧ (s.dev.tile p).tone.running = true) ∧
  (∃ s : State, ∃ p : Nat, Runs s ∧ (s.dev.tile p).tone.running = true ∧ 0 < (s.dev.tile p).tone.left ∧ (s.dev.tile p).staged = [] ∧ s.dev.strobeFree p = true) :=
  ⟨⟨dev (reg 0 (fun g => { g with regs := { g.regs with st := .halted } }) ∘ tile 3 (fun t => { t with tone := { t.tone with hist := [(5, 9)], ftw := 3, phase0 := 77 } }) ∘ rdy), 0, 3, by decide +kernel⟩,
    ⟨dev (reg 0 (fun g => { g with regs := { g.regs with st := .halted } }) ∘ tile 3 (fun t => { t with tone := { t.tone with hist := [(5, 9)], running := true, left := 4 } }) ∘ rdy), 0, 3, by decide +kernel⟩,
    ⟨dev (tile 3 (fun t => { t with tone := { t.tone with hist := [(1023, 65535)], running := true, left := 1, ftw := 5 } }) ∘ rdy), 3, by decide +kernel⟩⟩

/-- The hypotheses of SightingReadsItsTable can be met, clause by clause. -/
theorem test_meets_sightingReadsItsTable :
  (∃ s : State, ∃ p : Nat, ∃ t : Nat, Runs s ∧ (s.dev.tile p).sightRuns = true ∧ (s.dev.tile p).sight.fires = [] ∧ (s.dev.tile p).sight.trig = 1 ∧ (s.dev.tile p).sight.timerAt s.dev.clk = some t ∧ (s.dev.tile p).sight.lastTrig ≠ some t ∧ s.dev.came t = true ∧ s.dev.inOrder (unitPt p) ordSight = true ∧ 0 < (s.dev.tile p).sight.readsLeft) ∧
  (∃ s : State, ∃ p : Nat, ∃ t : Nat, Runs s ∧ (s.dev.tile p).sightRuns = true ∧ (s.dev.tile p).sight.fires = [] ∧ (s.dev.tile p).sight.trig = 1 ∧ (s.dev.tile p).sight.timerAt s.dev.clk = some t ∧ (s.dev.tile p).sight.lastTrig ≠ some t ∧ s.dev.came t = true ∧ s.dev.inOrder (unitPt p) ordSight = true ∧ (s.dev.tile p).sight.readsLeft = 0 ∧ (s.dev.tile p).sight.pendCtrl = none ∧ (s.dev.tile p).sight.pendTable = [] ∧ (s.dev.tile p).sight.pos < (s.dev.tile p).sight.len) ∧
  (∃ s : State, ∃ p : Nat, ∃ t : Nat, ∃ rest : List Nat, Runs s ∧ (s.dev.tile p).sightRuns = true ∧ (s.dev.tile p).sight.fires = [] ∧ (s.dev.tile p).sight.trig = 2 ∧ (s.dev.tile p).sight.trigAt = t :: rest ∧ s.dev.came t = true ∧ (s.dev.tile p).sight.readsLeft = 0 ∧ (s.dev.tile p).sight.pendCtrl = none ∧ (s.dev.tile p).sight.pendTable = [] ∧ (s.dev.tile p).sight.pos < (s.dev.tile p).sight.len) ∧
  (∃ s : State, ∃ p : Nat, ∃ lt : Nat, ∃ t : Nat, Runs s ∧ s.dev.logicalOf p = some lt ∧ s.dev.sightingAt lt = some t ∧ (s.dev.tile p).sight.placedAt ≠ some t ∧ s.dev.inOrder (unitPt p) ordSight = true) ∧
  (∃ s : State, ∃ p : Nat, ∃ lt : Nat, ∃ t : Nat, Runs s ∧ s.dev.logicalOf p = some lt ∧ s.dev.sightingAt lt = some t ∧ (s.dev.tile p).sight.placedAt = some t) ∧
  (∃ s : State, ∃ p : Nat, Runs s ∧ (s.dev.tile p).sightRuns = true ∧ (s.dev.tile p).sight.fires = [] ∧ s.dev.idleTick p = true ∧ s.dev.inOrder (unitPt p) ordSight = true ∧ (s.dev.tile p).sight.dueAt + usTc (seSettle (s.dev.tile p).sight.entry) ≤ s.dev.real ∧ 1 < (s.dev.tile p).sight.readsLeft) ∧
  (∃ s : State, ∃ p : Nat, Runs s ∧ (s.dev.tile p).sightRuns = true ∧ (s.dev.tile p).sight.fires = [] ∧ s.dev.idleTick p = true ∧ s.dev.inOrder (unitPt p) ordSight = true ∧ (s.dev.tile p).sight.dueAt + usTc (seSettle (s.dev.tile p).sight.entry) ≤ s.dev.real ∧ (s.dev.tile p).sight.readsLeft = 1) :=
  ⟨⟨dev (tile 3 (fun t => { t with dress := { t.dress with dressed := true }, sight := { t.sight with trig := 1, len := 2, readsLeft := 1, period := 40000 } }) ∘ rdy), 3, 0, by decide +kernel⟩,
    ⟨dev (tile 3 (fun t => { t with dress := { t.dress with dressed := true }, sight := { t.sight with trig := 1, len := 2, pos := 1, table := [(1, 0x3001)], period := 40000 } }) ∘ rdy), 3, 0, by decide +kernel⟩,
    ⟨dev (tile 3 (fun t => { t with dress := { t.dress with dressed := true }, sight := { t.sight with trig := 2, len := 2, pos := 1, table := [(1, 0x3001)], trigAt := [0] } }) ∘ rdy), 3, 0, [], by decide +kernel⟩,
    ⟨dev (tile 3 (fun t => { t with dress := { t.dress with dressed := true }, sight := { t.sight with trig := 1 } }) ∘ strm 1 (fun x => { x with st := .active, almanac := 20, tiles := [(3, 1, 1, 100)] }) ∘ (fun d => { d with adm := { d.adm with phases := [(3, 0)] } }) ∘ rdy), 3, 3, 0, by decide +kernel⟩,
    ⟨dev (tile 3 (fun t => { t with dress := { t.dress with dressed := true }, sight := { t.sight with placedAt := some 0 } }) ∘ strm 1 (fun x => { x with st := .active, almanac := 20, tiles := [(3, 1, 1, 100)] }) ∘ (fun d => { d with adm := { d.adm with phases := [(3, 0)] } }) ∘ rdy), 3, 3, 0, by decide +kernel⟩,
    ⟨dev (tile 3 (fun t => { t with dress := { t.dress with dressed := true }, sight := { t.sight with trig := 1, len := 2, pos := 1, readsLeft := 2, intervals := [0] } }) ∘ rdy ∘ late), 3, by decide +kernel⟩,
    ⟨dev (tile 3 (fun t => { t with dress := { t.dress with dressed := true }, sight := { t.sight with trig := 1, len := 2, pos := 1, readsLeft := 1, intervals := [0] } }) ∘ rdy ∘ late), 3, by decide +kernel⟩⟩

/-- The hypotheses of SightingAndTrimWrites can be met, clause by clause. -/
theorem test_meets_sightingAndTrimWrites :
  (∃ s : State, ∃ who : Nat, ∃ p : Nat, ∃ v : Nat, Runs s ∧ MayWrite s.dev who .maintainer ∧ s.dev.dieAccess (ptDie p) = stOK ∧ s.dev.tileOpen p = true ∧ (s.dev.tile p).sight.ctrlForm v = stOK ∧ (s.dev.tile p).sight.fires = [] ∧ (s.dev.tile p).sight.readsLeft = 0) ∧
  (∃ s : State, ∃ who : Nat, ∃ p : Nat, ∃ v : Nat, Runs s ∧ MayWrite s.dev who .maintainer ∧ s.dev.dieAccess (ptDie p) = stOK ∧ s.dev.tileOpen p = true ∧ (s.dev.tile p).sight.ctrlForm v = stOK ∧ (s.dev.tile p).sight.fires = [] ∧ (s.dev.tile p).sight.readsLeft ≠ 0) ∧
  (∃ s : State, ∃ who : Nat, ∃ p : Nat, ∃ v : Nat, Runs s ∧ MayWrite s.dev who .maintainer ∧ s.dev.dieAccess (ptDie p) = stOK ∧ s.dev.tileOpen p = true ∧ (s.dev.tile p).sight.periodForm v = stOK) ∧
  (∃ s : State, ∃ who : Nat, ∃ p : Nat, ∃ v : Nat, Runs s ∧ MayWrite s.dev who .maintainer ∧ s.dev.dieAccess (ptDie p) = stOK ∧ s.dev.tileOpen p = true ∧ (s.dev.tile p).sight.delayForm v = stOK) ∧
  (∃ s : State, ∃ who : Nat, ∃ p : Nat, ∃ v : Nat, Runs s ∧ MayWrite s.dev who .maintainer ∧ s.dev.dieAccess (ptDie p) = stOK ∧ s.dev.tileOpen p = true ∧ v < 2 ^ 18 ∧ 24576 ≤ bits v 15 0 ∧ bits v 15 0 ≤ 40960) ∧
  (∃ s : State, ∃ who : Nat, ∃ die : Nat, ∃ i : Nat, ∃ v : Nat, Runs s ∧ MayWrite s.dev who .owner ∧ s.dev.dieAccess (ptDie (trimTile die i)) = stOK ∧ s.dev.tileOpen (trimTile die i) = true ∧ (sx 18 (bits v 17 0)).natAbs ≤ 65024) ∧
  (∃ s : State, ∃ who : Nat, ∃ die : Nat, ∃ i : Nat, ∃ v : Nat, Runs s ∧ MayWrite s.dev who .owner ∧ s.dev.dieAccess (ptDie (trimTile die i)) = stOK ∧ s.dev.tileOpen (trimTile die i) = true ∧ (∃ low : Nat, v < 2 ^ 18 ∧ (tget .reset (s.dev.tile (trimTile die i)).trims (i % 528)).heldLow = some low)) :=
  ⟨⟨dev (reg 0 (fun g => { g with regs := { g.regs with st := .halted } }) ∘ rdy), 0, 3, 0x4 + 60 * 4096 + 2^18, by decide +kernel⟩,
    ⟨dev (reg 0 (fun g => { g with regs := { g.regs with st := .halted } }) ∘ tile 3 (fun t => { t with sight := { t.sight with readsLeft := 1 } }) ∘ rdy), 0, 3, 0x4 + 60 * 4096 + 2^18, by decide +kernel⟩,
    ⟨dev (reg 0 (fun g => { g with regs := { g.regs with st := .halted } }) ∘ rdy), 0, 3, 1966080, by decide +kernel⟩,
    ⟨dev (reg 0 (fun g => { g with regs := { g.regs with st := .halted } }) ∘ rdy), 0, 3, 100, by decide +kernel⟩,
    ⟨dev (reg 0 (fun g => { g with regs := { g.regs with st := .halted } }) ∘ rdy), 0, 3, 40960, by decide +kernel⟩,
    ⟨dev (reg 0 (fun g => { g with regs := { g.regs with st := .halted } }) ∘ rdy), 0, 0, 1583 + 528, 65024, by decide +kernel⟩,
    ⟨dev (reg 0 (fun g => { g with regs := { g.regs with st := .halted } }) ∘ tile 3 (fun t => { t with trims := [(527, { TrimEntry.reset with heldLow := some 65024 })] }) ∘ rdy), 0, 0, 2111, 2^18-1, by decide +kernel, by decide +kernel, by decide +kernel, by decide +kernel, 65024, by decide +kernel⟩⟩

/-- The hypotheses of DressingRunsRowByRow can be met, clause by clause. -/
theorem test_meets_dressingRunsRowByRow :
  (∃ s : State, ∃ p : Nat, Runs s ∧ (s.dev.tile p).dress.st = .queued ∧ 600 ≤ (s.dev.region (ptRegion p)).dressAllow ∧ s.dev.pins.vppLow = false ∧ s.dev.dieTemp (ptDie p) ≤ 1520 ∧ s.dev.tempPausedTiles (ptDie p) = false ∧ (s.dev.dressing (ptRegion p) fun x => x = .active) = [] ∧ (s.dev.dressing (ptRegion p) fun x => x = .pausedAllowance) = [] ∧ (∀ q, q ∈ (s.dev.dressing (ptRegion p) fun x => x = .queued) → (s.dev.tile p).dress.order ≤ (s.dev.tile q).dress.order) ∧ (s.dev.tile p).flight = [] ∧ (s.dev.tile p).bursts = [] ∧ (s.dev.tile p).parked = [] ∧ s.dev.tileOpen p = true) ∧
  (∃ s : State, ∃ p : Nat, ∃ reads : List (Nat × List Nat), Runs s ∧ (s.dev.tile p).dress.st = .active ∧ (s.dev.tile p).dress.rowsDone < 512 ∧ s.dev.accessLasts p 340 = true ∧ (∀ e, e ∈ (s.dev.tile p).dressSlots (s.dev.tile p).dress.rowsDone reads → e.2.2 = true)) ∧
  (∃ s : State, ∃ p : Nat, ∃ reads : List (Nat × List Nat), Runs s ∧ (s.dev.tile p).dress.st = .active ∧ (s.dev.tile p).dress.rowsDone < 512 ∧ s.dev.accessLasts p 340 = true ∧ (∃ x, (∃ e, e ∈ (s.dev.tile p).dressSlots (s.dev.tile p).dress.rowsDone reads ∧ e.2.2 = false) ∧ (s.dev.tile p).spareRow = some x)) ∧
  (∃ s : State, ∃ p : Nat, Runs s ∧ (s.dev.tile p).dress.st = .active ∧ 512 ≤ (s.dev.tile p).dress.rowsDone ∧ (s.dev.tile p).dress.count + 1 < 20000) ∧
  (∃ s : State, ∃ who : Nat, ∃ r : Nat, ∃ v : Nat, Runs s ∧ MayWrite s.dev who .operator ∧ s.dev.dieAccess (r / 6) = stOK ∧ v ≤ 4000 ∧ (v ≤ (s.dev.region r).dressAllow ∨ s.dev.powerUsed + (v - (s.dev.region r).dressAllow) ≤ s.dev.admCap)) ∧
  (∃ s : State, ∃ who : Nat, ∃ r : Nat, ∃ v : Nat, Runs s ∧ MaySend s.dev who cmdRegWrite .operator ∧ s.dev.dieAccess (r / 6) = stOK ∧ v ≤ 4000 ∧ (s.dev.region r).dressAllow < v ∧ s.dev.admCap < s.dev.powerUsed + (v - (s.dev.region r).dressAllow)) :=
  ⟨⟨dev (reg 0 (fun g => { g with regs := { g.regs with st := .halted } }) ∘ tile 3 (fun t => { t with dress := { t.dress with st := .queued } }) ∘ rdy), 3, by decide +kernel⟩,
    ⟨dev (reg 0 (fun g => { g with regs := { g.regs with st := .halted } }) ∘ tile 3 (fun t => { t with dress := { t.dress with st := .active, rowsDone := 511 } }) ∘ rdy), 3, [], by decide +kernel⟩,
    ⟨dev (reg 0 (fun g => { g with regs := { g.regs with st := .halted } }) ∘ tile 3 (fun t => { t with dress := { t.dress with st := .active, rowsDone := 511 } }) ∘ rdy), 3, [(515, List.replicate 24 0)], by decide +kernel, by decide +kernel, by decide +kernel, by decide +kernel, 512, by decide +kernel⟩,
    ⟨dev (tile 3 (fun t => { t with dress := { t.dress with st := .active, rowsDone := 512, count := 19998 } }) ∘ rdy), 3, by decide +kernel⟩,
    ⟨dev rdy, 0, 47, 4000, by decide +kernel⟩,
    ⟨dev fun d => { rdy d with adm := { d.adm with pkgLimit := 100 } }, 0, 47, 4000, by decide +kernel⟩⟩

/-- The hypotheses of RedressMovesLogicalTileToSpare can be met, clause by clause. -/
theorem test_meets_redressMovesLogicalTileToSpare :
  (∃ s : State, ∃ lt : Nat, ∃ old : Nat, ∃ p : Nat, ∃ x : Redress, Runs s ∧ s.dev.nextRedress (ltCluster lt) = some x ∧ x.logical = lt ∧ ((s.dev.cluster (ltCluster lt)).redress.any fun y => decide (2 ≤ y.stage)) = false ∧ s.dev.physOf lt = some old ∧ s.dev.spareOf (ltCluster lt) = some p ∧ (s.dev.tile p).check.health ≠ .faulty ∧ (s.dev.tile p).dress.st = .idle ∧ s.dev.digitalCopy old = true ∧ 600 ≤ (s.dev.region (ptRegion p)).dressAllow) ∧
  (∃ s : State, ∃ lt : Nat, ∃ old : Nat, ∃ p : Nat, ∃ x : Redress, Runs s ∧ (s.dev.cluster (ltCluster lt)).redress.find? (fun y => y.logical = lt) = some x ∧ x.stage = 3 ∧ s.dev.physOf lt = some old ∧ s.dev.spareOf (ltCluster lt) = some p ∧ s.dev.switchReady p (s.dev.strictest lt) = true ∧ s.dev.switchInstant lt old = true ∧ old ≠ p) :=
  ⟨⟨dev fun d => (modelAt (fun a => { a with st := .active, shards := [{ shard0 with verified := true }], dressed := [0], partner := [(0, 2)] }) d).updCluster 0 (fun c => { c with redress := [⟨2, .command, 0, 0⟩] }) |>.updTile 2 fun t => { t with logModel := 5, logEpoch := 1, dress := { t.dress with logical := 2 } }, 2, 2, 8, ⟨2, .command, 0, 0⟩, by decide +kernel⟩,
    ⟨dev fun d => (rdy d).updCluster 0 (fun c => { c with redress := [⟨2, .command, 0, 3⟩] }) |>.updTile 8 fun t => { t with dress := { t.dress with dressed := true }, sight := { t.sight with loops := 1 } }, 2, 2, 8, ⟨2, .command, 0, 3⟩, by decide +kernel⟩⟩

/-- The hypotheses of ScalarInstructionsWriteOneRegister can be met, clause by clause. -/
theorem test_meets_scalarInstructionsWriteOneRegister :
  (∃ s : State, ∃ r : Nat, ∃ g : Guard, ReadyNow s.dev r ∧ g.gp < 8 ∧ (seenNow s.dev r).guard g = true ∧ (seenNow s.dev r).ps.inRange ((seenNow s.dev r).bank.pc + 1) = true ∧ (let c := seenNow s.dev r;
    ∃ rd, ∃ rs, rd < 32 ∧ rs < 32 ∧ merOk (c.s rd) = true ∧ 0 ≤ (ofMer (c.s rd) : Int) + sx 64 (c.s rs) ∧ (ofMer (c.s rd) : Int) + sx 64 (c.s rs) < (2 ^ 39 * tcPerFrame : Nat))) ∧
  (∃ s : State, ∃ r : Nat, ∃ g : Guard, ReadyNow s.dev r ∧ g.gp < 8 ∧ (seenNow s.dev r).guard g = true ∧ (seenNow s.dev r).ps.inRange ((seenNow s.dev r).bank.pc + 1) = true ∧ (∃ rd, ∃ imm, rd < 32 ∧ -256 ≤ imm ∧ imm < 256)) ∧
  (∃ s : State, ∃ r : Nat, ∃ g : Guard, ReadyNow s.dev r ∧ g.gp < 8 ∧ (seenNow s.dev r).guard g = true ∧ (seenNow s.dev r).ps.inRange ((seenNow s.dev r).bank.pc + 1) = true ∧ (∃ rd, ∃ sh, rd < 32 ∧ sh < 64)) ∧
  (∃ s : State, ∃ r : Nat, ∃ g : Guard, ReadyNow s.dev r ∧ g.gp < 8 ∧ (seenNow s.dev r).guard g = true ∧ (seenNow s.dev r).ps.inRange ((seenNow s.dev r).bank.pc + 1) = true ∧ (∃ pd, ∃ rs, ∃ rt, pd < 8 ∧ rs < 32 ∧ rt < 32)) ∧
  (∃ s : State, ∃ r : Nat, ∃ g : Guard, ReadyNow s.dev r ∧ g.gp < 8 ∧ (seenNow s.dev r).guard g = true ∧ (seenNow s.dev r).ps.inRange ((seenNow s.dev r).bank.pc + 1) = true ∧ (∃ sd, ∃ imm, sd < 32 ∧ imm < 2 ^ 32)) :=
  ⟨⟨dev (running [(1, 5), (2, 2^64-3), (3, 0x3f800000), (4, 0x40000000), (5, 2^25 + 5), (6, 40)] [(1, 4096), (2, 2^40 + 64), (3, 8192)] [] [] ∘ rdy), 0, { gp := 0, gn := false }, by dsimp only [ReadyNow, Ready]; decide +kernel, by decide +kernel, by decide +kernel, by decide +kernel, 5, 1, by decide +kernel⟩,
    ⟨dev (running [(1, 5), (2, 2^64-3), (3, 0x3f800000), (4, 0x40000000), (5, 2^25 + 5), (6, 40)] [(1, 4096), (2, 2^40 + 64), (3, 8192)] [] [] ∘ rdy), 0, { gp := 0, gn := false }, by dsimp only [ReadyNow, Ready]; decide +kernel, by decide +kernel, by decide +kernel, by decide +kernel, 1, (-256 : Int), by decide +kernel⟩,
    ⟨dev (running [(1, 5), (2, 2^64-3), (3, 0x3f800000), (4, 0x40000000), (5, 2^25 + 5), (6, 40)] [(1, 4096), (2, 2^40 + 64), (3, 8192)] [] [] ∘ rdy), 0, { gp := 0, gn := false }, by dsimp only [ReadyNow, Ready]; decide +kernel, by decide +kernel, by decide +kernel, by decide +kernel, 1, 63, by decide +kernel⟩,
    ⟨dev (running [(1, 5), (2, 2^64-3), (3, 0x3f800000), (4, 0x40000000), (5, 2^25 + 5), (6, 40)] [(1, 4096), (2, 2^40 + 64), (3, 8192)] [] [] ∘ rdy), 0, { gp := 0, gn := false }, by dsimp only [ReadyNow, Ready]; decide +kernel, by decide +kernel, by decide +kernel, by decide +kernel, 7, 2, 2, by decide +kernel⟩,
    ⟨dev (running [(1, 5), (2, 2^64-3), (3, 0x3f800000), (4, 0x40000000), (5, 2^25 + 5), (6, 40)] [(1, 4096), (2, 2^40 + 64), (3, 8192)] [] [] ∘ rdy), 0, { gp := 0, gn := false }, by dsimp only [ReadyNow, Ready]; decide +kernel, by decide +kernel, by decide +kernel, by decide +kernel, 6, 2^32-1, by decide +kernel⟩⟩

/-- The hypotheses of ControlTransfersSetPcAndStacks can be met, clause by clause. -/
theorem test_meets_controlTransfersSetPcAndStacks :
  (∃ s : State, ∃ r : Nat, ∃ g : Guard, ReadyNow s.dev r ∧ g.gp < 8 ∧ (let c := seenNow s.dev r;
    let fall : Prop := c.ps.inRange (c.bank.pc + 1) = true;
    fall)) ∧
  (∃ s : State, ∃ r : Nat, ∃ g : Guard, ReadyNow s.dev r ∧ g.gp < 8 ∧ (let c := seenNow s.dev r;
    let fall : Prop := c.ps.inRange (c.bank.pc + 1) = true;
    ∃ t, t < 16384 ∧ t < c.ps.len ∧ c.guard g = false ∧ fall)) ∧
  (∃ s : State, ∃ r : Nat, ∃ g : Guard, ReadyNow s.dev r ∧ g.gp < 8 ∧ (let c := seenNow s.dev r;
    let fall : Prop := c.ps.inRange (c.bank.pc + 1) = true;
    ∃ rd, ∃ rs, rd < 32 ∧ rs < 32 ∧ c.guard g = false ∧ fall)) ∧
  (∃ s : State, ∃ r : Nat, ∃ g : Guard, ReadyNow s.dev r ∧ g.gp < 8 ∧ (let c := seenNow s.dev r;
    let fall : Prop := c.ps.inRange (c.bank.pc + 1) = true;
    ∃ rs, ∃ cond, ∃ off, rs < 32 ∧ cond < 6 ∧ -32 ≤ off ∧ off < 32 ∧ c.guard g = false ∧ fall ∧ 0 ≤ (c.bank.pc : Int) + off ∧ c.ps.inRange ((c.bank.pc : Int) + off).toNat = true)) ∧
  (∃ s : State, ∃ r : Nat, ∃ g : Guard, ReadyNow s.dev r ∧ g.gp < 8 ∧ (let c := seenNow s.dev r;
    let fall : Prop := c.ps.inRange (c.bank.pc + 1) = true;
    let leaves : Prop := g = { gp := 0, gn := false } ∨ fall;
    c.guard g = true ∧ (∃ t, t < 16384 ∧ t < c.ps.len ∧ leaves))) ∧
  (∃ s : State, ∃ r : Nat, ∃ g : Guard, ReadyNow s.dev r ∧ g.gp < 8 ∧ (let c := seenNow s.dev r;
    let fall : Prop := c.ps.inRange (c.bank.pc + 1) = true;
    c.guard g = true ∧ (∃ rs, ∃ cond, ∃ off, rs < 32 ∧ cond < 6 ∧ -32 ≤ off ∧ off < 32 ∧ fall ∧ 0 ≤ (c.bank.pc : Int) + off ∧ c.ps.inRange ((c.bank.pc : Int) + off).toNat = true))) ∧
  (∃ s : State, ∃ r : Nat, ∃ g : Guard, ReadyNow s.dev r ∧ g.gp < 8 ∧ (let c := seenNow s.dev r;
    let fall : Prop := c.ps.inRange (c.bank.pc + 1) = true;
    c.guard g = true ∧ (∃ t, t < 16384 ∧ t < c.ps.len ∧ c.bank.ret.length < 16 ∧ fall))) ∧
  (∃ s : State, ∃ r : Nat, ∃ g : Guard, ReadyNow s.dev r ∧ g.gp < 8 ∧ (let c := seenNow s.dev r;
    let fall : Prop := c.ps.inRange (c.bank.pc + 1) = true;
    let leaves : Prop := g = { gp := 0, gn := false } ∨ fall;
    c.guard g = true ∧ (∃ p, ∃ rest, c.bank.ret = p :: rest ∧ c.ps.inRange p = true ∧ leaves))) ∧
  (∃ s : State, ∃ r : Nat, ∃ g : Guard, ReadyNow s.dev r ∧ g.gp < 8 ∧ (let c := seenNow s.dev r;
    let fall : Prop := c.ps.inRange (c.bank.pc + 1) = true;
    c.guard g = true ∧ (∃ n, 1 ≤ n ∧ n < 16384 ∧ c.bank.loop.length < 4 ∧ fall))) ∧
  (∃ s : State, ∃ r : Nat, ∃ g : Guard, ReadyNow s.dev r ∧ g.gp < 8 ∧ (let c := seenNow s.dev r;
    let fall : Prop := c.ps.inRange (c.bank.pc + 1) = true;
    c.guard g = true ∧ (∃ rs, rs < 32 ∧ 1 ≤ c.s rs ∧ c.s rs < 2 ^ 32 ∧ c.bank.loop.length < 4 ∧ fall))) ∧
  (∃ s : State, ∃ r : Nat, ∃ g : Guard, ReadyNow s.dev r ∧ g.gp < 8 ∧ (let c := seenNow s.dev r;
    let fall : Prop := c.ps.inRange (c.bank.pc + 1) = true;
    c.guard g = true ∧ (∃ n, ∃ start, ∃ rest, c.bank.loop = (n, start) :: rest ∧ fall ∧ 1 < n))) ∧
  (∃ s : State, ∃ r : Nat, ∃ g : Guard, ReadyNow s.dev r ∧ g.gp < 8 ∧ (let c := seenNow s.dev r;
    let fall : Prop := c.ps.inRange (c.bank.pc + 1) = true;
    c.guard g = true ∧ (∃ n, ∃ start, ∃ rest, c.bank.loop = (n, start) :: rest ∧ fall ∧ n ≤ 1))) :=
  ⟨⟨dev (running [(1, 5), (2, 2^64-3), (3, 0x3f800000), (4, 0x40000000), (5, 2^25 + 5), (6, 40)] [(1, 4096), (2, 2^40 + 64), (3, 8192)] [] [] ∘ rdy), 0, { gp := 0, gn := false }, by dsimp only [ReadyNow, Ready]; decide +kernel, by decide +kernel, by decide +kernel⟩,
    ⟨dev (running [(1, 5), (2, 2^64-3), (3, 0x3f800000), (4, 0x40000000), (5, 2^25 + 5), (6, 40)] [(1, 4096), (2, 2^40 + 64), (3, 8192)] [] [] ∘ rdy), 0, { gp := 1, gn := false }, by dsimp only [ReadyNow, Ready]; decide +kernel, by decide +kernel, 63, by decide +kernel⟩,
    ⟨dev (running [(1, 5), (2, 2^64-3), (3, 0x3f800000), (4, 0x40000000), (5, 2^25 + 5), (6, 40)] [(1, 4096), (2, 2^40 + 64), (3, 8192)] [] [] ∘ rdy), 0, { gp := 1, gn := false }, by dsimp only [ReadyNow, Ready]; decide +kernel, by decide +kernel, 1, 1, by decide +kernel⟩,
    ⟨dev (running [(1, 5), (2, 2^64-3), (3, 0x3f800000), (4, 0x40000000), (5, 2^25 + 5), (6, 40)] [(1, 4096), (2, 2^40 + 64), (3, 8192)] [] [] ∘ rdy), 0, { gp := 1, gn := false }, by dsimp only [ReadyNow, Ready]; decide +kernel, by decide +kernel, 1, 3, (-3 : Int), by decide +kernel⟩,
    ⟨dev (running [(1, 5), (2, 2^64-3), (3, 0x3f800000), (4, 0x40000000), (5, 2^25 + 5), (6, 40)] [(1, 4096), (2, 2^40 + 64), (3, 8192)] [] [] ∘ rdy), 0, { gp := 0, gn := false }, by dsimp only [ReadyNow, Ready]; decide +kernel, by decide +kernel, by decide +kernel, 63, by decide +kernel⟩,
    ⟨dev (running [(1, 5), (2, 2^64-3), (3, 0x3f800000), (4, 0x40000000), (5, 2^25 + 5), (6, 40)] [(1, 4096), (2, 2^40 + 64), (3, 8192)] [] [] ∘ rdy), 0, { gp := 0, gn := false }, by dsimp only [ReadyNow, Ready]; decide +kernel, by decide +kernel, by decide +kernel, 1, 3, (-3 : Int), by decide +kernel⟩,
    ⟨dev (running [(1, 5), (2, 2^64-3), (3, 0x3f800000), (4, 0x40000000), (5, 2^25 + 5), (6, 40)] [(1, 4096), (2, 2^40 + 64), (3, 8192)] [] [] ∘ rdy), 0, { gp := 0, gn := false }, by dsimp only [ReadyNow, Ready]; decide +kernel, by decide +kernel, by decide +kernel, 63, by decide +kernel⟩,
    ⟨dev ((fun d => d.updRegion 0 fun g => { g with arch := tupd .reset g.arch 0 fun b => { b with ret := [9, 8] } }) ∘ running [(1, 5), (2, 2^64-3), (3, 0x3f800000), (4, 0x40000000), (5, 2^25 + 5), (6, 40)] [(1, 4096), (2, 2^40 + 64), (3, 8192)] [] [] ∘ rdy), 0, { gp := 0, gn := false }, by dsimp only [ReadyNow, Ready]; decide +kernel, by decide +kernel, by decide +kernel, 9, [8], by decide +kernel⟩,
    ⟨dev (running [(1, 5), (2, 2^64-3), (3, 0x3f800000), (4, 0x40000000), (5, 2^25 + 5), (6, 40)] [(1, 4096), (2, 2^40 + 64), (3, 8192)] [] [] ∘ rdy), 0, { gp := 0, gn := false }, by dsimp only [ReadyNow, Ready]; decide +kernel, by decide +kernel, by decide +kernel, 16383, by decide +kernel⟩,
    ⟨dev (running [(1, 5), (2, 2^64-3), (3, 0x3f800000), (4, 0x40000000), (5, 2^25 + 5), (6, 40)] [(1, 4096), (2, 2^40 + 64), (3, 8192)] [] [] ∘ rdy), 0, { gp := 0, gn := false }, by dsimp only [ReadyNow, Ready]; decide +kernel, by decide +kernel, by decide +kernel, 1, by decide +kernel⟩,
    ⟨dev ((fun d => d.updRegion 0 fun g => { g with arch := tupd .reset g.arch 0 fun b => { b with loop := [(2, 2)] } }) ∘ running [(1, 5), (2, 2^64-3), (3, 0x3f800000), (4, 0x40000000), (5, 2^25 + 5), (6, 40)] [(1, 4096), (2, 2^40 + 64), (3, 8192)] [] [] ∘ rdy), 0, { gp := 0, gn := false }, by dsimp only [ReadyNow, Ready]; decide +kernel, by decide +kernel, by decide +kernel, 2, 2, [], by decide +kernel⟩,
    ⟨dev ((fun d => d.updRegion 0 fun g => { g with arch := tupd .reset g.arch 0 fun b => { b with loop := [(1, 2)] } }) ∘ running [(1, 5), (2, 2^64-3), (3, 0x3f800000), (4, 0x40000000), (5, 2^25 + 5), (6, 40)] [(1, 4096), (2, 2^40 + 64), (3, 8192)] [] [] ∘ rdy), 0, { gp := 0, gn := false }, by dsimp only [ReadyNow, Ready]; decide +kernel, by decide +kernel, by decide +kernel, 1, 2, [], by decide +kernel⟩⟩

/-- The hypotheses of WaitsYieldsAndEndsOfFinern can be met, clause by clause. -/
theorem test_meets_waitsYieldsAndEndsOfFinern :
  (∃ s : State, ∃ r : Nat, ∃ g : Guard, ReadyNow s.dev r ∧ g.gp < 8 ∧ (seenNow s.dev r).guard g = true ∧ (let c := seenNow s.dev r;
    let fall : Prop := c.ps.inRange (c.bank.pc + 1) = true;
    ∃ rs, rs < 32 ∧ fall ∧ merOk (c.s rs) = true ∧ s.dev.clk.now < ofMer (c.s rs) ∧ ofMer (c.s rs) ≤ s.dev.clk.now + 100 * tcPerFrame)) ∧
  (∃ s : State, ∃ r : Nat, ∃ g : Guard, ReadyNow s.dev r ∧ g.gp < 8 ∧ (seenNow s.dev r).guard g = true ∧ (let c := seenNow s.dev r;
    let fall : Prop := c.ps.inRange (c.bank.pc + 1) = true;
    ∃ rs, rs < 32 ∧ fall ∧ merOk (c.s rs) = true ∧ ofMer (c.s rs) ≤ s.dev.clk.now)) ∧
  (∃ s : State, ∃ r : Nat, ∃ g : Guard, ReadyNow s.dev r ∧ g.gp < 8 ∧ (seenNow s.dev r).guard g = true ∧ (let c := seenNow s.dev r;
    let fall : Prop := c.ps.inRange (c.bank.pc + 1) = true;
    ∃ t, ∃ rest, ∃ offer, (s.dev.region r).tests = t :: rest ∧ 1 ≤ offer ∧ offer ≤ 1000 ∧ fall)) ∧
  (∃ s : State, ∃ r : Nat, ∃ g : Guard, ReadyNow s.dev r ∧ g.gp < 8 ∧ (seenNow s.dev r).guard g = true ∧ (let c := seenNow s.dev r;
    let fall : Prop := c.ps.inRange (c.bank.pc + 1) = true;
    let leaves : Prop := g = { gp := 0, gn := false } ∨ fall;
    ∃ code, code < 256 ∧ leaves)) ∧
  (∃ s : State, ∃ r : Nat, ∃ t : Nat, ∃ b : Bool, Runs s ∧ (s.dev.region r).held = [] ∧ (s.dev.region r).wait = some (if b then .beat t else .until_ t) ∧ (s.dev.clk.now < t ∨ (s.dev.region r).regs.st = .halted)) ∧
  (∃ s : State, ∃ r : Nat, ∃ t : Nat, ∃ b : Bool, Runs s ∧ (s.dev.region r).held = [] ∧ (s.dev.region r).wait = some (if b then .beat t else .until_ t) ∧ t ≤ s.dev.clk.now ∧ (s.dev.region r).regs.st = .running) ∧
  (∃ s : State, ∃ r : Nat, ∃ t : Nat, ∃ b : Bool, Runs s ∧ (s.dev.region r).held = [] ∧ (s.dev.region r).wait = some (if b then .beat t else .until_ t) ∧ t ≤ s.dev.clk.now ∧ (s.dev.region r).regs.st = .yielded ∧ (s.dev.region r).lateTraps = [] ∧ (s.dev.region r).haltAsked = false) :=
  ⟨⟨dev (running [(1, 5), (2, 2^64-3), (3, 0x3f800000), (4, 0x40000000), (5, 2^25 + 5), (6, 40)] [(1, 4096), (2, 2^40 + 64), (3, 8192)] [] [] ∘ strm 1 (fun x => { x with st := .active, almanac := 20 }) ∘ rdy), 0, { gp := 0, gn := false }, by dsimp only [ReadyNow, Ready]; decide +kernel, by decide +kernel, by decide +kernel, 5, by decide +kernel⟩,
    ⟨dev (running [(1, 5), (2, 2^64-3), (3, 0x3f800000), (4, 0x40000000), (5, 2^25 + 5), (6, 40)] [(1, 4096), (2, 2^40 + 64), (3, 8192)] [] [] ∘ strm 1 (fun x => { x with st := .active, almanac := 20 }) ∘ rdy ∘ fun d => { d with clk := { d.clk with frame := 2 } }), 0, { gp := 0, gn := false }, by dsimp only [ReadyNow, Ready]; decide +kernel, by decide +kernel, by decide +kernel, 5, by decide +kernel⟩,
    ⟨dev (reg 0 (fun g => { g with tests := [test0] }) ∘ running [(1, 5), (2, 2^64-3), (3, 0x3f800000), (4, 0x40000000), (5, 2^25 + 5), (6, 40)] [(1, 4096), (2, 2^40 + 64), (3, 8192)] [] [] ∘ rdy), 0, { gp := 0, gn := false }, by dsimp only [ReadyNow, Ready]; decide +kernel, by decide +kernel, by decide +kernel, test0, [], 1000, by decide +kernel⟩,
    ⟨dev (running [(1, 5), (2, 2^64-3), (3, 0x3f800000), (4, 0x40000000), (5, 2^25 + 5), (6, 40)] [(1, 4096), (2, 2^40 + 64), (3, 8192)] [] [] ∘ strm 1 (fun x => { x with st := .active, almanac := 20 }) ∘ rdy), 0, { gp := 0, gn := false }, by dsimp only [ReadyNow, Ready]; decide +kernel, by decide +kernel, by decide +kernel, 255, by decide +kernel⟩,
    ⟨dev (reg 0 (fun g => { g with wait := some (.until_ 9) }) ∘ running [(1, 5), (2, 2^64-3), (3, 0x3f800000), (4, 0x40000000), (5, 2^25 + 5), (6, 40)] [(1, 4096), (2, 2^40 + 64), (3, 8192)] [] [] ∘ rdy), 0, 9, false, by decide +kernel⟩,
    ⟨dev (reg 0 (fun g => { g with wait := some (.beat 0) }) ∘ running [(1, 5), (2, 2^64-3), (3, 0x3f800000), (4, 0x40000000), (5, 2^25 + 5), (6, 40)] [(1, 4096), (2, 2^40 + 64), (3, 8192)] [] [] ∘ rdy), 0, 0, true, by decide +kernel⟩,
    ⟨dev (reg 0 (fun g => { g with wait := some (.until_ 0), regs := { g.regs with st := .yielded }, yieldedFrom := true }) ∘ running [(1, 5), (2, 2^64-3), (3, 0x3f800000), (4, 0x40000000), (5, 2^25 + 5), (6, 40)] [(1, 4096), (2, 2^40 + 64), (3, 8192)] [] [] ∘ rdy), 0, 0, false, by decide +kernel⟩⟩

/-- The hypotheses of RegisterMovesCopyBetweenFiles can be met, clause by clause. -/
theorem test_meets_registerMovesCopyBetweenFiles :
  (∃ s : State, ∃ r : Nat, ∃ g : Guard, ReadyNow s.dev r ∧ g.gp < 8 ∧ (seenNow s.dev r).guard g = true ∧ (seenNow s.dev r).ps.inRange ((seenNow s.dev r).bank.pc + 1) = true ∧ (∃ sd, ∃ ss, sd < 32 ∧ ss < 32)) ∧
  (∃ s : State, ∃ r : Nat, ∃ g : Guard, ReadyNow s.dev r ∧ g.gp < 8 ∧ (seenNow s.dev r).guard g = true ∧ (seenNow s.dev r).ps.inRange ((seenNow s.dev r).bank.pc + 1) = true ∧ (∃ ad, ∃ ss, ad < 16 ∧ ss < 32)) ∧
  (∃ s : State, ∃ r : Nat, ∃ g : Guard, ReadyNow s.dev r ∧ g.gp < 8 ∧ (seenNow s.dev r).guard g = true ∧ (seenNow s.dev r).ps.inRange ((seenNow s.dev r).bank.pc + 1) = true ∧ (∃ ad, ∃ imm, ad < 16 ∧ -2097152 ≤ imm ∧ imm < 2097152)) ∧
  (∃ s : State, ∃ r : Nat, ∃ g : Guard, ReadyNow s.dev r ∧ g.gp < 8 ∧ (seenNow s.dev r).guard g = true ∧ (seenNow s.dev r).ps.inRange ((seenNow s.dev r).bank.pc + 1) = true ∧ (∃ tn, ∃ as_, tn < 64 ∧ as_ < 16)) ∧
  (∃ s : State, ∃ r : Nat, ∃ g : Guard, ReadyNow s.dev r ∧ g.gp < 8 ∧ (seenNow s.dev r).guard g = true ∧ (seenNow s.dev r).ps.inRange ((seenNow s.dev r).bank.pc + 1) = true ∧ (let c := seenNow s.dev r;
    ∃ tn, ∃ fld, ∃ ss, tn < 64 ∧ fld < 10 ∧ ss < 32 ∧ c.s ss < 2 ^ (fldPlace fld).2)) ∧
  (∃ s : State, ∃ r : Nat, ∃ g : Guard, ReadyNow s.dev r ∧ g.gp < 8 ∧ (seenNow s.dev r).guard g = true ∧ (seenNow s.dev r).ps.inRange ((seenNow s.dev r).bank.pc + 1) = true ∧ (∃ ss, ss < 32)) ∧
  (∃ s : State, ∃ r : Nat, ∃ g : Guard, ReadyNow s.dev r ∧ g.gp < 8 ∧ (seenNow s.dev r).guard g = true ∧ (seenNow s.dev r).ps.inRange ((seenNow s.dev r).bank.pc + 1) = true ∧ (∃ qn, ∃ ss, qn < 16 ∧ ss < 32)) :=
  ⟨⟨dev (running [(1, 5), (2, 2^64-3), (3, 0x3f800000), (4, 0x40000000), (5, 2^25 + 5), (6, 40)] [(1, 4096), (2, 2^40 + 64), (3, 8192)] [(2, 2^255)] [(1, 2^127 + 9)] ∘ rdy), 0, { gp := 0, gn := false }, by dsimp only [ReadyNow, Ready]; decide +kernel, by decide +kernel, by decide +kernel, by decide +kernel, 31, 2, by decide +kernel⟩,
    ⟨dev (running [(1, 5), (2, 2^64-3), (3, 0x3f800000), (4, 0x40000000), (5, 2^25 + 5), (6, 40)] [(1, 4096), (2, 2^40 + 64), (3, 8192)] [(2, 2^255)] [(1, 2^127 + 9)] ∘ rdy), 0, { gp := 0, gn := false }, by dsimp only [ReadyNow, Ready]; decide +kernel, by decide +kernel, by decide +kernel, by decide +kernel, 2, 2, by decide +kernel⟩,
    ⟨dev (running [(1, 5), (2, 2^64-3), (3, 0x3f800000), (4, 0x40000000), (5, 2^25 + 5), (6, 40)] [(1, 4096), (2, 2^40 + 64), (3, 8192)] [(2, 2^255)] [(1, 2^127 + 9)] ∘ rdy), 0, { gp := 0, gn := false }, by dsimp only [ReadyNow, Ready]; decide +kernel, by decide +kernel, by decide +kernel, by decide +kernel, 2, (-2097152 : Int), by decide +kernel⟩,
    ⟨dev (running [(1, 5), (2, 2^64-3), (3, 0x3f800000), (4, 0x40000000), (5, 2^25 + 5), (6, 40)] [(1, 4096), (2, 2^40 + 64), (3, 8192)] [(2, 2^255)] [(1, 2^127 + 9)] ∘ rdy), 0, { gp := 0, gn := false }, by dsimp only [ReadyNow, Ready]; decide +kernel, by decide +kernel, by decide +kernel, by decide +kernel, 2, 2, by decide +kernel⟩,
    ⟨dev (running [(1, 5), (2, 2^64-3), (3, 0x3f800000), (4, 0x40000000), (5, 2^25 + 5), (6, 40)] [(1, 4096), (2, 2^40 + 64), (3, 8192)] [(2, 2^255)] [(1, 2^127 + 9)] ∘ rdy), 0, { gp := 0, gn := false }, by dsimp only [ReadyNow, Ready]; decide +kernel, by decide +kernel, by decide +kernel, by decide +kernel, 2, 3, 1, by decide +kernel⟩,
    ⟨dev (running [(1, 5), (2, 2^64-3), (3, 0x3f800000), (4, 0x40000000), (5, 2^25 + 5), (6, 40)] [(1, 4096), (2, 2^40 + 64), (3, 8192)] [(2, 2^255)] [(1, 2^127 + 9)] ∘ rdy), 0, { gp := 0, gn := false }, by dsimp only [ReadyNow, Ready]; decide +kernel, by decide +kernel, by decide +kernel, by decide +kernel, 2, by decide +kernel⟩,
    ⟨dev (running [(1, 5), (2, 2^64-3), (3, 0x3f800000), (4, 0x40000000), (5, 2^25 + 5), (6, 40)] [(1, 4096), (2, 2^40 + 64), (3, 8192)] [(2, 2^255)] [(1, 2^127 + 9)] ∘ rdy), 0, { gp := 0, gn := false }, by dsimp only [ReadyNow, Ready]; decide +kernel, by decide +kernel, by decide +kernel, by decide +kernel, 1, 2, by decide +kernel⟩⟩

/-- The hypotheses of ScratchLoadsAndStores can be met, clause by clause. -/
theorem test_meets_scratchLoadsAndStores :
  (∃ s : State, ∃ r : Nat, ∃ g : Guard, ∃ sd : Nat, ∃ as_ : Nat, ∃ off : Int, IssuesNow s.dev r g (.movL sd as_ off)) ∧
  (∃ s : State, ∃ r : Nat, ∃ g : Guard, ∃ ss : Nat, ∃ as_ : Nat, ∃ off : Int, IssuesNow s.dev r g (.movW ss as_ off)) ∧
  (∃ s : State, ∃ r : Nat, ∃ g : Guard, ∃ sd : Nat, ∃ beat : Bool, IssuesNow s.dev r g (.movSM sd beat)) :=
  ⟨⟨dev prog, 0, { gp := 0, gn := false }, 3, 1, 8, by dsimp only [IssuesNow, Ready]; decide +kernel⟩,
    ⟨dev prog, 0, { gp := 0, gn := false }, 1, 1, 8, by dsimp only [IssuesNow, Ready]; decide +kernel⟩,
    ⟨dev prog, 0, { gp := 0, gn := false }, 3, true, by dsimp only [IssuesNow, Ready]; decide +kernel⟩⟩

/-- The hypotheses of TransfersMoveBytesOnCompletion can be met, clause by clause. -/
theorem test_meets_transfersMoveBytesOnCompletion :
  (∃ s : State, ∃ r : Nat, ∃ g : Guard, ∃ td : Nat, ∃ ts : Nat, IssuesNow s.dev r g (.xferD td ts)) ∧
  (∃ s : State, ∃ r : Nat, ∃ g : Guard, ∃ ad : Nat, ∃ as_ : Nat, ∃ sl : Nat, IssuesNow s.dev r g (.xferB ad as_ sl)) ∧
  (∃ s : State, ∃ r : Nat, ∃ g : Guard, ∃ sk : Nat, ∃ ad : Nat, IssuesNow s.dev r g (.ctxGet sk ad)) ∧
  (∃ s : State, ∃ r : Nat, ∃ g : Guard, ∃ sk : Nat, ∃ as_ : Nat, ∃ del : Bool, IssuesNow s.dev r g (.ctxPut sk as_ del)) ∧
  (∃ s : State, ∃ r : Nat, ∃ id : Nat, ∃ x : Xfer, Runs s ∧ LocalXfer s.dev r id x ∧ (∃ ecc : Ecc, (ecc.bad = true ∨ x.poison ≠ []) ∧ (s.dev.region r).regs.st = .running)) ∧
  (∃ s : State, ∃ r : Nat, ∃ id : Nat, ∃ x : Xfer, Runs s ∧ LocalXfer s.dev r id x ∧ x.poison = [] ∧ (pushEvent (s.dev.region r).corrTimes s.dev.real 17).2 = false ∧ (∃ m : EccMem, m = .region ∨ m = .hbm)) ∧
  (∃ s : State, ∃ r : Nat, ∃ id : Nat, ∃ q : Nat, ∃ a : Nat, ∃ bs : List Byte, ∃ x : Xfer, Runs s ∧ (s.dev.region r).held = [] ∧ (s.dev.region r).xfers.find? (fun y => y.id = id) = some x ∧ x.writes = [(a, bs)] ∧ x.recs = [] ∧ x.poison = [] ∧ s.dev.remoteOf x.stream r (spaceOf a) = some q ∧ s.dev.mayComplete r x = false) ∧
  (∃ s : State, ∃ r : Nat, ∃ id : Nat, ∃ q : Nat, ∃ a : Nat, ∃ bs : List Byte, ∃ x : Xfer, Runs s ∧ (s.dev.region r).held = [] ∧ (s.dev.region r).xfers.find? (fun y => y.id = id) = some x ∧ x.writes = [(a, bs)] ∧ x.recs = [] ∧ x.poison = [] ∧ s.dev.remoteOf x.stream r (spaceOf a) = some q ∧ s.dev.mayComplete r x = true ∧ (s.dev.region q).regs.st ≠ .reset ∧ s.dev.dieLive (q / 6) = true ∧ (s.dev.region q).receives (offsetOf a) bs.length = true) :=
  ⟨⟨dev prog, 0, { gp := 0, gn := false }, 3, 2, by dsimp only [IssuesNow, Ready]; decide +kernel⟩,
    ⟨dev prog, 0, { gp := 0, gn := false }, 2, 1, 2, by dsimp only [IssuesNow, Ready]; decide +kernel⟩,
    ⟨dev prog, 0, { gp := 0, gn := false }, 1, 2, by dsimp only [IssuesNow, Ready]; decide +kernel⟩,
    ⟨dev prog, 0, { gp := 0, gn := false }, 1, 1, false, by dsimp only [IssuesNow, Ready]; decide +kernel⟩,
    ⟨dev (reg 0 (fun g => { g with xfers := [{ xfer0 with poison := [4096] }] }) ∘ prog), 0, 0, { xfer0 with poison := [4096] }, by decide +kernel, by dsimp only [LocalXfer]; decide +kernel, .clean, by decide +kernel⟩,
    ⟨dev (reg 0 (fun g => { g with xfers := [xfer0], corrTimes := List.replicate 15 0 }) ∘ prog), 0, 0, xfer0, by decide +kernel, by dsimp only [LocalXfer]; decide +kernel, by decide +kernel, by decide +kernel, .hbm, by decide +kernel⟩,
    ⟨dev (reg 0 (fun g => { g with xfers := [{ xfer0 with writes := [(0x41 * 2 ^ 40 + 128, [1])] }, { xfer0 with id := 1, writes := [(0x41 * 2 ^ 40 + 120, leBytes 8 9)] }] }) ∘ prog), 0, 1, 1, 0x41 * 2 ^ 40 + 120, leBytes 8 9, { xfer0 with id := 1, writes := [(0x41 * 2 ^ 40 + 120, leBytes 8 9)] }, by decide +kernel⟩,
    ⟨dev (reg 1 (fun g => { g with regs := { g.regs with st := .idle }, rxwin := [{ base := 1, size := 1, read := true, write := false }] }) ∘ reg 0 (fun g => { g with xfers := [{ xfer0 with id := 1, writes := [(0x41 * 2 ^ 40 + 120, leBytes 8 9)] }] }) ∘ prog), 0, 1, 1, 0x41 * 2 ^ 40 + 120, leBytes 8 9, { xfer0 with id := 1, writes := [(0x41 * 2 ^ 40 + 120, leBytes 8 9)] }, by decide +kernel⟩⟩

/-- The hypotheses of RemoteWritesNeedAReceiveWindow can be met, clause by clause. -/
theorem test_meets_remoteWritesNeedAReceiveWindow :
  (∃ s : State, ∃ r : Nat, ∃ off : Nat, ∃ bs : List Byte, Runs s ∧ r < 6 * s.dev.dieCount ∧
    (let ok : Prop := (s.dev.region r).regs.st ≠ .reset ∧ s.dev.dieLive (r / 6) = true ∧ off + bs.length ≤ szScratch ∧
      ∃ w, w ∈ (s.dev.region r).rxwin ∧ w.read = true ∧ w.base * 64 ≤ off ∧ off + bs.length ≤ (w.base + w.size) * 64;
    ok)) ∧
  (∃ s : State, ∃ r : Nat, ∃ off : Nat, ∃ bs : List Byte, Runs s ∧ r < 6 * s.dev.dieCount ∧
    (let ok : Prop := (s.dev.region r).regs.st ≠ .reset ∧ s.dev.dieLive (r / 6) = true ∧ off + bs.length ≤ szScratch ∧
      ∃ w, w ∈ (s.dev.region r).rxwin ∧ w.read = true ∧ w.base * 64 ≤ off ∧ off + bs.length ≤ (w.base + w.size) * 64;
    ¬ ok)) :=
  ⟨⟨dev (reg 47 (fun g => { g with regs := { g.regs with st := .idle }, rxwin := [{ base := 1, size := 1, read := true, write := false }] }) ∘ rdy), 47, 120, leBytes 8 7, by decide +kernel, by decide +kernel, by decide +kernel⟩,
    ⟨dev (reg 47 (fun g => { g with regs := { g.regs with st := .idle }, rxwin := [{ base := 1, size := 1, read := true, write := false }] }) ∘ rdy), 47, 121, leBytes 8 7, by decide +kernel, by decide +kernel, by decide +kernel⟩⟩

/-- The hypotheses of SendAndEgressLeaveTheRegion can be met, clause by clause. -/
theorem test_meets_sendAndEgressLeaveTheRegion :
  (∃ s : State, ∃ r : Nat, ∃ g : Guard, ∃ ts : Nat, ∃ ch : Nat, IssuesNow s.dev r g (.send ts ch) ∧
    (let c := seen s.dev r g (.send ts ch);
    ∃ x : Nat × Nat × Nat × Nat, s.dev.channelOf c.stream ch = some x)) ∧
  (∃ s : State, ∃ r : Nat, ∃ g : Guard, ∃ ts : Nat, ∃ sm : Nat, IssuesNow s.dev r g (.egress ts sm)) ∧
  (∃ s : State, ∃ r : Nat, ∃ n : Nat, ∃ k : Nat, ∃ st : Nat, Runs s ∧
    (s.dev.region r).groups.find? (fun e => e.1 = st) = some (st, n, k)) :=
  ⟨⟨dev prog, 0, { gp := 0, gn := false }, 2, 0, by dsimp only [IssuesNow, Ready]; decide +kernel, (0, 77, 0, 0), by decide +kernel⟩,
    ⟨dev prog, 0, { gp := 0, gn := false }, 14, 5, by dsimp only [IssuesNow, Ready]; decide +kernel⟩,
    ⟨dev (reg 0 (fun g => { g with groups := [(1, 4, 2)] }) ∘ (fun d => { d with adm := { d.adm with groups := [⟨1, 0, 4, false, some 0⟩] } }) ∘ prog), 0, 4, 2, 1, by decide +kernel⟩⟩

/-- The hypotheses of TileInstructionsUseTheNamedTile can be met, clause by clause. -/
theorem test_meets_tileInstructionsUseTheNamedTile :
  (∃ s : State, ∃ r : Nat, ∃ g : Guard, ∃ rc : Nat, ∃ ts : Nat, ∃ td : Nat, ∃ pm : Nat, ∃ p : Nat,
    IssuesNow s.dev r g (.tileMvm rc ts td pm) ∧ (let c := seen s.dev r g (.tileMvm rc ts td pm);
    let w := c.s rc;
    s.dev.physOf (rcTile r w) = some p)) ∧
  (∃ s : State, ∃ r : Nat, ∃ g : Guard, ∃ rc : Nat, ∃ ts : Nat, ∃ rm : Nat, ∃ p : Nat,
    IssuesNow s.dev r g (.tileLoad rc ts rm) ∧ (let c := seen s.dev r g (.tileLoad rc ts rm);
    let w := c.s rc;
    s.dev.physOf (rcTile r w) = some p)) ∧
  (∃ s : State, ∃ r : Nat, ∃ g : Guard, ∃ rc : Nat, ∃ td : Nat, ∃ pm : Nat, IssuesNow s.dev r g (.tileRead rc td pm)) ∧
  (∃ s : State, ∃ r : Nat, ∃ g : Guard, ∃ rc : Nat, ∃ pd : Nat, ∃ sd : Nat, IssuesNow s.dev r g (.tileChk rc pd sd)) ∧
  (∃ s : State, ∃ r : Nat, ∃ g : Guard, ∃ rc : Nat, ∃ p : Nat, IssuesNow s.dev r g (.tileSight rc) ∧
    (let c := seen s.dev r g (.tileSight rc);
    let w := c.s rc;
    s.dev.physOf (rcTile r w) = some p)) :=
  ⟨⟨dev prog, 0, { gp := 0, gn := false }, 7, 1, 13, 1, 2, by dsimp only [IssuesNow, Ready]; decide +kernel, by decide +kernel⟩,
    ⟨dev prog, 0, { gp := 0, gn := false }, 7, 1, 3, 2, by dsimp only [IssuesNow, Ready]; decide +kernel, by decide +kernel⟩,
    ⟨dev fun d => (prog d).updCluster 0 fun c => { c with holds := [(2, hold0)] }, 0, { gp := 0, gn := false }, 7, 13, 1, by dsimp only [IssuesNow, Ready]; decide +kernel⟩,
    ⟨dev fun d => (prog d).updCluster 0 fun c => { c with failCounts := [(513, 4)] }, 0, { gp := 0, gn := false }, 7, 1, 1, by dsimp only [IssuesNow, Ready]; decide +kernel⟩,
    ⟨dev prog, 0, { gp := 0, gn := false }, 7, 2, by dsimp only [IssuesNow, Ready]; decide +kernel, by decide +kernel⟩⟩

/-- The hypotheses of VectorResultsRoundOnce can be met, clause by clause. -/
theorem test_meets_vectorResultsRoundOnce :
  (∃ s : State, ∃ r : Nat, ∃ g : Guard, memWf (s.dev.region r).scratch = true ∧ (∃ ta : Nat, ∃ tb : Nat, ∃ td : Nat,
    ∃ bc : Bool, ∃ sub : Bool, IssuesNow s.dev r g (.vadd ta tb td bc sub) ∧ (let c := seen s.dev r g (.vadd ta tb td bc sub);
    let a := c.desc ta;
    let b := c.desc tb;
    let x := c.desc td;
    s.dev.recordsOk c a (List.range a.count) = true ∧ s.dev.recordsOk c b (List.range b.count) = true ∧ a.fmt ≠ fY24 ∧
      RecordsApart c x))) ∧
  (∃ s : State, ∃ r : Nat, ∃ g : Guard, memWf (s.dev.region r).scratch = true ∧ (∃ ta : Nat, ∃ tb : Nat, ∃ td : Nat,
    ∃ bc : Bool, IssuesNow s.dev r g (.vmul ta tb td bc) ∧ (let c := seen s.dev r g (.vmul ta tb td bc);
    let a := c.desc ta;
    let b := c.desc tb;
    let x := c.desc td;
    s.dev.recordsOk c a (List.range a.count) = true ∧ s.dev.recordsOk c b (List.range b.count) = true ∧ RecordsApart c x))) ∧
  (∃ s : State, ∃ r : Nat, ∃ g : Guard, memWf (s.dev.region r).scratch = true ∧ (∃ ts : Nat, ∃ td : Nat, ∃ tbl : Nat,
    ∃ fn : Nat, ∃ rs : Nat, IssuesNow s.dev r g (.vact ts td tbl fn rs) ∧ (let c := seen s.dev r g (.vact ts td tbl fn rs);
    let a := c.desc ts;
    let x := c.desc td;
    s.dev.recordsOk c a (List.range a.count) = true ∧ RecordsApart c x))) ∧
  (∃ s : State, ∃ r : Nat, ∃ g : Guard, memWf (s.dev.region r).scratch = true ∧ (∃ ta : Nat, ∃ tb : Nat, ∃ td : Nat,
    IssuesNow s.dev r g (.vmm ta tb td) ∧ (let c := seen s.dev r g (.vmm ta tb td);
    let a := c.desc ta;
    let b := c.desc tb;
    let x := c.desc td;
    s.dev.recordsOk c a (List.range a.count) = true ∧ s.dev.recordsOk c b [0] = true ∧ dmuClass a.fmt = some 0 ∧
      RecordsApart c x))) ∧
  (∃ s : State, ∃ r : Nat, ∃ g : Guard, memWf (s.dev.region r).scratch = true ∧ (∃ ts : Nat, ∃ td : Nat, ∃ rc : Nat,
    IssuesNow s.dev r g (.dq ts td rc) ∧ (let c := seen s.dev r g (.dq ts td rc);
    let a := c.desc ts;
    let x := c.desc td;
    s.dev.recordsOk c a (List.range a.count) = true ∧ a.fmt ≤ fS8 ∧ RecordsApart c x))) ∧
  (∃ s : State, ∃ r : Nat, ∃ g : Guard, memWf (s.dev.region r).scratch = true ∧ (∃ ts : Nat, ∃ td : Nat, ∃ pm : Nat,
    IssuesNow s.dev r g (.qconv ts td pm) ∧ (let c := seen s.dev r g (.qconv ts td pm);
    let a := c.desc ts;
    let x := c.desc td;
    let q := c.q x.qset;
    s.dev.recordsOk c a (List.range a.count) = true ∧ qStatic q = false ∧ (∀ t,
      t < a.count → recOk q (s.dev.record c x t) = true) ∧ qFmt q ≤ fS8 ∧ RecordsApart c x))) :=
  ⟨⟨dev vecs, 0, { gp := 0, gn := false }, by decide +kernel, 2, 3, 6, false, true, by dsimp only [IssuesNow, Ready]; decide +kernel, by dsimp only [RecordsApart]; decide +kernel⟩,
    ⟨dev vecs, 0, { gp := 0, gn := false }, by decide +kernel, 2, 3, 6, false, by dsimp only [IssuesNow, Ready]; decide +kernel, by dsimp only [RecordsApart]; decide +kernel⟩,
    ⟨dev vecs, 0, { gp := 0, gn := false }, by decide +kernel, 2, 6, 0, 2, 6, by dsimp only [IssuesNow, Ready]; decide +kernel, by dsimp only [RecordsApart]; decide +kernel⟩,
    ⟨dev vecs, 0, { gp := 0, gn := false }, by decide +kernel, 1, 4, 14, by dsimp only [IssuesNow, Ready]; decide +kernel, by dsimp only [RecordsApart]; decide +kernel⟩,
    ⟨dev vecs, 0, { gp := 0, gn := false }, by decide +kernel, 1, 15, 7, by dsimp only [IssuesNow, Ready]; decide +kernel, by dsimp only [RecordsApart]; decide +kernel⟩,
    ⟨dev vecs, 0, { gp := 0, gn := false }, by decide +kernel, 2, 10, 1, by dsimp only [IssuesNow, Ready]; decide +kernel, by dsimp only [RecordsApart]; decide +kernel⟩⟩

/-- Every vector instruction can issue now: the one premise of VectorInstructionsTouchOnlyTheirDestinations. -/
theorem test_meets_vectorInstructionsTouchOnlyTheirDestinations :
    (let now (op : SlotOp) : Prop := IssuesNow (dev prog).dev 0 guard0 op
     (now (.vmm 1 4 14) ∧ now (.vmmE 2 12 14 7) ∧ now (.vadd 2 3 6 false true) ∧ now (.vmul 2 3 6 false)) ∧
     (now (.vact 2 6 0 3 6) ∧ now (.vsmax 2 6) ∧ now (.vnormL 2 6 3 9) ∧ now (.vnormR 2 6 7 9)) ∧
     (now (.vadapt 8 9 10 true 7) ∧ now (.qscan 2 10) ∧ now (.qconv 2 10 1) ∧ now (.dq 1 15 7))) := by
  dsimp only [IssuesNow, Ready]
  refine ⟨⟨?_, ?_, ?_, ?_⟩, ⟨?_, ?_, ?_, ?_⟩, ⟨?_, ?_, ?_, ?_⟩⟩ <;> decide +kernel

/-- The hypotheses of CorrectedIsCounted and UncorrectableTraps can be met: a load and a fetch with 15 corrected errors in the
last second, a NOP of a bundle, and the error of a product with no other late cause. -/
theorem test_meets_errorClauses :
  (∃ s : State, ∃ r : Nat, ∃ g : Guard, ∃ sd : Nat, ∃ as_ : Nat, ∃ off : Int, IssuesNow s.dev r g (.movL sd as_ off) ∧
    (pushEvent (s.dev.region r).corrTimes s.dev.real 17).2 = false) ∧
  (∃ s : State, ∃ r : Nat, Ready s.dev r ∧ (let c := seenNow s.dev r; c.ps.inRange (c.bank.pc + 1) = true) ∧
    (pushEvent (s.dev.region r).corrTimes s.dev.real 17).2 = false) ∧
  (∃ s : State, ∃ r : Nat, ∃ g : Guard, ∃ ta : Nat, ∃ tb : Nat, ∃ dst : Nat,
    IssuesNow s.dev r g (.vmm ta tb dst) ∧ (s.dev.runV (seen s.dev r g (.vmm ta tb dst)) (.vmm ta tb dst)).late = none ∧
    (pushEvent (s.dev.region r).corrTimes s.dev.real 17).2 = false) :=
  ⟨⟨dev (reg 0 (fun g => { g with corrTimes := List.replicate 15 0 }) ∘ prog), 0, { gp := 0, gn := false }, 3, 1, 8,
      by dsimp only [IssuesNow, Ready]; decide +kernel⟩,
    ⟨dev (reg 0 (fun g => { g with corrTimes := List.replicate 15 0 }) ∘ prog), 0, by dsimp only [Ready]; decide +kernel,
      by decide +kernel, by decide +kernel⟩,
    ⟨dev vecs, 0, { gp := 0, gn := false }, 1, 4, 14, by dsimp only [IssuesNow, Ready]; decide +kernel, by decide +kernel,
      by decide +kernel⟩⟩

/-- The hypotheses of StatisticsAndLatchesOfARegion can be met, clause by clause. -/
theorem test_meets_statisticsAndLatchesOfARegion :
  (∃ s : State, ∃ who : Nat, ∃ r : Nat, ∃ slot : Nat, ∃ v : Nat, Runs s ∧ MayWrite s.dev who .maintainer ∧
    s.dev.dieAccess (r / 6) = stOK ∧ slot < 64 ∧ bits v 30 24 = 0) ∧
  (∃ s : State, ∃ who : Nat, ∃ r : Nat, ∃ slot : Nat, ∃ k : Nat, Runs s ∧ MayRead s.dev who .observer ∧
    s.dev.dieAccess (r / 6) = stOK ∧ slot < 64 ∧ k < 3) ∧
  (∃ s : State, ∃ n : Nat, ∃ r : Nat, Runs s ∧ (∃ p, p ∈ (s.dev.stream n).programs ∧ p.region = r)) :=
  ⟨⟨dev (reg 5 (fun g => { g with stats := [(63, { StatSlot.reset with conv := 2^33+1, errSum := 2^40+2, sigSum := 2^41+3 })], dmu := { g.dmu with busyCycles := 2^33 + 7, escPriced := [(1, 50)], escSpent := [1] }, regs := { g.regs with trapMer := 2^35+4 } }) ∘ strm 1 (fun x => { x with st := .active, programs := [⟨5, 0, 0, 64, 50, [], []⟩] }) ∘ rdy), 0, 5, 63, 2^31+77, by decide +kernel⟩,
    ⟨dev (reg 5 (fun g => { g with stats := [(63, { StatSlot.reset with conv := 2^33+1, errSum := 2^40+2, sigSum := 2^41+3 })], dmu := { g.dmu with busyCycles := 2^33 + 7, escPriced := [(1, 50)], escSpent := [1] }, regs := { g.regs with trapMer := 2^35+4 } }) ∘ strm 1 (fun x => { x with st := .active, programs := [⟨5, 0, 0, 64, 50, [], []⟩] }) ∘ rdy), 0, 5, 63, 2, by decide +kernel⟩,
    ⟨dev (reg 5 (fun g => { g with stats := [(63, { StatSlot.reset with conv := 2^33+1, errSum := 2^40+2, sigSum := 2^41+3 })], dmu := { g.dmu with busyCycles := 2^33 + 7, escPriced := [(1, 50)], escSpent := [1] }, regs := { g.regs with trapMer := 2^35+4 } }) ∘ strm 1 (fun x => { x with st := .active, programs := [⟨5, 0, 0, 64, 50, [], []⟩] }) ∘ rdy), 1, 5, by decide +kernel⟩⟩

/-- The hypotheses of RegionResetClearsTheRegion can be met, clause by clause. -/
theorem test_meets_regionResetClearsTheRegion :
  (∃ s : State, ∃ r : Nat, Runs s ∧ r < 6 * s.dev.dieCount ∧ s.dev.widerReset (r / 6) = false ∧ (s.dev.region r).staged = []) ∧
  (∃ s : State, ∃ r : Nat, Runs s ∧ r < 6 * s.dev.dieCount ∧ s.dev.widerReset (r / 6) = false ∧ (s.dev.region r).staged ≠ []) ∧
  (∃ s : State, ∃ r : Nat, Runs s ∧ (s.dev.region r).resetAsked = true) ∧
  (∃ s : State, ∃ r : Nat, Runs s ∧ r < 6 * s.dev.dieCount ∧ s.dev.widerReset (r / 6) = true) :=
  ⟨⟨dev (reg 7 (fun g => { g with regs := { g.regs with st := .running }, microcode := true, scratch := [(1, 2)], arch := [(0, Bank.reset)], active := true, held := [] }) ∘ (fun d => { d with dies := [(1, { Die.reset with dm := .inService })] }) ∘ rdy), 7, by decide +kernel⟩,
    ⟨dev (reg 7 (fun g => { g with regs := { g.regs with st := .running }, microcode := true, scratch := [(1, 2)], arch := [(0, Bank.reset)], active := true, staged := [⟨⟨0, false⟩, .nop, .clean⟩] }) ∘ (fun d => { d with dies := [(1, { Die.reset with dm := .inService })] }) ∘ rdy), 7, by decide +kernel⟩,
    ⟨dev (reg 7 (fun g => { g with regs := { g.regs with st := .running }, microcode := true, scratch := [(1, 2)], arch := [(0, Bank.reset)], active := true, staged := [⟨⟨0, false⟩, .nop, .clean⟩], resetAsked := true }) ∘ (fun d => { d with dies := [(1, { Die.reset with dm := .inService })] }) ∘ rdy), 7, by decide +kernel⟩,
    ⟨dev (reg 7 (fun g => { g with regs := { g.regs with st := .running }, microcode := true, scratch := [(1, 2)], arch := [(0, Bank.reset)], active := true, held := [] }) ∘ rdy), 7, by decide +kernel⟩⟩

/-- The hypotheses of ActivationStartBeginsTheProgram can be met, clause by clause. -/
theorem test_meets_activationStartBeginsTheProgram :
  (∃ s : State, ∃ start : Nat, Runs s ∧ s.dev.clk.now < start) ∧
  (∃ s : State, ∃ r : Nat, ∃ slot : Nat, ∃ start : Nat, Runs s ∧ r < 6 * s.dev.dieCount ∧ start ≤ s.dev.clk.now ∧ (tget ProgSlot.reset (s.dev.region r).ps slot).st = .valid ∧ (s.dev.region r).lost = false ∧ (s.dev.region r).regs.st = .idle) ∧
  (∃ s : State, ∃ r : Nat, ∃ slot : Nat, ∃ start : Nat, Runs s ∧ r < 6 * s.dev.dieCount ∧ start ≤ s.dev.clk.now ∧ (tget ProgSlot.reset (s.dev.region r).ps slot).st = .valid ∧ (s.dev.region r).lost = false ∧ (s.dev.region r).regs.st = .running) ∧
  (∃ s : State, ∃ r : Nat, ∃ slot : Nat, ∃ start : Nat, Runs s ∧ r < 6 * s.dev.dieCount ∧ start ≤ s.dev.clk.now ∧ (tget ProgSlot.reset (s.dev.region r).ps slot).st = .valid ∧ (s.dev.region r).lost = false ∧ (s.dev.region r).regs.st = .halted) ∧
  (∃ s : State, ∃ r : Nat, ∃ slot : Nat, ∃ start : Nat, Runs s ∧ r < 6 * s.dev.dieCount ∧ start ≤ s.dev.clk.now ∧ ((tget ProgSlot.reset (s.dev.region r).ps slot).st ≠ .valid ∨ (s.dev.region r).lost = true ∨ (s.dev.region r).regs.st = .reset ∨ (s.dev.region r).regs.st = .quarantined)) :=
  ⟨⟨dev (reg 7 (fun g => { g with regs := { g.regs with st := .idle }, ps := [(3, { ProgSlot.reset with st := .valid, base := 100, len := 64 })], arch := [(3, { Bank.reset with loop := [(1, 2)], ret := [5] })], held := [] }) ∘ rdy), 9, by decide +kernel⟩,
    ⟨dev (reg 7 (fun g => { g with regs := { g.regs with st := .idle }, ps := [(3, { ProgSlot.reset with st := .valid, base := 100, len := 64 })], arch := [(3, { Bank.reset with loop := [(1, 2)], ret := [5] })], held := [] }) ∘ rdy), 7, 3, 0, by decide +kernel⟩,
    ⟨dev (reg 7 (fun g => { g with regs := { g.regs with st := .running }, ps := [(3, { ProgSlot.reset with st := .valid, base := 100, len := 64 })], arch := [(3, { Bank.reset with loop := [(1, 2)], ret := [5] })], active := true, cyc := 50 }) ∘ rdy), 7, 3, 0, by decide +kernel⟩,
    ⟨dev (reg 7 (fun g => { g with regs := { g.regs with st := .halted }, ps := [(3, { ProgSlot.reset with st := .valid, base := 100, len := 64 })], arch := [(3, { Bank.reset with loop := [(1, 2)], ret := [5] })], active := true }) ∘ rdy), 7, 3, 0, by decide +kernel⟩,
    ⟨dev (reg 7 (fun g => { g with regs := { g.regs with st := .idle }, ps := [(3, { ProgSlot.reset with st := .valid, base := 100, len := 64 })], arch := [(3, { Bank.reset with loop := [(1, 2)], ret := [5] })], held := [] }) ∘ rdy), 7, 2, 0, by decide +kernel⟩⟩

/-- The hypotheses of TrapsHaltAndSeqCtrlActs can be met, clause by clause. -/
theorem test_meets_trapsHaltAndSeqCtrlActs :
  (∃ s : State, ∃ r : Nat, Runs s ∧ (s.dev.region r).regs.st = .running ∧ (s.dev.region r).stalls ≠ [] ∧ s.dev.stallBound r < s.dev.nowCycle - (s.dev.region r).heldAt) ∧
  (∃ s : State, ∃ r : Nat, ∃ code : Nat, Runs s ∧ (s.dev.region r).regs.st = .running ∧ code ≠ 0x01 ∧ code ≠ 0x0B ∧ code ≠ 0x0C) ∧
  (∃ s : State, ∃ r : Nat, Runs s ∧ ((s.dev.region r).regs.st = .yielded ∨ (s.dev.region r).regs.st = .halted)) ∧
  (∃ s : State, ∃ r : Nat, Runs s ∧ (s.dev.region r).regs.st = .halted ∧ (let end_ := ofMer (s.dev.region r).regs.trapMer + usTc (s.dev.region r).regs.trapTimeout;
    end_ ≤ s.dev.clk.now)) ∧
  (∃ s : State, ∃ r : Nat, Runs s ∧ (s.dev.region r).regs.st = .halted ∧ (let end_ := ofMer (s.dev.region r).regs.trapMer + usTc (s.dev.region r).regs.trapTimeout;
    s.dev.clk.now < end_)) ∧
  (∃ s : State, ∃ who : Nat, ∃ r : Nat, Runs s ∧ MayWrite s.dev who .owner ∧ s.dev.dieAccess (r / 6) = stOK ∧ (s.dev.region r).regs.st = .running) ∧
  (∃ s : State, ∃ who : Nat, ∃ r : Nat, Runs s ∧ MayWrite s.dev who .owner ∧ s.dev.dieAccess (r / 6) = stOK ∧ (s.dev.region r).regs.st = .yielded) ∧
  (∃ s : State, ∃ who : Nat, ∃ r : Nat, Runs s ∧ MayWrite s.dev who .owner ∧ s.dev.dieAccess (r / 6) = stOK ∧ (s.dev.region r).regs.st = .idle) ∧
  (∃ s : State, ∃ who : Nat, ∃ r : Nat, Runs s ∧ MayWrite s.dev who .owner ∧ s.dev.dieAccess (r / 6) = stOK ∧ (s.dev.region r).regs.st = .halted ∧ (s.dev.region r).active = true ∧ (s.dev.region r).wait = none ∧ (s.dev.region r).lateTraps = [] ∧ (s.dev.region r).haltAsked = false ∧ (s.dev.region r).kept = []) ∧
  (∃ s : State, ∃ who : Nat, ∃ r : Nat, Runs s ∧ MayWrite s.dev who .owner ∧ s.dev.dieAccess (r / 6) = stOK ∧ (s.dev.region r).regs.st = .halted ∧ (s.dev.region r).active = false ∧ (s.dev.region r).kept = []) ∧
  (∃ s : State, ∃ who : Nat, ∃ r : Nat, Runs s ∧ MayWrite s.dev who .owner ∧ s.dev.dieAccess (r / 6) = stOK ∧ ((s.dev.region r).regs.st = .halted ∨ (s.dev.region r).regs.st = .idle)) ∧
  (∃ s : State, ∃ who : Nat, ∃ r : Nat, Runs s ∧ MayWrite s.dev who .owner ∧ s.dev.dieAccess (r / 6) = stOK ∧ (s.dev.region r).regs.st = .quarantined) ∧
  (∃ s : State, ∃ who : Nat, ∃ r : Nat, Runs s ∧ MaySend s.dev who cmdRegWrite .owner ∧ s.dev.dieAccess (r / 6) = stOK ∧ (s.dev.region r).regs.st = .reset) ∧
  (∃ s : State, ∃ r : Nat, Runs s ∧ (s.dev.region r).active = true ∧ (s.dev.region r).gapSeen = false ∧ 1250000 < s.dev.gapNow r) :=
  ⟨⟨dev (reg 7 (fun g => { g with regs := { g.regs with st := .running, resumePc := 9 }, active := true, held := [[⟨⟨0, false⟩, .nop, .clean⟩]], stalls := [.tile] }) ∘ rdy ∘ fun d => { d with clk := { d.clk with cycles := 100 } }), 7, by decide +kernel⟩,
    ⟨dev (reg 7 (fun g => { g with regs := { g.regs with st := .running, resumePc := 9 }, active := true }) ∘ rdy), 7, 2, by decide +kernel⟩,
    ⟨dev (reg 7 (fun g => { g with regs := { g.regs with st := .yielded, resumePc := 9 }, active := true }) ∘ rdy), 7, by decide +kernel⟩,
    ⟨dev (reg 7 (fun g => { g with regs := { g.regs with st := .halted, resumePc := 9 }, active := false }) ∘ rdy ∘ inFrame 1000000), 7, by decide +kernel, by decide +kernel, by decide +kernel⟩,
    ⟨dev (reg 7 (fun g => { g with regs := { g.regs with st := .halted, resumePc := 9 }, active := false }) ∘ rdy), 7, by decide +kernel, by decide +kernel, by decide +kernel⟩,
    ⟨dev (reg 7 (fun g => { g with regs := { g.regs with st := .running, resumePc := 9 }, active := true }) ∘ rdy), 0, 7, by decide +kernel⟩,
    ⟨dev (reg 7 (fun g => { g with regs := { g.regs with st := .yielded, resumePc := 9 }, active := true }) ∘ rdy), 0, 7, by decide +kernel⟩,
    ⟨dev (reg 7 (fun g => { g with regs := { g.regs with st := .idle, resumePc := 9 }, active := true }) ∘ rdy), 0, 7, by decide +kernel⟩,
    ⟨dev (reg 7 (fun g => { g with regs := { g.regs with st := .halted, resumePc := 9 }, active := true }) ∘ rdy), 0, 7, by decide +kernel⟩,
    ⟨dev (reg 7 (fun g => { g with regs := { g.regs with st := .halted, resumePc := 9 }, active := false }) ∘ rdy), 0, 7, by decide +kernel⟩,
    ⟨dev (reg 7 (fun g => { g with regs := { g.regs with st := .idle, resumePc := 9 }, active := true }) ∘ rdy), 0, 7, by decide +kernel⟩,
    ⟨dev (reg 7 (fun g => { g with regs := { g.regs with st := .quarantined, resumePc := 9 }, active := true }) ∘ rdy), 0, 7, by decide +kernel⟩,
    ⟨dev (reg 7 (fun g => { g with regs := { g.regs with st := .reset, resumePc := 9 }, active := true }) ∘ rdy), 0, 7, by decide +kernel⟩,
    ⟨dev (reg 7 (fun g => { g with regs := { g.regs with st := .running, resumePc := 9 }, active := true, sinceYield := 7 }) ∘ rdy ∘ fun d => { d with clk := { d.clk with cycles := 500000 } }), 7, by decide +kernel⟩⟩

/-- The hypotheses of TestsRunInTheirRegion can be met, clause by clause. -/
theorem test_meets_testsRunInTheirRegion :
  (∃ s : State, ∃ r : Nat, ∃ code : Nat, ∃ part : Nat, Runs s ∧ r < 6 * s.dev.dieCount ∧ r < 48 ∧ 5 ≤ code ∧ code ≤ 8 ∧ ((s.dev.region r).tests.any fun t => t.unit = unitRegion r && t.code = code && t.part = part) = false) ∧
  (∃ s : State, ∃ r : Nat, ∃ t : TestEntry, ∃ rest : List TestEntry, Runs s ∧ (s.dev.region r).tests = t :: rest ∧ (let room : Prop := ((s.dev.region r).regs.st = .idle ∧ ∀ x, x ∈ s.dev.startsIn r → s.dev.clk.now + usTc (t.len + 2) ≤ x) ∨
      ((s.dev.region r).regs.st = .running ∧ (s.dev.region r).wait.isSome = true ∧ t.len + 2 ≤ s.dev.waitRoom r);
    room)) ∧
  (∃ s : State, ∃ r : Nat, ∃ t : TestEntry, ∃ rest : List TestEntry, Runs s ∧ (s.dev.region r).tests = t :: rest ∧ (let room : Prop := ((s.dev.region r).regs.st = .idle ∧ ∀ x, x ∈ s.dev.startsIn r → s.dev.clk.now + usTc (t.len + 2) ≤ x) ∨
      ((s.dev.region r).regs.st = .running ∧ (s.dev.region r).wait.isSome = true ∧ t.len + 2 ≤ s.dev.waitRoom r);
    ¬ room)) ∧
  (∃ s : State, ∃ r : Nat, ∃ t : TestEntry, Runs s ∧ (s.dev.region r).running = some t ∧ (s.dev.region r).regs.st = .yielded ∧ (s.dev.region r).active = false ∧ (partOnly t.code t.part = true) ∧ (s.dev.region r).lateTraps = [] ∧ (s.dev.region r).haltAsked = false) ∧
  (∃ s : State, ∃ r : Nat, ∃ t : TestEntry, Runs s ∧ (s.dev.region r).running = some t ∧ (s.dev.region r).regs.st = .yielded ∧ (s.dev.region r).active = false ∧ partOnly t.code t.part = false ∧ unitLevel t.unit = 2 ∧ testRegion t.unit = r) ∧
  (∃ s : State, ∃ r : Nat, Runs s ∧ (s.dev.region r).regs.st = .yielded ∧ (s.dev.region r).yieldedFrom = true ∧ (s.dev.region r).active = true ∧ (s.dev.region r).held = [] ∧ (s.dev.region r).lateTraps = [] ∧ (s.dev.region r).haltAsked = false ∧ (s.dev.region r).offerEnd ≤ s.dev.real) ∧
  (∃ s : State, ∃ r : Nat, Runs s ∧ s.dev.real < (s.dev.region r).offerEnd) ∧
  (∃ s : State, ∃ r : Nat, ∃ i : Nat, ∃ t : TestEntry, Runs s ∧ (s.dev.region r).tests[i]? = some t ∧ t.overdue = false ∧ s.dev.pastHold r t = true) ∧
  (∃ s : State, ∃ r : Nat, ∃ i : Nat, ∃ t : TestEntry, Runs s ∧ (s.dev.region r).tests[i]? = some t ∧ t.overdue = false ∧ s.dev.pastHold r t = false) ∧
  (∃ s : State, ∃ r : Nat, Runs s ∧ r < 6 * s.dev.dieCount ∧ r < 48 ∧ s.dev.regionPeriodOver r = true ∧ (s.dev.region r).setFull = false) ∧
  (∃ s : State, ∃ r : Nat, Runs s ∧ r < 6 * s.dev.dieCount ∧ r < 48 ∧ s.dev.regionPeriodOver r = true ∧ (s.dev.region r).setFull = true) ∧
  (∃ s : State, ∃ r : Nat, Runs s ∧ r < 6 * s.dev.dieCount ∧ r < 48 ∧ s.dev.regionPeriodOver r = false) ∧
  (∃ s : State, ∃ u : Nat, Runs s ∧ unitLevel u = 0 ∧ s.dev.tilePeriodOver (unitPtOf u) = false) :=
  ⟨⟨dev rdy, 7, 8, 0, by decide +kernel⟩,
    ⟨dev (reg 7 (fun g => { g with tests := [test0], regs := { g.regs with st := .idle } }) ∘ rdy), 7, test0, [], by decide +kernel, by decide +kernel, by decide +kernel⟩,
    ⟨dev (reg 7 (fun g => { g with tests := [test0], regs := { g.regs with st := .running }, wait := some (.until_ 1966080) }) ∘ rdy), 7, test0, [], by decide +kernel, by decide +kernel, by decide +kernel⟩,
    ⟨dev (reg 7 (fun g => { g with running := some { test0 with code := 3, part := 31 }, regs := { g.regs with st := .yielded } }) ∘ rdy), 7, { test0 with code := 3, part := 31 }, by decide +kernel⟩,
    ⟨dev (reg 7 (fun g => { g with running := some { test0 with code := 5, unit := unitRegion 7 }, regs := { g.regs with st := .yielded } }) ∘ rdy), 7, { test0 with code := 5, unit := unitRegion 7 }, by decide +kernel⟩,
    ⟨dev (reg 7 (fun g => { g with running := some test0, active := true, yieldedFrom := true, regs := { g.regs with st := .yielded } }) ∘ rdy), 7, by decide +kernel⟩,
    ⟨dev (reg 7 (fun g => { g with running := some test0, active := true, yieldedFrom := true, offerEnd := 9, regs := { g.regs with st := .yielded } }) ∘ rdy), 7, by decide +kernel⟩,
    ⟨dev (reg 7 (fun g => { g with tests := [test0], ps := [(0, { ProgSlot.reset with st := .valid, hold := 10 })] }) ∘ rdy ∘ fun d => { d with clk := { d.clk with cycles := 100000 } }), 7, 0, test0, by decide +kernel⟩,
    ⟨dev (reg 7 (fun g => { g with tests := [test0] }) ∘ rdy), 7, 0, test0, by decide +kernel⟩,
    ⟨dev (reg 7 (fun g => { g with setDone := [testKey 6 0] }) ∘ rdy ∘ late), 7, by decide +kernel⟩,
    ⟨dev (reg 7 (fun g => { g with setFull := true }) ∘ rdy ∘ late), 7, by decide +kernel⟩,
    ⟨dev rdy, 7, by decide +kernel⟩,
    ⟨dev rdy, unitPt 3, by decide +kernel⟩⟩

/-- The hypotheses of EgressDataTakesALedgerEntry can be met, clause by clause. -/
theorem test_meets_egressDataTakesALedgerEntry :
  (∃ s : State, ∃ r : Nat, ∃ p : EgressPacket, Runs s ∧ s.dev.fab.egress.find? (fun p => p.region = r) = some p ∧ (∃ k, s.dev.dieLive (r / 6) = true ∧ (s.dev.stream p.frame.stream).slotAt p.instant = some k ∧ s.dev.clk.since ≤ p.instant)) ∧
  (∃ s : State, ∃ r : Nat, ∃ p : EgressPacket, Runs s ∧ s.dev.fab.egress.find? (fun p => p.region = r) = some p ∧ (∃ k, s.dev.dieLive (r / 6) = true ∧ (s.dev.stream p.frame.stream).slotAt p.instant = some k ∧ p.instant < s.dev.clk.since)) ∧
  (∃ s : State, ∃ r : Nat, ∃ p : EgressPacket, Runs s ∧ s.dev.fab.egress.find? (fun p => p.region = r) = some p ∧ s.dev.dieLive (r / 6) = true ∧ (s.dev.stream p.frame.stream).slotAt p.instant = none ∧ (s.dev.region r).regs.st = .running) ∧
  (∃ s : State, ∃ r : Nat, ∃ p : EgressPacket, Runs s ∧ s.dev.fab.egress.find? (fun p => p.region = r) = some p ∧ s.dev.dieLive (r / 6) = false) :=
  ⟨⟨dev fun d => { egressing d with fab := { d.fab with egress := [packet0] } }, 0, packet0, by decide +kernel, by decide +kernel, 0, by decide +kernel⟩,
    ⟨dev fun d => { egressing d with fab := { d.fab with egress := [packet0] }, clk := { d.clk with frame := 1, since := 19660800 } }, 0, packet0, by decide +kernel, by decide +kernel, 0, by decide +kernel⟩,
    ⟨dev fun d => { egressing d with fab := { d.fab with egress := [{ packet0 with instant := 5 }] } }, 0, { packet0 with instant := 5 }, by decide +kernel⟩,
    ⟨dev fun d => { egressing d with fab := { d.fab with egress := [packet0] }, flt := { d.flt with fenced := [0] } }, 0, packet0, by decide +kernel⟩⟩

/-- The hypotheses of VerdictsInstantsAndSeals can be met, clause by clause. -/
theorem test_meets_verdictsInstantsAndSeals :
  (∃ s : State, ∃ st : Nat, ∃ seq : Nat, ∃ e : LedgerEntry, Runs s ∧ s.dev.adm.ledger.find? (fun x => x.isOf st seq && x.verdict.isNone && decide (x.arrived + nsTc 120 ≤ s.dev.clk.now)) = some e ∧ ((s.dev.stream st).cutThrough = true ∨ (∀ x, x ∈ s.dev.adm.ledger → x.frame.stream = st → x.due = false))) ∧
  (∃ s : State, Runs s ∧ (∀ e, e ∈ s.dev.adm.ledger → s.dev.clk.now < e.arrived + nsTc 120)) ∧
  (∃ s : State, ∃ i : Nat, Runs s ∧ (s.dev.clk.now < i ∨ s.dev.inOrder unitPackage ordEgress = false)) ∧
  (∃ s : State, ∃ st : Nat, ∃ k : Nat, ∃ i : Nat, ∃ z : EgressSlot, Runs s ∧ i ≤ s.dev.clk.now ∧ s.dev.inOrder unitPackage ordEgress = true ∧ (s.dev.stream st).st = .active ∧ (s.dev.stream st).slotAt i = some k ∧ (s.dev.stream st).egress[k]? = some z ∧ (∀ e, e ∈ s.dev.adm.ledger → e.frame.stream = st → e.slot = k → e.instant = i → e.sent = true)) ∧
  (∃ s : State, ∃ st : Nat, ∃ g : Nat, ∃ e : LedgerEntry, ∃ l : List LedgerEntry, Runs s ∧ (s.dev.stream st).cutThrough = true ∧ s.dev.groupDone st g = true ∧ (s.dev.adm.ledger.filter fun e => e.frame.stream = st && e.frame.group = g).insertionSort (fun a b => a.frame.gidx ≤ b.frame.gidx) = e :: l) :=
  ⟨⟨dev fun d => { egressing d with adm := { (egressing d).adm with ledger := [entry0] }, clk := { d.clk with frame := 1 } }, 1, 0, entry0, by decide +kernel⟩,
    ⟨dev fun d => { egressing d with adm := { (egressing d).adm with ledger := [entry0] } }, by decide +kernel⟩,
    ⟨dev fun d => ({ egressing d with adm := { (egressing d).adm with ledger := [{ entry0 with sent := true }] } }).updPort 0 fun p => { p with st := .up }, 983040, by decide +kernel⟩,
    ⟨dev fun d => ({ egressing d with clk := { d.clk with tc := 983040 }, adm := { (egressing d).adm with ledger := [{ entry0 with sent := true }] } }).updPort 0 fun p => { p with st := .up }, 1, 0, 983040, ⟨0, 0, 1, 8192, 10, 0⟩, by decide +kernel⟩,
    ⟨dev fun d => ({ egressing d with adm := { (egressing d).adm with groups := [⟨1, 0, 4, true, some 0⟩], ledger := [{ entry0 with sent := true, verdict := some false }] } }).updPort 0 fun p => { p with st := .up }, 1, 4, { entry0 with sent := true, verdict := some false }, [], by decide +kernel⟩⟩

/-- The hypotheses of AdmissionTakesRequestsInOrder can be met, clause by clause. -/
theorem test_meets_admissionTakesRequestsInOrder :
  (∃ s : State, ∃ st : Nat, ∃ tag : Nat, ∃ rest : List EngineRequest, ∃ c : ClaimConv, ∃ why : ClaimRefusal, Runs s ∧ s.dev.adm.queue = .claim st tag :: rest ∧ s.dev.adm.convs.find? (fun c => c.stream = st && c.tag = tag && c.st = .queued) = some c ∧ (({ s.dev with adm := { s.dev.adm with queue := rest } } : Device).checkClaim c = some why)) ∧
  (∃ s : State, ∃ st : Nat, ∃ tag : Nat, ∃ rest : List EngineRequest, ∃ c : ClaimConv, Runs s ∧ s.dev.adm.queue = .claim st tag :: rest ∧ s.dev.adm.convs.find? (fun c => c.stream = st && c.tag = tag && c.st = .queued) = some c ∧ (({ s.dev with adm := { s.dev.adm with queue := rest } } : Device).checkClaim c = none)) ∧
  (∃ s : State, ∃ who : Nat, ∃ st : Nat, ∃ tag : Nat, ∃ rest : List EngineRequest, Runs s ∧ s.dev.adm.queue = .release who st tag :: rest ∧ (s.dev.stream st).st = .active ∧ (s.dev.stream st).tag = tag) ∧
  (∃ s : State, ∃ n : Nat, Runs s ∧ n < 256 ∧ (s.dev.stream n).st = .admitted) ∧
  (∃ s : State, ∃ n : Nat, Runs s ∧ (s.dev.stream n).st = .releasing ∧ (s.dev.stream n).entriesGone = true ∧ s.dev.streamRuns n = false ∧ s.dev.ledgerOf n = 0) ∧
  (∃ s : State, ∃ n : Nat, Runs s ∧ (s.dev.stream n).st ≠ .releasing) :=
  ⟨⟨dev fun d => { rdy d with tb := { d.tb with st := .locked }, adm := { d.adm with queue := [.claim 1 9], convs := [conv1] } }, 1, 9, [], conv1, ((dev fun d => { rdy d with tb := { d.tb with st := .locked } }).dev.checkClaim conv1).getD ⟨0, 0, 0, 0, 0, 0, 0⟩, by decide +kernel⟩,
    ⟨dev fun d => { rdy d with tb := { d.tb with st := .locked }, adm := { d.adm with queue := [.claim 1 9], convs := [conv0] } }, 1, 9, [], conv0, by decide +kernel⟩,
    ⟨dev fun d => { rdy d with tb := { d.tb with st := .locked }, adm := { d.adm with queue := [.release 0 1 9], streams := [(1, { Stream.reset with st := .active, tag := 9 })] } }, 0, 1, 9, [], by decide +kernel⟩,
    ⟨dev (strm 255 (fun x => { x with st := .admitted, startFrame := 0 }) ∘ rdy), 255, by decide +kernel⟩,
    ⟨dev (strm 1 (fun x => { x with st := .releasing, entriesGone := true }) ∘ rdy), 1, by decide +kernel⟩,
    ⟨dev rdy, 1, by decide +kernel⟩⟩

/-- The hypotheses of PowerLimitAndDarkSlots can be met, clause by clause. -/
theorem test_meets_powerLimitAndDarkSlots :
  (∃ s : State, ∃ who : Nat, ∃ v : Nat, Runs s ∧ MayWrite s.dev who .operator ∧ v < 1024 ∧ pkgMinOf s.dev.sec.grade ≤ v ∧ v ≤ pkgMaxOf s.dev.sec.grade ∧ s.dev.powerUsed ≤ v * 1000 * (32 - s.dev.therm.k) / 32) ∧
  (∃ s : State, ∃ who : Nat, ∃ v : Nat, Runs s ∧ MayWrite s.dev who .operator ∧ v < 1024 ∧ pkgMinOf s.dev.sec.grade ≤ v ∧ v ≤ pkgMaxOf s.dev.sec.grade ∧ v * 1000 * (32 - s.dev.therm.k) / 32 < s.dev.powerUsed) ∧
  (∃ s : State, ∃ who : Nat, ∃ r : Nat, ∃ v : Nat, Runs s ∧ MayWrite s.dev who .operator ∧ r < 48 ∧ r / 6 < s.dev.dieCount ∧ v < 128 ∧ (v = 0 ∨ v < (tget (0, 0, 0) s.dev.adm.dark r).2.1)) ∧
  (∃ s : State, ∃ who : Nat, ∃ r : Nat, ∃ v : Nat, Runs s ∧ MayWrite s.dev who .operator ∧ r < 48 ∧ r / 6 < s.dev.dieCount ∧ v < 2 ^ 27 ∧ (bits v 19 0 = 0 ∨ (1 ≤ bits v 26 20 ∧ bits v 26 20 ≤ 100))) ∧
  (∃ s : State, ∃ u : Nat, Runs s ∧ s.dev.mayBeDark u = true ∧ u ∉ s.dev.adm.darkNow ∧ s.dev.inOrder u ordDark = true ∧ (s.dev.darkSpan u).1 ≤ s.dev.clk.now ∧ s.dev.clk.now < (s.dev.darkSpan u).2) ∧
  (∃ s : State, ∃ u : Nat, Runs s ∧ u ∈ s.dev.adm.darkNow ∧ s.dev.inOrder u ordDark = true ∧ (s.dev.darkSpan u).2 ≤ s.dev.clk.now) ∧
  (∃ s : State, ∃ u : Nat, Runs s ∧ s.dev.clk.now < (s.dev.darkSpan u).1) :=
  ⟨⟨dev rdy, 0, 420, by decide +kernel⟩,
    ⟨dev rdy, 0, 120, by decide +kernel⟩,
    ⟨dev fun d => { rdy d with adm := { d.adm with dark := [(47, 5, 100, 3)] } }, 0, 47, 99, by decide +kernel⟩,
    ⟨dev rdy, 0, 47, 100 * 2^20 + 5, by decide +kernel⟩,
    ⟨dev fun d => { rdy d with adm := { d.adm with unboundLen := 100, unboundPeriod := 4 }, clk := { d.clk with tc := 3 } }, unitPt 3, by decide +kernel⟩,
    ⟨dev fun d => { rdy d with adm := { d.adm with unboundLen := 100, unboundPeriod := 4, darkNow := [unitPt 3] }, clk := { d.clk with tc := 300000 } }, unitPt 3, by decide +kernel⟩,
    ⟨dev fun d => { rdy d with adm := { d.adm with dark := [(47, 5, 100, 3)] } }, unitRegion 47, by decide +kernel⟩⟩

/-- The hypotheses of BoundariesAndResends can be met, clause by clause. -/
theorem test_meets_boundariesAndResends :
  (∃ s : State, ∃ r : Nat, Runs s ∧ (s.dev.region r).held = [] ∧ s.dev.inOrder (unitRegion r) ordSlot = true) ∧
  (∃ s : State, ∃ r : Nat, Runs s ∧ s.dev.inOrder (unitRegion r) ordSlot = false) ∧
  (∃ s : State, ∃ u : Nat, ∃ k : Nat, Runs s ∧ s.dev.fab.beResent.contains (u, k) = false) ∧
  (∃ s : State, ∃ u : Nat, ∃ k : Nat, Runs s ∧ s.dev.fab.beResent.contains (u, k) = true) ∧
  (∃ s : State, ∃ n : Nat, Runs s ∧ s.dev.served n = true) :=
  ⟨⟨dev (reg 7 (fun g => { g with inject := [(5, 6)] }) ∘ rdy), 7, by decide +kernel⟩,
    ⟨dev (reg 7 (fun g => { g with inject := [(5, 6)] }) ∘ rdy ∘ fun d => { d with clk := { d.clk with done := [(unitRegion 7, ordStrobe)] } }), 7, by decide +kernel⟩,
    ⟨dev rdy, unitRegion 7, 3, by decide +kernel⟩,
    ⟨dev fun d => { rdy d with fab := { d.fab with beResent := [(unitRegion 7, 3)] } }, unitRegion 7, 3, by decide +kernel⟩,
    ⟨dev fun d => (rdy d).updSession 0 fun x => { x with notices := [⟨1, 7, 0⟩, ⟨2, 8, 0⟩] }, 0, by decide +kernel⟩⟩

/-- The hypotheses of LinksRetrainAndFence can be met, clause by clause. -/
theorem test_meets_linksRetrainAndFence :
  (∃ s : State, ∃ n : Nat, ∃ far : Nat, Runs s ∧ (s.dev.link n).st = .up ∧ far ≤ 1 ∧ (let e := (s.dev.link n).endOf (far = 1);
    e.frames + 1 < 2 ^ s.dev.fab.errWindow ∧ satInc e.errWin < s.dev.fab.errThr)) ∧
  (∃ s : State, ∃ n : Nat, ∃ far : Nat, Runs s ∧ (s.dev.link n).st = .up ∧ far ≤ 1 ∧ (let e := (s.dev.link n).endOf (far = 1);
    e.frames + 1 < 2 ^ s.dev.fab.errWindow ∧ s.dev.fab.errThr ≤ satInc e.errWin ∧ (8 ≤ n ∨ s.dev.neighbourRetrains n = false) ∧ (s.dev.link n).retrains = [] ∧ 1 < s.dev.fab.fenceRetrains)) ∧
  (∃ s : State, ∃ n : Nat, ∃ k : Nat, Runs s ∧ (s.dev.link n).st = .retraining ∧ k ≤ s.dev.fab.errThr / 4) ∧
  (∃ s : State, ∃ n : Nat, ∃ k : Nat, Runs s ∧ (s.dev.link n).st = .retraining ∧ s.dev.fab.errThr / 4 < k ∧ (s.dev.link n).fails = 0 ∧ (s.dev.link n).retrains = [] ∧ 1 < s.dev.fab.fenceRetrains ∧ (8 ≤ n ∨ s.dev.neighbourRetrains n = false)) ∧
  (∃ s : State, ∃ n : Nat, ∃ k : Nat, Runs s ∧ (s.dev.link n).st = .retraining ∧ s.dev.fab.errThr / 4 < k ∧ (s.dev.link n).fails ≠ 0 ∧ 8 ≤ n) ∧
  (∃ s : State, ∃ n : Nat, ∃ k : Nat, Runs s ∧ (s.dev.link n).st = .retraining ∧ s.dev.fab.errThr / 4 < k ∧ (s.dev.link n).fails ≠ 0 ∧ n < 8 ∧ n < s.dev.dieCount) ∧
  (∃ s : State, ∃ who : Nat, ∃ n : Nat, ∃ far : Nat, ∃ need : Role, Runs s ∧ MayWrite s.dev who need ∧ far ≤ 1 ∧ s.dev.linkExists n = true ∧ ((n < 8 ∧ far = 0) ∨ s.dev.dieAccess (if n < 8 then n else if far = 1 then (n + 1) % s.dev.dieCount else n % 8) = stOK) ∧ need = .owner ∧ (s.dev.link n).st = .fenced) ∧
  (∃ s : State, ∃ who : Nat, ∃ n : Nat, ∃ far : Nat, ∃ need : Role, Runs s ∧ MayWrite s.dev who need ∧ far ≤ 1 ∧ s.dev.linkExists n = true ∧ ((n < 8 ∧ far = 0) ∨ s.dev.dieAccess (if n < 8 then n else if far = 1 then (n + 1) % s.dev.dieCount else n % 8) = stOK) ∧ need = .maintainer ∧ (s.dev.link n).st = .fenced) ∧
  (∃ s : State, ∃ who : Nat, ∃ n : Nat, ∃ far : Nat, ∃ need : Role, Runs s ∧ MayWrite s.dev who need ∧ far ≤ 1 ∧ s.dev.linkExists n = true ∧ ((n < 8 ∧ far = 0) ∨ s.dev.dieAccess (if n < 8 then n else if far = 1 then (n + 1) % s.dev.dieCount else n % 8) = stOK) ∧ need = .maintainer ∧ (s.dev.link n).st = .up ∧ (s.dev.link n).retrains = [] ∧ 1 < s.dev.fab.fenceRetrains ∧ (8 ≤ n ∨ s.dev.neighbourRetrains n = false)) :=
  ⟨⟨dev fun d => (rdy { d with dies := [(1, { Die.reset with dm := .inService })] }).updLink 9 fun l => { l with st := .up, far := { l.far with errWin := 14 } }, 9, 1, by decide +kernel, by decide +kernel, by decide +kernel, by decide +kernel⟩,
    ⟨dev fun d => (rdy { d with dies := [(1, { Die.reset with dm := .inService })] }).updLink 9 fun l => { l with st := .up, far := { l.far with errWin := 15 } }, 9, 1, by decide +kernel, by decide +kernel, by decide +kernel, by decide +kernel⟩,
    ⟨dev fun d => (rdy { d with dies := [(1, { Die.reset with dm := .inService })] }).updLink 9 fun l => { l with st := .retraining, fails := 1 }, 9, 0, by decide +kernel⟩,
    ⟨dev fun d => (rdy { d with dies := [(1, { Die.reset with dm := .inService })] }).updLink 9 fun l => { l with st := .retraining }, 9, 5, by decide +kernel⟩,
    ⟨dev fun d => (rdy { d with dies := [(1, { Die.reset with dm := .inService })] }).updLink 9 fun l => { l with st := .retraining, fails := 1 }, 9, 5, by decide +kernel⟩,
    ⟨dev fun d => (rdy { d with dies := [(1, { Die.reset with dm := .inService })] }).updLink 1 fun l => { l with st := .retraining, fails := 1 }, 1, 5, by decide +kernel⟩,
    ⟨dev fun d => (rdy { d with dies := [(1, { Die.reset with dm := .inService })] }).updLink 9 fun l => { l with st := .fenced }, 0, 9, 1, .owner, by decide +kernel⟩,
    ⟨dev fun d => (rdy { d with dies := [(1, { Die.reset with dm := .inService })] }).updLink 9 fun l => { l with st := .fenced }, 0, 9, 1, .maintainer, by decide +kernel⟩,
    ⟨dev fun d => (rdy { d with dies := [(1, { Die.reset with dm := .inService })] }).updLink 9 fun l => { l with st := .up }, 0, 9, 1, .maintainer, by decide +kernel⟩⟩

/-- The hypotheses of RouterResetGoesThroughItsStates can be met, clause by clause. -/
theorem test_meets_routerResetGoesThroughItsStates :
  (∃ s : State, ∃ who : Nat, ∃ r : Nat, Runs s ∧ MayWrite s.dev who .owner ∧ s.dev.dieAccess (r / 6) = stOK ∧ (s.dev.region r).outOfService = false) ∧
  (∃ s : State, ∃ who : Nat, ∃ r : Nat, Runs s ∧ MayWrite s.dev who .owner ∧ s.dev.dieAccess (r / 6) = stOK ∧ (s.dev.region r).outOfService = true ∧ (∀ g, g < 6 → (s.dev.region (6 * (r / 6) + g)).router.st = .in_ ∧ (s.dev.region (6 * (r / 6) + g)).router.resetAsked = false)) ∧
  (∃ s : State, ∃ r : Nat, Runs s ∧ (s.dev.region r).router.st = .detouring ∧ (let at_ := (s.dev.region r).router.movesAt;
    at_ ≤ s.dev.clk.now ∧ s.dev.inOrder (unitRegion r) ordSlot = true)) ∧
  (∃ s : State, ∃ r : Nat, Runs s ∧ s.dev.clk.now < (s.dev.region r).router.movesAt) ∧
  (∃ s : State, ∃ r : Nat, Runs s ∧ (s.dev.region r).router.st = .draining) ∧
  (∃ s : State, ∃ r : Nat, Runs s ∧ (s.dev.region r).router.st = .reset) ∧
  (∃ s : State, ∃ r : Nat, Runs s ∧ (s.dev.region r).router.st = .out ∧ (s.dev.region r).outOfService = false) ∧
  (∃ s : State, ∃ r : Nat, Runs s ∧ (s.dev.region r).router.st = .out ∧ (s.dev.region r).outOfService = true) :=
  ⟨⟨dev (reg 7 (fun g => { g with router := { g.router with st := .in_ }, regs := { g.regs with st := .running }, microcode := true }) ∘ rdy), 0, 7, by decide +kernel⟩,
    ⟨dev (reg 7 (fun g => { g with router := { g.router with st := .in_ } }) ∘ rdy), 0, 7, by decide +kernel⟩,
    ⟨dev (reg 7 (fun g => { g with router := { g.router with st := .detouring } }) ∘ rdy ∘ inFrame 10), 7, by decide +kernel, by decide +kernel, by decide +kernel⟩,
    ⟨dev (reg 7 (fun g => { g with router := { g.router with st := .reset } }) ∘ rdy), 7, by decide +kernel⟩,
    ⟨dev (reg 7 (fun g => { g with router := { g.router with st := .draining } }) ∘ rdy), 7, by decide +kernel⟩,
    ⟨dev (reg 7 (fun g => { g with router := { g.router with st := .reset } }) ∘ rdy), 7, by decide +kernel⟩,
    ⟨dev (reg 7 (fun g => { g with router := { g.router with st := .out }, regs := { g.regs with st := .running }, microcode := true }) ∘ rdy), 7, by decide +kernel⟩,
    ⟨dev (reg 7 (fun g => { g with router := { g.router with st := .out } }) ∘ rdy), 7, by decide +kernel⟩⟩

/-- The hypotheses of ShardsArriveOrFail can be met, clause by clause. -/
theorem test_meets_shardsArriveOrFail :
  (∃ s : State, ∃ n : Nat, ∃ a : Nat, ∃ i : Nat, ∃ g : Nat, Runs s ∧ (s.dev.area n a).shardFull i = true ∧ ((s.dev.area n a).shard i).verified = false ∧ g = (s.dev.area n a).shardDigest i) ∧
  (∃ s : State, ∃ n : Nat, ∃ a : Nat, ∃ i : Nat, ∃ g : Nat, Runs s ∧ (s.dev.area n a).shardFull i = true ∧ ((s.dev.area n a).shard i).verified = false ∧ g ≠ (s.dev.area n a).shardDigest i) ∧
  (∃ s : State, ∃ n : Nat, ∃ a : Nat, ∃ i : Nat, Runs s ∧ ((s.dev.area n a).shard i).requested = true ∧ ((s.dev.area n a).shard i).verified = false ∧ ((s.dev.area n a).shard i).askedAt + msTc s.dev.mm.shardTimeout ≤ s.dev.real) ∧
  (∃ s : State, ∃ n : Nat, ∃ a : Nat, ∃ i : Nat, Runs s ∧ (((s.dev.area n a).shard i).requested = false ∨ s.dev.real < ((s.dev.area n a).shard i).askedAt + msTc s.dev.mm.shardTimeout)) ∧
  (∃ s : State, ∃ n : Nat, ∃ a : Nat, Runs s ∧ (s.dev.area n a).st = .receiving ∧ (s.dev.area n a).source = 0 ∧ (s.dev.area n a).touchedAt + msTc (1000 * s.dev.mm.idleLimit) ≤ s.dev.real) ∧
  (∃ s : State, ∃ n : Nat, ∃ a : Nat, Runs s ∧ ((s.dev.area n a).st ≠ .receiving ∨ s.dev.real < (s.dev.area n a).touchedAt + msTc (1000 * s.dev.mm.idleLimit))) ∧
  (∃ s : State, ∃ n : Nat, ∃ a : Nat, ∃ i : Nat, ∃ g : Nat, Runs s ∧ ((s.dev.area n a).shard i).verified = true ∧ ((s.dev.area n a).st = .staging ∨ (s.dev.area n a).st = .staged ∨ (s.dev.area n a).st = .active ∨ (s.dev.area n a).st = .retiring) ∧ g ≠ (s.dev.area n a).shardDigest i) ∧
  (∃ s : State, ∃ n : Nat, ∃ a : Nat, ∃ i : Nat, ∃ g : Nat, Runs s ∧ ((s.dev.area n a).shard i).verified = true ∧ ((s.dev.area n a).st = .staging ∨ (s.dev.area n a).st = .staged ∨ (s.dev.area n a).st = .active ∨ (s.dev.area n a).st = .retiring) ∧ g = (s.dev.area n a).shardDigest i) :=
  ⟨⟨dev (modelAt fun a => { a with st := .receiving }), 2, 1, 0, 77, by decide +kernel⟩,
    ⟨dev (modelAt fun a => { a with shards := [{ shard0 with attempts := 4 }] }), 2, 1, 0, 78, by decide +kernel⟩,
    ⟨dev (modelAt (fun a => { a with shards := [{ shard0 with attempts := 4 }] }) ∘ late), 2, 1, 0, by decide +kernel⟩,
    ⟨dev (modelAt fun a => { a with shards := [{ shard0 with attempts := 4 }] }), 2, 1, 0, by decide +kernel⟩,
    ⟨dev (modelAt (fun a => { a with st := .receiving }) ∘ late), 2, 1, by decide +kernel⟩,
    ⟨dev (modelAt fun a => { a with st := .receiving }), 2, 1, by decide +kernel⟩,
    ⟨dev (modelAt fun a => { a with st := .active, shards := [{ shard0 with verified := true }] }), 2, 1, 0, 78, by decide +kernel⟩,
    ⟨dev (modelAt fun a => { a with st := .active, shards := [{ shard0 with verified := true }] }), 2, 1, 0, 77, by decide +kernel⟩⟩

/-- The hypotheses of EpochsAreDressedSwitchedAndAudited can be met, clause by clause. -/
theorem test_meets_epochsAreDressedSwitchedAndAudited :
  (∃ s : State, ∃ n : Nat, ∃ a : Nat, ∃ i : Nat, ∃ m : Manifest, ∃ t : TileRecord, Runs s ∧ (s.dev.area n a).manifest = some m ∧ m.tiles[i]? = some t ∧ ((s.dev.area n a).st = .receiving ∨ (s.dev.area n a).st = .staging) ∧ i = (s.dev.area n a).dressed.length ∧ (∀ j, j < (s.dev.area n a).shards.length → touches t.codes j = true ∨ touches t.scales j = true → ((s.dev.area n a).shard j).verified = true) ∧ (∃ o, s.dev.badByte (s.dev.area n a) t = some o)) ∧
  (∃ s : State, ∃ n : Nat, ∃ a : Nat, ∃ i : Nat, ∃ p : Nat, ∃ m : Manifest, ∃ t : TileRecord, Runs s ∧ (s.dev.area n a).manifest = some m ∧ m.tiles[i]? = some t ∧ ((s.dev.area n a).st = .receiving ∨ (s.dev.area n a).st = .staging) ∧ i = (s.dev.area n a).dressed.length ∧ (∀ j, j < (s.dev.area n a).shards.length → touches t.codes j = true ∨ touches t.scales j = true → ((s.dev.area n a).shard j).verified = true) ∧ s.dev.badByte (s.dev.area n a) t = none ∧ s.dev.physOf ((s.dev.area n a).dressedOn i) = some p ∧ (s.dev.area n a).matched = false) ∧
  (∃ s : State, ∃ n : Nat, ∃ a : Nat, ∃ i : Nat, ∃ p : Nat, ∃ m : Manifest, ∃ t : TileRecord, Runs s ∧ (s.dev.area n a).manifest = some m ∧ m.tiles[i]? = some t ∧ ((s.dev.area n a).st = .receiving ∨ (s.dev.area n a).st = .staging) ∧ i = (s.dev.area n a).dressed.length ∧ (∀ j, j < (s.dev.area n a).shards.length → touches t.codes j = true ∨ touches t.scales j = true → ((s.dev.area n a).shard j).verified = true) ∧ s.dev.badByte (s.dev.area n a) t = none ∧ s.dev.physOf ((s.dev.area n a).dressedOn i) = some p ∧ (s.dev.area n a).matched = true) ∧
  (∃ s : State, ∃ n : Nat, ∃ r : Nat, ∃ x : Nat, ∃ k : SwitchPlan, ∃ m : Manifest, ∃ t : TileRecord, Runs s ∧ (s.dev.modelSlot n).plan = some k ∧ (r, x, false) ∈ k.regions ∧ x ≤ s.dev.clk.now ∧ (s.dev.area n ((s.dev.modelSlot n).activeEpoch % 2)).manifest = some m ∧ m.tiles = [t] ∧ (let here := (s.dev.modelSlot n).place t.tile;
    let bench := (s.dev.area n ((s.dev.modelSlot n).activeEpoch % 2)).dressedOn 0;
    ltRegion here = r ∧ here ≠ bench ∧ ltCluster here = ltCluster bench ∧ (s.dev.cluster (ltCluster here)).map.length = 8)) ∧
  (∃ s : State, ∃ n : Nat, ∃ r : Nat, Runs s ∧ (∀ k, (s.dev.modelSlot n).plan = some k → ∀ x, (r, x, false) ∈ k.regions → s.dev.clk.now < x)) ∧
  (∃ s : State, ∃ p : Nat, ∃ v : Nat, Runs s ∧ (s.dev.tile p).dress.dressed = true ∧ s.dev.pins.vppLow = false ∧ s.dev.mm.auditMax < v) ∧
  (∃ s : State, ∃ p : Nat, ∃ v : Nat, Runs s ∧ (s.dev.tile p).dress.dressed = true ∧ s.dev.pins.vppLow = false ∧ v ≤ s.dev.mm.auditMax) :=
  ⟨⟨dev fun d => { modelAt (fun a => { a with shards := [{ shard0 with verified := true }] }) d with hbm := { d.hbm with mem := [(0, 128)] } }, 2, 1, 0, man0, rec0, by decide +kernel, by decide +kernel, by decide +kernel, by decide +kernel, by decide +kernel, by decide +kernel, 0, by decide +kernel⟩,
    ⟨dev (modelAt fun a => { a with shards := [{ shard0 with verified := true }] }), 2, 1, 0, 3, man0, rec0, by decide +kernel⟩,
    ⟨dev (modelAt fun a => { a with shards := [{ shard0 with verified := true }], matched := true }), 2, 1, 0, 3, man0, rec0, by decide +kernel⟩,
    ⟨dev fun d => (modelAt (fun a => { a with st := .active }) d).updModelSlot 2 fun m => { m with plan := some { streams := [], regions := [(0, 0, false)] } }, 2, 0, 0, { streams := [], regions := [(0, 0, false)] }, man0, rec0, by decide +kernel, by decide +kernel, by decide +kernel, by decide +kernel, by decide +kernel, by decide +kernel, by decide +kernel⟩,
    ⟨dev rdy, 2, 0, ⟨by decide +kernel, fun k h => by cases h⟩⟩,
    ⟨dev (tile 3 (fun t => { t with dress := { t.dress with dressed := true } }) ∘ (fun d => { d with sec := { d.sec with grade := 4 } }) ∘ rdy), 3, 65, by decide +kernel⟩,
    ⟨dev (tile 3 (fun t => { t with dress := { t.dress with dressed := true } }) ∘ (fun d => { d with sec := { d.sec with grade := 4 } }) ∘ rdy), 3, 64, by decide +kernel⟩⟩

/-- The hypotheses of DiesAreFencedAndReturn can be met, clause by clause. -/
theorem test_meets_diesAreFencedAndReturn :
  (∃ s : State, ∃ n : Nat, Runs s ∧ s.dev.dieLive n = true ∧ (∃ k : Int, k.natAbs ≤ 4)) ∧
  (∃ s : State, ∃ n : Nat, Runs s ∧ s.dev.dieLive n = true ∧ (∃ k : Int, 4 < k.natAbs ∧ (s.dev.die n).replicaBad < 2)) ∧
  (∃ s : State, ∃ n : Nat, Runs s ∧ s.dev.dieLive n = true ∧ (∃ k : Int, 4 < k.natAbs ∧ 2 ≤ (s.dev.die n).replicaBad)) ∧
  (∃ s : State, ∃ n : Nat, Runs s ∧ s.dev.dieLive n = true ∧ ((s.dev.die n).wdogRow = 0 ∨ (s.dev.die n).wdogAt + msTc 2 ≤ s.dev.real)) ∧
  (∃ s : State, ∃ n : Nat, Runs s ∧ s.dev.dieLive n = true ∧ 2 ≤ (s.dev.die n).wdogRow ∧ s.dev.real < (s.dev.die n).wdogAt + msTc 2) ∧
  (∃ s : State, ∃ n : Nat, Runs s ∧ s.dev.dieLive n = true ∧ (∃ who, MayWrite s.dev who .owner)) ∧
  (∃ s : State, ∃ n : Nat, Runs s ∧ s.dev.dieLive n = true ∧ (s.dev.die n).dm ≠ .reset) ∧
  (∃ s : State, ∃ n : Nat, Runs s ∧ (s.dev.dieLive n = false ∨ (s.dev.die n).dm = .reset)) ∧
  (∃ s : State, ∃ n : Nat, Runs s ∧ s.dev.dieLive n = false) ∧
  (∃ s : State, ∃ who : Nat, ∃ n : Nat, ∃ l : Bool, ∃ u : Bool, ∃ t : Bool, ∃ scans : List ScanResult, Runs s ∧ MayWrite s.dev who .owner ∧ n < s.dev.dieCount ∧ (let m := if (s.dev.die n).mapped then s.dev else s.dev.mapDie n;
    let ok : Bool := l && !(s.dev.die n).otpBad && u && t &&
      (m.dressedTiles n).all fun p => scans.any fun x => x.tile = p && x.ok;
    s.dev.flt.fenced.contains n = true ∧ ok = true)) ∧
  (∃ s : State, ∃ who : Nat, ∃ n : Nat, ∃ l : Bool, ∃ u : Bool, ∃ t : Bool, ∃ scans : List ScanResult, Runs s ∧ MayWrite s.dev who .owner ∧ n < s.dev.dieCount ∧ (let m := if (s.dev.die n).mapped then s.dev else s.dev.mapDie n;
    let ok : Bool := l && !(s.dev.die n).otpBad && u && t &&
      (m.dressedTiles n).all fun p => scans.any fun x => x.tile = p && x.ok;
    s.dev.flt.fenced.contains n = true ∧ ok = false)) ∧
  (∃ s : State, ∃ who : Nat, ∃ n : Nat, Runs s ∧ MayWrite s.dev who .owner ∧ n < s.dev.dieCount ∧ s.dev.flt.fenced.contains n = false ∧ who ≠ 8) :=
  ⟨⟨dev fun d => (rdy d).updDie 7 (fun x => { x with dm := .inService, replicaBad := 2, wdogRow := 2 }), 7, by decide +kernel, by decide +kernel, (-4 : Int), by decide +kernel⟩,
    ⟨dev fun d => (rdy d).updDie 7 (fun x => { x with dm := .inService, replicaBad := 1 }), 7, by decide +kernel, by decide +kernel, 5, by decide +kernel⟩,
    ⟨dev fun d => (rdy d).updDie 7 (fun x => { x with dm := .inService, replicaBad := 2, wdogRow := 2 }), 7, by decide +kernel, by decide +kernel, -5, by decide +kernel⟩,
    ⟨dev fun d => (rdy d).updDie 7 (fun x => { x with dm := .inService, wdogRow := 0 }), 7, by decide +kernel⟩,
    ⟨dev fun d => (rdy d).updDie 7 (fun x => { x with dm := .inService, replicaBad := 2, wdogRow := 2 }), 7, by decide +kernel⟩,
    ⟨dev fun d => (rdy d).updDie 7 (fun x => { x with dm := .inService, replicaBad := 2, wdogRow := 2 }), 7, by decide +kernel, by decide +kernel, 0, by decide +kernel⟩,
    ⟨dev fun d => (rdy d).updDie 7 (fun x => { x with dm := .inService, replicaBad := 2, wdogRow := 2 }), 7, by decide +kernel⟩,
    ⟨dev fun d => { rdy d with flt := { d.flt with fenced := [7] } }, 7, by decide +kernel⟩,
    ⟨dev fun d => { rdy d with flt := { d.flt with fenced := [7] } }, 7, by decide +kernel⟩,
    ⟨dev fun d => { rdy d with flt := { d.flt with fenced := [7] } }, 0, 7, true, true, true, [], by decide +kernel, by decide +kernel, by decide +kernel, by decide +kernel⟩,
    ⟨dev fun d => { rdy d with flt := { d.flt with fenced := [7] } }, 0, 7, false, true, true, [], by decide +kernel, by decide +kernel, by decide +kernel, by decide +kernel⟩,
    ⟨dev fun d => (rdy d).updDie 7 (fun x => { x with dm := .inService, replicaBad := 2, wdogRow := 2 }), 0, 7, by decide +kernel⟩⟩

/-- The hypotheses of LostStreamsMoveOrAreShed can be met, clause by clause. -/
theorem test_meets_lostStreamsMoveOrAreShed :
  (∃ s : State, ∃ n : Nat, ∃ x : Replacement, Runs s ∧ s.dev.flt.replacements.find? (fun x => x.stream = n) = some x ∧ x.since + msTc (1000 * s.dev.flt.remapLimit) ≤ s.dev.real) ∧
  (∃ s : State, ∃ n : Nat, ∃ x : Replacement, Runs s ∧ s.dev.flt.replacements.find? (fun x => x.stream = n) = some x ∧ s.dev.targetOf x.region = none) ∧
  (∃ s : State, ∃ n : Nat, ∃ x : Replacement, Runs s ∧ s.dev.flt.replacements.find? (fun x => x.stream = n) = some x ∧ (∃ t, ∃ u, s.dev.targetOf x.region = some t ∧ u ≠ t)) ∧
  (∃ s : State, ∃ n : Nat, ∃ x : Replacement, Runs s ∧ s.dev.flt.replacements.find? (fun x => x.stream = n) = some x ∧ (∃ t, s.dev.targetOf x.region = some t ∧ t ≠ x.region ∧ s.dev.slotOf (s.dev.stream n).model = none ∧ s.dev.checkMoved n x.region t = true)) ∧
  (∃ s : State, ∃ n : Nat, Runs s ∧ s.dev.flt.replacements.find? (fun x => x.stream = n) = none) :=
  ⟨⟨dev (lostStream ∘ late), 1, shed0, by decide +kernel⟩,
    ⟨dev fun d => { lostStream d with flt := { d.flt with fenced := List.range 8, replacements := [{ shed0 with target := none }] } }, 1, { shed0 with target := none }, by decide +kernel⟩,
    ⟨dev lostStream, 1, shed0, by decide +kernel, by decide +kernel, 3, 4, by decide +kernel⟩,
    ⟨dev lostStream, 1, shed0, by decide +kernel, by decide +kernel, 3, by decide +kernel⟩,
    ⟨dev rdy, 1, by decide +kernel⟩⟩

/-- The hypotheses of HeatStepsAndTrips can be met, clause by clause. -/
theorem test_meets_heatStepsAndTrips :
  (∃ s : State, ∃ i : Nat, ∃ v : Int, Runs s ∧ s.dev.sensorExists i = true ∧ (i < 32 ∨ (s.dev.therm.sensor i).mode ≠ 0) ∧ s.dev.sampleDue i = true ∧ (let y : Sensor := { s.dev.therm.sensor i with
      temp := v, present := true, fault := false, sampledAt := s.dev.real, period := periodOf v (s.dev.therm.warnOf i) (s.dev.therm.limitOf i) };
    let t : Thermal := { s.dev.therm with sensors := tset s.dev.therm.sensors i y };
    t.target 0 = 15 ∧ s.dev.therm.k ≠ 15)) ∧
  (∃ s : State, ∃ i : Nat, ∃ v : Int, Runs s ∧ s.dev.sensorExists i = true ∧ (i < 32 ∨ (s.dev.therm.sensor i).mode ≠ 0) ∧ s.dev.sampleDue i = true ∧ (let y : Sensor := { s.dev.therm.sensor i with
      temp := v, present := true, fault := false, sampledAt := s.dev.real, period := periodOf v (s.dev.therm.warnOf i) (s.dev.therm.limitOf i) };
    let t : Thermal := { s.dev.therm with sensors := tset s.dev.therm.sensors i y };
    s.dev.therm.k ≤ 15 ∧ t.target 0 ≤ s.dev.therm.k ∧ s.dev.therm.k ≤ t.target t.hyst)) ∧
  (∃ s : State, ∃ i : Nat, ∃ v : Int, Runs s ∧ s.dev.sensorExists i = true ∧ (i < 32 ∨ (s.dev.therm.sensor i).mode ≠ 0) ∧ s.dev.sampleDue i = true ∧ (let y : Sensor := { s.dev.therm.sensor i with
      temp := v, present := true, fault := false, sampledAt := s.dev.real, period := periodOf v (s.dev.therm.warnOf i) (s.dev.therm.limitOf i) };
    let t : Thermal := { s.dev.therm with sensors := tset s.dev.therm.sensors i y };
    s.dev.therm.k < t.target 0 ∧ t.target 0 < 15 ∧ s.dev.therm.kChangedAt = none)) ∧
  (∃ s : State, ∃ i : Nat, ∃ v : Int, Runs s ∧ s.dev.sensorExists i = true ∧ (i < 32 ∨ (s.dev.therm.sensor i).mode ≠ 0) ∧ s.dev.sampleDue i = true ∧ (let y : Sensor := { s.dev.therm.sensor i with
      temp := v, present := true, fault := false, sampledAt := s.dev.real, period := periodOf v (s.dev.therm.warnOf i) (s.dev.therm.limitOf i) };
    let t : Thermal := { s.dev.therm with sensors := tset s.dev.therm.sensors i y };
    s.dev.therm.k < 15 ∧ t.target t.hyst < s.dev.therm.k ∧ t.target 0 ≤ s.dev.therm.k ∧ s.dev.therm.kChangedAt = none)) ∧
  (∃ s : State, ∃ i : Nat, Runs s ∧ (s.dev.sensorExists i = false ∨ s.dev.sampleDue i = false)) ∧
  (∃ s : State, ∃ i : Nat, Runs s ∧ s.dev.therm.tripped = false ∧ i < s.dev.diodes) ∧
  (∃ s : State, Runs s ∧ s.dev.therm.hubHaltDue = true ∧ s.dev.therm.trippedAt + msTc 100 ≤ s.dev.real) ∧
  (∃ s : State, Runs s ∧ (s.dev.therm.hubHaltDue = false ∨ s.dev.real < s.dev.therm.trippedAt + msTc 100)) :=
  ⟨⟨dev rdy, 3, 2000, by decide +kernel, by decide +kernel, by decide +kernel, by decide +kernel, by decide +kernel⟩,
    ⟨dev fun d => { rdy d with therm := { d.therm with k := 1 } }, 3, 1520, by decide +kernel, by decide +kernel, by decide +kernel, by decide +kernel, by decide +kernel⟩,
    ⟨dev rdy, 3, 1600, by decide +kernel, by decide +kernel, by decide +kernel, by decide +kernel, by decide +kernel⟩,
    ⟨dev fun d => { rdy d with therm := { d.therm with k := 2 } }, 3, (160 : Int), by decide +kernel, by decide +kernel, by decide +kernel, by decide +kernel, by decide +kernel⟩,
    ⟨dev rdy, 47, by decide +kernel⟩,
    ⟨dev (strm 1 (fun x => { x with st := .active }) ∘ rdy), 1, by decide +kernel⟩,
    ⟨dev fun d => { rdy (late d) with therm := { d.therm with hubHaltDue := true } }, by decide +kernel⟩,
    ⟨dev rdy, by decide +kernel⟩⟩

/-- The hypotheses of SessionsOpenAndTakeRequestsInOrder can be met, clause by clause. -/
theorem test_meets_sessionsOpenAndTakeRequestsInOrder :
  (∃ s : State, ∃ m : HelloMsg, Runs s ∧ s.dev.bcpOn m.port = true ∧ s.dev.sec.drbgStopped = true) ∧
  (∃ s : State, ∃ m : HelloMsg, Runs s ∧ s.dev.bcpOn m.port = true ∧ s.dev.sec.drbgStopped = false ∧ helloForm m = true ∧ (∀ h, h ∈ s.dev.bcp.handshakes → h.nonce ≠ m.nonce) ∧ s.dev.bcp.handshakes.length < 4 ∧ s.dev.authorise m = none) ∧
  (∃ s : State, ∃ m : HelloMsg, Runs s ∧ s.dev.bcpOn m.port = true ∧ s.dev.sec.drbgStopped = false ∧ helloForm m = true ∧ (∀ h, h ∈ s.dev.bcp.handshakes → h.nonce ≠ m.nonce) ∧ s.dev.bcp.handshakes.length < 4 ∧ (∃ a, ∃ r, s.dev.authorise m = some (a, r) ∧ m.takeover = false ∧ s.dev.openSessions.length < 8 ∧ m.ephemeralOk = true)) ∧
  (∃ s : State, ∃ port : Nat, ∃ id : Nat, ∃ n : Nat, ∃ h : Handshake, Runs s ∧ s.dev.bcpOn port = true ∧ s.dev.bcp.handshakes.find? (fun y => y.id = id) = some h ∧ (s.dev.claimMode = true ∨ (s.dev.sec.anchor h.anchor).inForce = true) ∧ (List.range 8).find? (fun n => !(s.dev.session n).inUse) = some n) ∧
  (∃ s : State, ∃ port : Nat, ∃ id : Nat, ∃ record : Nat, ∃ n : Nat, Runs s ∧ s.dev.bcpOn port = true ∧ s.dev.sessionOf id = some n ∧ (s.dev.session n).stale record = true) ∧
  (∃ s : State, ∃ port : Nat, ∃ id : Nat, ∃ record : Nat, ∃ seq : Nat, ∃ n : Nat, Runs s ∧ s.dev.bcpOn port = true ∧ s.dev.sessionOf id = some n ∧ (s.dev.session n).stale record = false ∧ record < 2 ^ 47 ∧ (s.dev.session n).recHigh ≤ 2 ^ 47 ∧ (s.dev.session n).txRecord < 2 ^ 47 ∧ seq < 2 ^ 32 ∧ seq = (s.dev.session n).base ∧ (s.dev.session n).busy = none ∧ s.dev.modeCheck 0x0001 = none) ∧
  (∃ s : State, ∃ port : Nat, ∃ id : Nat, ∃ record : Nat, ∃ seq : Nat, ∃ n : Nat, ∃ msg : BcpMsg, Runs s ∧ s.dev.bcpOn port = true ∧ s.dev.sessionOf id = some n ∧ (s.dev.session n).stale record = false ∧ record < 2 ^ 47 ∧ (s.dev.session n).recHigh ≤ 2 ^ 47 ∧ (s.dev.session n).txRecord < 2 ^ 47 ∧ seq < 2 ^ 32 ∧ (∃ k, (seq + 2 ^ 32 - (s.dev.session n).base) % 2 ^ 32 = k ∧ 0 < k ∧ k < 64 ∧ (∀ h, h ∈ s.dev.held → h.session = n → h.seq ≠ seq) ∧ msg ≠ .short)) ∧
  (∃ s : State, ∃ port : Nat, ∃ id : Nat, ∃ record : Nat, ∃ seq : Nat, ∃ fp : Nat, ∃ n : Nat, ∃ msg : BcpMsg, Runs s ∧ s.dev.bcpOn port = true ∧ s.dev.sessionOf id = some n ∧ (s.dev.session n).stale record = false ∧ record < 2 ^ 47 ∧ (s.dev.session n).recHigh ≤ 2 ^ 47 ∧ (s.dev.session n).txRecord < 2 ^ 47 ∧ seq < 2 ^ 32 ∧ (∃ c, 2 ^ 32 - 256 ≤ (seq + 2 ^ 32 - (s.dev.session n).base) % 2 ^ 32 ∧ (s.dev.session n).cache.find? (fun c => c.seq = seq) = some c ∧ c.fingerprint = fp ∧ msg ≠ .short)) ∧
  (∃ s : State, ∃ port : Nat, ∃ id : Nat, ∃ record : Nat, ∃ seq : Nat, ∃ n : Nat, ∃ msg : BcpMsg, Runs s ∧ s.dev.bcpOn port = true ∧ s.dev.sessionOf id = some n ∧ (s.dev.session n).stale record = false ∧ record < 2 ^ 47 ∧ (s.dev.session n).recHigh ≤ 2 ^ 47 ∧ (s.dev.session n).txRecord < 2 ^ 47 ∧ seq < 2 ^ 32 ∧ 64 ≤ (seq + 2 ^ 32 - (s.dev.session n).base) % 2 ^ 32 ∧ (seq + 2 ^ 32 - (s.dev.session n).base) % 2 ^ 32 < 2 ^ 32 - 256 ∧ msg ≠ .short) ∧
  (∃ s : State, ∃ n : Nat, Runs s ∧ s.dev.served n = true ∧ (s.dev.session n).busy = none ∧ (∀ h, h ∈ s.dev.held → h.session = n → h.seq ≠ (s.dev.session n).base)) ∧
  (∃ s : State, ∃ n : Nat, Runs s ∧ s.dev.served n = true ∧ (s.dev.session n).busy = none ∧ (∃ h, s.dev.held.find? (fun h => h.session = n && h.seq = (s.dev.session n).base) = some h ∧ h.msg = .request .ping ∧ s.dev.modeCheck 0x0001 = none ∧ (s.dev.session n).recHigh ≤ 2 ^ 47 ∧ (s.dev.session n).txRecord < 2 ^ 47)) ∧
  (∃ s : State, ∃ n : Nat, Runs s ∧ s.dev.real < (s.dev.session n).lastValid + msTc (1000 * s.dev.bcp.idle)) ∧
  (∃ s : State, ∃ n : Nat, Runs s ∧ s.dev.served n = true ∧ (s.dev.session n).lastValid + msTc (1000 * s.dev.bcp.idle) ≤ s.dev.real) ∧
  (∃ s : State, ∃ i : Nat, Runs s ∧ (let aged (t : Nat) : Prop := t + msTc (1000 * s.dev.bcp.hold) ≤ s.dev.real;
    ∃ b, s.dev.mm.buffers[i]? = some b ∧ aged b.touchedAt)) :=
  ⟨⟨dev fun d => { sessDev d with sec := { (sessDev d).sec with drbgStopped := true } }, hello0, by decide +kernel⟩,
    ⟨dev sessDev, { hello0 with rootHash := 54 }, by decide +kernel⟩,
    ⟨dev sessDev, hello0, by decide +kernel, by decide +kernel, by decide +kernel, by decide +kernel, by decide +kernel, by decide +kernel, 2, .operator, by decide +kernel⟩,
    ⟨dev fun d => { sessDev d with bcp := { (sessDev d).bcp with handshakes := [hs0] } }, 0, 45, 1, hs0, by decide +kernel⟩,
    ⟨dev sessDev, 0, 44, 8, 0, by decide +kernel⟩,
    ⟨dev sessDev, 0, 44, 3, 1, 0, by decide +kernel⟩,
    ⟨dev sessDev, 0, 44, 3, 64, 0, .request .ping, by decide +kernel, by decide +kernel, by decide +kernel, by decide +kernel, by decide +kernel, by decide +kernel, by decide +kernel, by decide +kernel, 63, by decide +kernel⟩,
    ⟨dev sessDev, 0, 44, 3, 0, 8, 0, .request .ping, by decide +kernel, by decide +kernel, by decide +kernel, by decide +kernel, by decide +kernel, by decide +kernel, by decide +kernel, by decide +kernel, ⟨0, 8, 1, 0, [4]⟩, by decide +kernel⟩,
    ⟨dev sessDev, 0, 44, 3, 65, 0, .request .ping, by decide +kernel⟩,
    ⟨dev sessDev, 0, by decide +kernel⟩,
    ⟨dev fun d => { sessDev d with held := [hr0] }, 0, by decide +kernel, by decide +kernel, by decide +kernel, hr0, by decide +kernel⟩,
    ⟨dev sessDev, 0, by decide +kernel⟩,
    ⟨dev (sessDev ∘ late), 0, by decide +kernel⟩,
    ⟨dev fun d => { sessDev (late d) with mm := { d.mm with buffers := [buf0] } }, 0, by decide +kernel, buf0, by decide +kernel⟩⟩

/-- The hypotheses of SessionRegisterTimeAndLogCommands can be met, clause by clause. -/
theorem test_meets_sessionRegisterTimeAndLogCommands :
  (∃ s : State, ∃ who : Nat, Runs s ∧ MaySend s.dev who 0x0001 .observer) ∧
  (∃ s : State, ∃ who : Nat, Runs s ∧ MaySend s.dev who 0x0002 .observer) ∧
  (∃ s : State, ∃ who : Nat, Runs s ∧ MaySend s.dev who 0x0003 .observer) ∧
  (∃ s : State, ∃ who : Nat, ∃ a : Nat, ∃ b : Nat, ∃ off : Nat, Runs s ∧ MaySend s.dev who cmdRegRead .observer ∧
    blockOf a = some (b, off) ∧ (blockOf (a + 3)).map (fun e => e.1) = some b ∧ s.dev.blockAccess b = stOK ∧
    s.dev.hasRole who (readRole b (s.dev.session who).bank off) = true ∧ a % 4 = 0) ∧
  (∃ s : State, ∃ who : Nat, ∃ a : Nat, ∃ b : Nat, ∃ off : Nat, Runs s ∧ MaySend s.dev who cmdRegRead .observer ∧
    blockOf a = some (b, off) ∧ (blockOf (a + 3)).map (fun e => e.1) = some b ∧ s.dev.blockAccess b = stOK ∧
    s.dev.hasRole who (readRole b (s.dev.session who).bank off) = true ∧ a % 4 ≠ 0) ∧
  (∃ s : State, ∃ who : Nat, ∃ a : Nat, ∃ b : Nat, ∃ off : Nat, Runs s ∧ MaySend s.dev who cmdRegRead .observer ∧
    blockOf a = some (b, off) ∧ (blockOf (a + 3)).map (fun e => e.1) = some b ∧ s.dev.blockAccess b = stOK ∧
    s.dev.hasRole who (readRole b (s.dev.session who).bank off) = false) ∧
  (∃ s : State, ∃ who : Nat, ∃ a : Nat, Runs s ∧ MaySend s.dev who cmdRegRead .observer ∧ blockOf a = none) ∧
  (∃ s : State, ∃ who : Nat, Runs s ∧ MaySend s.dev who cmdRegWrite .maintainer) ∧
  (∃ s : State, ∃ who : Nat, ∃ a : Nat, ∃ v : Nat, ∃ b : Nat, ∃ off : Nat, Runs s ∧
    MaySend s.dev who cmdRegWrite .maintainer ∧ blockOf a = some (b, off) ∧
    ((s.dev.writeRole b (s.dev.session who).bank off (v % 2 ^ 32)).any fun r => s.dev.hasRole who r) = false) ∧
  (∃ s : State, ∃ who : Nat, Runs s ∧ MaySend s.dev who 0x0020 .operator ∧ s.dev.tb.ppsAt = none) ∧
  (∃ s : State, ∃ who : Nat, Runs s ∧ MaySend s.dev who 0x0021 .owner) ∧
  (∃ s : State, ∃ who : Nat, ∃ u : Nat, ∃ c : Nat, ∃ p : Nat, Runs s ∧ MaySend s.dev who 0x0060 .maintainer ∧
    unitCheck s.dev u = stOK ∧ unitLevel u = 0 ∧ unitPhys u = false ∧ s.dev.flt.fenced.contains (unitDieOf u) = false ∧
    s.dev.physOf (unitLtOf u) = some p ∧ s.dev.testUnit (unitPt p) c = true ∧ 1 ≤ c ∧ c ≤ 4) ∧
  (∃ s : State, ∃ who : Nat, Runs s ∧ MaySend s.dev who 0x0061 .owner ∧ s.dev.sec.mode ≠ .error ∧ s.dev.start.st ≠ .reset) ∧
  (∃ s : State, ∃ who : Nat, Runs s ∧ MaySend s.dev who 0x0070 .observer) ∧
  (∃ s : State, ∃ who : Nat, ∃ n : Nat, Runs s ∧ MaySend s.dev who 0x0071 .observer ∧ 1 ≤ n ∧ n ≤ 8) ∧
  (∃ s : State, ∃ who : Nat, ∃ n : Nat, Runs s ∧ MaySend s.dev who 0x0071 .observer ∧ (n = 0 ∨ 8 < n)) ∧
  (∃ s : State, ∃ who : Nat, ∃ n : Nat, Runs s ∧ MaySend s.dev who 0x0072 .observer ∧ 1 ≤ n ∧ n ≤ 32) ∧
  (∃ s : State, ∃ who : Nat, ∃ n : Nat, Runs s ∧ MaySend s.dev who 0x0072 .observer ∧ (n = 0 ∨ 32 < n)) :=
  ⟨⟨dev rdy, 0, by decide +kernel⟩,
    ⟨dev rdy, 0, by decide +kernel⟩,
    ⟨dev rdy, 0, by decide +kernel⟩,
    ⟨dev rdy, 0, 0x20004, 3, 4, by decide +kernel⟩,
    ⟨dev rdy, 0, 0x20005, 3, 5, by decide +kernel⟩,
    ⟨dev (sess 0 .observer ∘ rdy), 0, 0x70000, 10, 0, by decide +kernel⟩,
    ⟨dev rdy, 0, 0xB0000, by decide +kernel⟩,
    ⟨dev rdy, 0, by decide +kernel⟩,
    ⟨dev (sess 0 .maintainer ∘ rdy), 0, 0x20010, 0, 3, 16, by decide +kernel⟩,
    ⟨dev rdy, 0, by decide +kernel⟩,
    ⟨dev (strm 1 (fun x => { x with st := .active }) ∘ rdy), 0, by decide +kernel⟩,
    ⟨dev rdy, 0, unitLt 2, 4, 2, by decide +kernel⟩,
    ⟨dev rdy, 0, by decide +kernel⟩,
    ⟨dev fun d => (rdy d).updSession 0 fun x => { x with notices := [⟨3, 1, 0⟩, ⟨4, 1, 0⟩] }, 0, by decide +kernel⟩,
    ⟨dev rdy, 0, 8, by decide +kernel⟩,
    ⟨dev rdy, 0, 9, by decide +kernel⟩,
    ⟨dev rdy, 0, 32, by decide +kernel⟩,
    ⟨dev rdy, 0, 33, by decide +kernel⟩⟩

/-- The hypotheses of ClaimCommandsFollowTheConversation can be met, clause by clause. -/
theorem test_meets_claimCommandsFollowTheConversation :
  (∃ s : State, ∃ who : Nat, ∃ st : Nat, Runs s ∧ MaySend s.dev who 0x0030 .operator ∧ 255 < st) ∧
  (∃ s : State, ∃ who : Nat, ∃ st : Nat, ∃ tag : Nat, ∃ n : Nat, Runs s ∧ MaySend s.dev who 0x0030 .operator ∧ st < 256 ∧ s.dev.conv st tag = none ∧ 64 ≤ n ∧ n ≤ 1048576 ∧ (s.dev.stream st).st = .free ∧ (∀ c, c ∈ s.dev.adm.convs → c.stream ≠ st)) ∧
  (∃ s : State, ∃ who : Nat, ∃ st : Nat, ∃ tag : Nat, Runs s ∧ MaySend s.dev who 0x0030 .operator ∧ (∃ c, st < 256 ∧ s.dev.conv st tag = some c)) ∧
  (∃ s : State, ∃ who : Nat, ∃ st : Nat, ∃ tag : Nat, ∃ off : Nat, ∃ data : List Byte, ∃ c : ClaimConv, Runs s ∧ MaySend s.dev who 0x0031 .operator ∧ st < 256 ∧ 1 ≤ data.length ∧ data.length ≠ 0xFFFF ∧ data.length + 64 ≤ (s.dev.session who).blockSize ∧ s.dev.conv st tag = some c ∧ off + data.length ≤ c.length ∧ c.st = .opened) ∧
  (∃ s : State, ∃ who : Nat, ∃ st : Nat, ∃ tag : Nat, ∃ off : Nat, ∃ data : List Byte, ∃ c : ClaimConv, Runs s ∧ MaySend s.dev who 0x0031 .operator ∧ st < 256 ∧ 1 ≤ data.length ∧ data.length ≠ 0xFFFF ∧ data.length + 64 ≤ (s.dev.session who).blockSize ∧ s.dev.conv st tag = some c ∧ off + data.length ≤ c.length ∧ c.st ≠ .opened) ∧
  (∃ s : State, ∃ who : Nat, ∃ st : Nat, ∃ tag : Nat, ∃ off : Nat, ∃ data : List Byte, ∃ c : ClaimConv, Runs s ∧ MaySend s.dev who 0x0031 .operator ∧ st < 256 ∧ 1 ≤ data.length ∧ data.length ≠ 0xFFFF ∧ data.length + 64 ≤ (s.dev.session who).blockSize ∧ s.dev.conv st tag = some c ∧ c.length < off + data.length) ∧
  (∃ s : State, ∃ who : Nat, ∃ st : Nat, ∃ tag : Nat, ∃ c : ClaimConv, Runs s ∧ MaySend s.dev who 0x0032 .operator ∧ st < 256 ∧ s.dev.conv st tag = some c ∧ c.st = .opened ∧ c.length ≤ c.received ∧ s.dev.adm.queue.length < 4) ∧
  (∃ s : State, ∃ who : Nat, ∃ st : Nat, ∃ tag : Nat, ∃ c : ClaimConv, Runs s ∧ MaySend s.dev who 0x0032 .operator ∧ st < 256 ∧ s.dev.conv st tag = some c ∧ c.st = .opened ∧ c.length ≤ c.received ∧ 4 ≤ s.dev.adm.queue.length) ∧
  (∃ s : State, ∃ who : Nat, ∃ st : Nat, Runs s ∧ MaySend s.dev who 0x0033 .observer ∧ st < 256 ∧ (∀ c, c ∈ s.dev.adm.convs → c.stream ≠ st)) ∧
  (∃ s : State, ∃ who : Nat, ∃ st : Nat, Runs s ∧ MaySend s.dev who 0x0033 .observer ∧ st < 256 ∧ (∃ c, s.dev.adm.convs.find? (fun c => c.stream = st) = some c ∧ (c.st = .opened ∨ c.st = .queued))) ∧
  (∃ s : State, ∃ who : Nat, ∃ st : Nat, Runs s ∧ MaySend s.dev who 0x0033 .observer ∧ st < 256 ∧ (∃ c, s.dev.adm.convs.find? (fun c => c.stream = st) = some c ∧ c.st = .accepted)) ∧
  (∃ s : State, ∃ who : Nat, ∃ st : Nat, Runs s ∧ MaySend s.dev who 0x0033 .observer ∧ st < 256 ∧ (∃ c, ∃ r, s.dev.adm.convs.find? (fun c => c.stream = st) = some c ∧ c.st = .refused ∧ c.refusal = some r)) ∧
  (∃ s : State, ∃ who : Nat, ∃ st : Nat, ∃ tag : Nat, Runs s ∧ MaySend s.dev who 0x0034 .operator ∧ st < 256 ∧ (∃ c, s.dev.conv st tag = some c ∧ (c.st = .opened ∨ c.st = .queued))) ∧
  (∃ s : State, ∃ who : Nat, ∃ st : Nat, ∃ tag : Nat, Runs s ∧ MaySend s.dev who 0x0034 .operator ∧ st < 256 ∧ s.dev.conv st tag = none ∧ (s.dev.stream st).tag = tag ∧ (s.dev.stream st).st = .active ∧ s.dev.adm.queue.length < 4) ∧
  (∃ s : State, ∃ who : Nat, ∃ st : Nat, ∃ tag : Nat, Runs s ∧ MaySend s.dev who 0x0034 .operator ∧ st < 256 ∧ s.dev.conv st tag = none ∧ (s.dev.stream st).st = .free) :=
  ⟨⟨dev rdy, 0, 256, by decide +kernel⟩,
    ⟨dev rdy, 0, 1, 9, 64, by decide +kernel⟩,
    ⟨dev (convDev conv0), 0, 1, 9, by decide +kernel, by decide +kernel, conv0, by decide +kernel⟩,
    ⟨dev (convDev { conv0 with st := .opened }), 0, 1, 9, 94, [3, 4], { conv0 with st := .opened }, by decide +kernel⟩,
    ⟨dev (convDev conv0), 0, 1, 9, 94, [3, 4], conv0, by decide +kernel⟩,
    ⟨dev (convDev conv0), 0, 1, 9, 95, [3, 4], conv0, by decide +kernel⟩,
    ⟨dev (convDev { conv0 with st := .opened, length := 64 }), 0, 1, 9, { conv0 with st := .opened, length := 64 }, by decide +kernel⟩,
    ⟨dev fun d => { rdy d with adm := { d.adm with convs := [{ conv0 with st := .opened, length := 64 }], queue := [.claim 5 0, .claim 6 0, .claim 7 0, .claim 8 0] } }, 0, 1, 9, { conv0 with st := .opened, length := 64 }, by decide +kernel⟩,
    ⟨dev rdy, 0, 1, by decide +kernel⟩,
    ⟨dev (convDev conv0), 0, 1, by decide +kernel, by decide +kernel, by decide +kernel, conv0, by decide +kernel⟩,
    ⟨dev (convDev { conv0 with st := .accepted }), 0, 1, by decide +kernel, by decide +kernel, by decide +kernel, { conv0 with st := .accepted }, by decide +kernel⟩,
    ⟨dev (convDev { conv0 with st := .refused, refusal := some ⟨1, 2, 3, 4, 5, 6, 7⟩ }), 0, 1, by decide +kernel, by decide +kernel, by decide +kernel, { conv0 with st := .refused, refusal := some ⟨1, 2, 3, 4, 5, 6, 7⟩ }, ⟨1, 2, 3, 4, 5, 6, 7⟩, by decide +kernel⟩,
    ⟨dev fun d => { convDev conv0 d with adm := { (convDev conv0 d).adm with queue := [.claim 1 9, .claim 2 9] } }, 0, 1, 9, by decide +kernel, by decide +kernel, by decide +kernel, conv0, by decide +kernel⟩,
    ⟨dev (strm 1 (fun x => { x with st := .active, tag := 9 }) ∘ rdy), 0, 1, 9, by decide +kernel⟩,
    ⟨dev rdy, 0, 1, 9, by decide +kernel⟩⟩

/-- The hypotheses of ModelCommandsLoadAndSwitchEpochs can be met, clause by clause. -/
theorem test_meets_modelCommandsLoadAndSwitchEpochs :
  (∃ s : State, ∃ who : Nat, ∃ m : Nat, ∃ v : Nat, ∃ n : Nat, ∃ src : Nat, Runs s ∧ MaySend s.dev who 0x0040 .operator ∧ m ≠ 0 ∧ src ≤ 2 ∧ s.dev.areaOf m v = none ∧ s.dev.bufferOf m v = none ∧ 1 ≤ n ∧ n ≤ 459072 ∧ s.dev.mm.buffers.length < 4) ∧
  (∃ s : State, ∃ who : Nat, ∃ m : Nat, ∃ v : Nat, ∃ n : Nat, ∃ src : Nat, Runs s ∧ MaySend s.dev who 0x0040 .operator ∧ m ≠ 0 ∧ src ≤ 2 ∧ s.dev.areaOf m v = none ∧ s.dev.bufferOf m v = none ∧ 1 ≤ n ∧ n ≤ 459072 ∧ 4 ≤ s.dev.mm.buffers.length) ∧
  (∃ s : State, ∃ who : Nat, ∃ m : Nat, ∃ v : Nat, ∃ off : Nat, ∃ n : Nat, ∃ a : Nat, ∃ data : List Byte, Runs s ∧ MaySend s.dev who 0x0041 .operator ∧ s.dev.areaOf m v = some (n, a) ∧ memWf s.dev.hbm.mem = true ∧ (∃ st, (s.dev.area n a).blockCheck (s.dev.session who).blockSize off data.length = some st)) ∧
  (∃ s : State, ∃ who : Nat, ∃ m : Nat, ∃ v : Nat, ∃ off : Nat, ∃ n : Nat, ∃ a : Nat, ∃ data : List Byte, Runs s ∧ MaySend s.dev who 0x0041 .operator ∧ s.dev.areaOf m v = some (n, a) ∧ memWf s.dev.hbm.mem = true ∧ (s.dev.area n a).blockCheck (s.dev.session who).blockSize off data.length = none) ∧
  (∃ s : State, ∃ who : Nat, ∃ m : Nat, ∃ v : Nat, ∃ off : Nat, ∃ data : List Byte, ∃ b : ManifestBuf, Runs s ∧ MaySend s.dev who 0x0041 .operator ∧ s.dev.bufferOf m v = some b ∧ 1 ≤ data.length ∧ data.length ≠ 0xFFFF ∧ data.length ≤ (s.dev.session who).blockSize ∧ off + data.length ≤ b.length) ∧
  (∃ s : State, ∃ who : Nat, ∃ m : Nat, ∃ v : Nat, ∃ b : ManifestBuf, Runs s ∧ MaySend s.dev who 0x0042 .operator ∧ s.dev.bufferOf m v = some b ∧ b.full = false) ∧
  (∃ s : State, ∃ who : Nat, ∃ m : Nat, ∃ v : Nat, ∃ dig : Nat, ∃ key : Nat, ∃ ok : Bool, ∃ b : ManifestBuf, Runs s ∧ MaySend s.dev who 0x0042 .operator ∧ s.dev.bufferOf m v = some b ∧ b.full = true ∧ s.dev.areaOf m v = none ∧ (∃ st, ∃ i, s.dev.checkObject (b.read dig key) m v ok = some (st, i))) ∧
  (∃ s : State, ∃ who : Nat, ∃ m : Nat, ∃ v : Nat, ∃ dig : Nat, ∃ key : Nat, ∃ ok : Bool, ∃ b : ManifestBuf, Runs s ∧ MaySend s.dev who 0x0042 .operator ∧ s.dev.bufferOf m v = some b ∧ b.full = true ∧ s.dev.areaOf m v = none ∧ s.dev.checkObject (b.read dig key) m v ok = none) ∧
  (∃ s : State, ∃ who : Nat, ∃ m : Nat, ∃ v : Nat, Runs s ∧ MaySend s.dev who 0x0043 .observer ∧ (∃ n, ∃ a, s.dev.areaOf m v = some (n, a))) ∧
  (∃ s : State, ∃ who : Nat, ∃ m : Nat, ∃ v : Nat, Runs s ∧ MaySend s.dev who 0x0043 .observer ∧ s.dev.areaOf m v = none ∧ s.dev.bufferOf m v = none) ∧
  (∃ s : State, ∃ who : Nat, ∃ m : Nat, ∃ v : Nat, ∃ n : Nat, ∃ a : Nat, Runs s ∧ MaySend s.dev who 0x0044 .operator ∧ s.dev.areaOf m v = some (n, a) ∧ (s.dev.area n a).st = .failed) ∧
  (∃ s : State, ∃ who : Nat, ∃ m : Nat, ∃ v : Nat, ∃ n : Nat, ∃ a : Nat, Runs s ∧ MaySend s.dev who 0x0044 .operator ∧ s.dev.areaOf m v = some (n, a) ∧ (s.dev.area n a).st ≠ .failed) ∧
  (∃ s : State, ∃ who : Nat, ∃ m : Nat, ∃ v : Nat, ∃ n : Nat, ∃ a : Nat, Runs s ∧ MaySend s.dev who 0x0045 .operator ∧ s.dev.areaOf m v = some (n, a) ∧ (s.dev.modelSlot n).plan.isSome = true) ∧
  (∃ s : State, ∃ who : Nat, ∃ m : Nat, ∃ v : Nat, ∃ n : Nat, ∃ a : Nat, Runs s ∧ MaySend s.dev who 0x0045 .operator ∧ s.dev.areaOf m v = some (n, a) ∧ (s.dev.modelSlot n).plan = none ∧ (s.dev.area n a).st = .active ∧ s.dev.streamsOfModel m ≠ []) ∧
  (∃ s : State, ∃ who : Nat, ∃ m : Nat, ∃ v : Nat, ∃ n : Nat, ∃ a : Nat, Runs s ∧ MaySend s.dev who 0x0045 .operator ∧ s.dev.areaOf m v = some (n, a) ∧ (s.dev.modelSlot n).plan = none ∧ (s.dev.area n a).st ≠ .active ∧ (s.dev.area n (1 - a)).st = .empty) ∧
  (∃ s : State, ∃ who : Nat, ∃ n : Nat, Runs s ∧ MaySend s.dev who 0x0046 .operator ∧ 15 < n) ∧
  (∃ s : State, ∃ who : Nat, ∃ n : Nat, Runs s ∧ MaySend s.dev who 0x0046 .operator ∧ n ≤ 15 ∧ (s.dev.modelSlot n).plan.isSome = true) ∧
  (∃ s : State, ∃ who : Nat, ∃ n : Nat, Runs s ∧ MaySend s.dev who 0x0046 .operator ∧ n ≤ 15 ∧ (s.dev.modelSlot n).plan = none ∧ (s.dev.modelSlot n).area0.st ≠ .staged ∧ (s.dev.modelSlot n).area1.st ≠ .staged) ∧
  (∃ s : State, ∃ who : Nat, ∃ n : Nat, Runs s ∧ MaySend s.dev who 0x0046 .operator ∧ (∃ a, n ≤ 15 ∧ (s.dev.modelSlot n).plan = none ∧ [0, 1].find? (fun a => decide (((s.dev.modelSlot n).area a).st = .staged)) = some a ∧ (∀ e, e ∈ ((s.dev.modelSlot n).area a).partner → s.dev.flt.fenced.contains (ltDie e.2) = false) ∧ ((s.dev.modelSlot n).area (1 - a)).st ≠ .active)) ∧
  (∃ s : State, ∃ who : Nat, ∃ n : Nat, Runs s ∧ MaySend s.dev who 0x0046 .operator ∧ (∃ a, n ≤ 15 ∧ (s.dev.modelSlot n).plan = none ∧ [0, 1].find? (fun a => decide (((s.dev.modelSlot n).area a).st = .staged)) = some a ∧ (∀ e, e ∈ ((s.dev.modelSlot n).area a).partner → s.dev.flt.fenced.contains (ltDie e.2) = false) ∧ ((s.dev.modelSlot n).area (1 - a)).st = .active ∧ s.dev.switchPlan (s.dev.modelSlot n) = none)) ∧
  (∃ s : State, ∃ who : Nat, ∃ n : Nat, Runs s ∧ MaySend s.dev who 0x0046 .operator ∧ (∃ a, n ≤ 15 ∧ (s.dev.modelSlot n).plan = none ∧ [0, 1].find? (fun a => decide (((s.dev.modelSlot n).area a).st = .staged)) = some a ∧ (∀ e, e ∈ ((s.dev.modelSlot n).area a).partner → s.dev.flt.fenced.contains (ltDie e.2) = false) ∧ (∃ p, ((s.dev.modelSlot n).area (1 - a)).st = .active ∧ s.dev.switchPlan (s.dev.modelSlot n) = some p ∧ ((s.dev.modelSlot n).area a).epoch % 2 = a))) ∧
  (∃ s : State, ∃ who : Nat, ∃ n : Nat, Runs s ∧ MaySend s.dev who 0x0047 .operator ∧ n ≤ 15 ∧ (∃ a, [0, 1].find? (fun a => decide (((s.dev.modelSlot n).area a).st = .active)) = some a)) ∧
  (∃ s : State, ∃ who : Nat, ∃ n : Nat, Runs s ∧ MaySend s.dev who 0x0047 .operator ∧ n ≤ 15 ∧ (s.dev.modelSlot n).area0.st ≠ .active ∧ (s.dev.modelSlot n).area1.st ≠ .active) ∧
  (∃ s : State, ∃ who : Nat, ∃ u : Nat, Runs s ∧ MaySend s.dev who 0x0048 .maintainer ∧ unitCheck s.dev u = stOK ∧ unitLevel u = 0 ∧ unitPhys u = false ∧ s.dev.flt.fenced.contains (ltDie (unitLtOf u)) = true) ∧
  (∃ s : State, ∃ who : Nat, ∃ u : Nat, ∃ p : Nat, Runs s ∧ MaySend s.dev who 0x0048 .maintainer ∧ unitCheck s.dev u = stOK ∧ unitLevel u = 0 ∧ unitPhys u = false ∧ s.dev.flt.fenced.contains (ltDie (unitLtOf u)) = false ∧ s.dev.physOf (unitLtOf u) = some p) :=
  ⟨⟨dev rdy, 0, 5, 6, 459072, 2, by decide +kernel⟩,
    ⟨dev fun d => { rdy d with mm := { d.mm with buffers := List.replicate 4 { buf0 with model := 1 } } }, 0, 5, 6, 2, 2, by decide +kernel⟩,
    ⟨dev (modelAt fun a => { a with st := .receiving, shards := [{ shard0 with units := [] }] }), 0, 5, 6, 65, 2, 1, List.replicate 64 9, by decide +kernel, by decide +kernel, by decide +kernel, by decide +kernel, 0x0204, by decide +kernel⟩,
    ⟨dev (modelAt fun a => { a with st := .receiving, shards := [{ shard0 with units := [0] }] }), 0, 5, 6, 64, 2, 1, List.replicate 64 9, by decide +kernel⟩,
    ⟨dev buffered, 0, 5, 6, 352, List.replicate 64 9, buf0, by decide +kernel⟩,
    ⟨dev fun d => { buffered d with mm := { d.mm with buffers := [{ buf0 with blocks := [] }] } }, 0, 5, 6, { buf0 with blocks := [] }, by decide +kernel⟩,
    ⟨dev buffered, 0, 5, 6, 7, 55, false, buf0, by decide +kernel, by decide +kernel, by decide +kernel, by decide +kernel, by decide +kernel, 0x0502, 0xFFFFFFFF, by decide +kernel⟩,
    ⟨dev buffered, 0, 5, 6, 7, 55, true, buf0, by decide +kernel⟩,
    ⟨dev (modelAt fun a => { a with st := .receiving }), 0, 5, 6, by decide +kernel, by decide +kernel, 2, 1, by decide +kernel⟩,
    ⟨dev rdy, 0, 5, 6, by decide +kernel⟩,
    ⟨dev (modelAt fun a => { a with st := .failed, failStatus := 7 }), 0, 5, 6, 2, 1, by decide +kernel⟩,
    ⟨dev (modelAt fun a => { a with st := .receiving }), 0, 5, 6, 2, 1, by decide +kernel⟩,
    ⟨dev fun d => (modelAt (fun a => { a with st := .active }) d).updModelSlot 2 fun m => { m with plan := some { streams := [], regions := [] } }, 0, 5, 6, 2, 1, by decide +kernel⟩,
    ⟨dev (strm 1 (fun x => { x with st := .active, model := 5 }) ∘ modelAt fun a => { a with st := .active }), 0, 5, 6, 2, 1, by decide +kernel⟩,
    ⟨dev (modelAt fun a => { a with st := .staged }), 0, 5, 6, 2, 1, by decide +kernel⟩,
    ⟨dev rdy, 0, 16, by decide +kernel⟩,
    ⟨dev (twoEpochs .staged .active fun m => { m with plan := some { streams := [], regions := [] } }), 0, 2, by decide +kernel⟩,
    ⟨dev (twoEpochs .staging .active id), 0, 2, by decide +kernel⟩,
    ⟨dev (twoEpochs .empty .staged id), 0, 2, by decide +kernel, by decide +kernel, 1, by decide +kernel⟩,
    ⟨dev (strm 1 (fun x => { x with st := .active, model := 5, almanac := 20, programs := [⟨0, 0, 0, 64, 0, [], []⟩] }) ∘ (fun d => { d with mm := { d.mm with switchHorizon := 0 } }) ∘ twoEpochs .staged .active id), 0, 2, by decide +kernel, by decide +kernel, 0, by decide +kernel⟩,
    ⟨dev (twoEpochs .staged .active id), 0, 2, by decide +kernel, by decide +kernel, 0, by decide +kernel, by decide +kernel, by decide +kernel, by decide +kernel, ((dev (twoEpochs .staged .active id)).dev.switchPlan ((dev (twoEpochs .staged .active id)).dev.modelSlot 2)).getD ⟨[], []⟩, by decide +kernel⟩,
    ⟨dev (twoEpochs .staged .active id), 0, 2, by decide +kernel, by decide +kernel, by decide +kernel, 1, by decide +kernel⟩,
    ⟨dev (twoEpochs .staged .staging id), 0, 2, by decide +kernel⟩,
    ⟨dev fun d => { rdy d with flt := { d.flt with fenced := [0] } }, 0, unitLt 2, by decide +kernel⟩,
    ⟨dev rdy, 0, unitLt 2, 2, by decide +kernel⟩⟩

/-- The hypotheses of FirmwareAndSecurityCommands can be met, clause by clause. -/
theorem test_meets_firmwareAndSecurityCommands :
  (∃ s : State, ∃ who : Nat, ∃ key : Nat, ∃ ok : Bool, ∃ data : List Byte, Runs s ∧ MaySend s.dev who 0x0050 .owner ∧ data.length = 512 ∧ (let h := readFwHeader data key ok;
    h.reservedZero = true ∧ h.fieldsOk = true ∧ h.offsetsOk = true ∧ s.dev.sec.fw.st = .none ∧ s.dev.sec.activation = none ∧ key ≠ s.dev.sec.vendorAnchor)) ∧
  (∃ s : State, ∃ who : Nat, ∃ key : Nat, ∃ ok : Bool, ∃ data : List Byte, Runs s ∧ MaySend s.dev who 0x0050 .owner ∧ data.length = 512 ∧ (let h := readFwHeader data key ok;
    h.reservedZero = true ∧ h.fieldsOk = true ∧ h.offsetsOk = true ∧ s.dev.sec.fw.st = .none ∧ s.dev.sec.activation = none ∧ key = s.dev.sec.vendorAnchor ∧ ok = false)) ∧
  (∃ s : State, ∃ who : Nat, ∃ key : Nat, ∃ ok : Bool, ∃ data : List Byte, Runs s ∧ MaySend s.dev who 0x0050 .owner ∧ data.length = 512 ∧ (let h := readFwHeader data key ok;
    h.reservedZero = true ∧ h.fieldsOk = true ∧ h.offsetsOk = true ∧ s.dev.sec.fw.st = .none ∧ s.dev.sec.activation = none ∧ key = s.dev.sec.vendorAnchor ∧ ok = true ∧ s.dev.sec.svnsOk h = false)) ∧
  (∃ s : State, ∃ who : Nat, ∃ key : Nat, ∃ ok : Bool, ∃ data : List Byte, Runs s ∧ MaySend s.dev who 0x0050 .owner ∧ data.length = 512 ∧ (let h := readFwHeader data key ok;
    h.reservedZero = true ∧ h.fieldsOk = true ∧ h.offsetsOk = true ∧ s.dev.sec.fw.st = .none ∧ s.dev.sec.activation = none ∧ key = s.dev.sec.vendorAnchor ∧ ok = true ∧ s.dev.sec.svnsOk h = true ∧ s.dev.sec.fwVersion ≤ h.version)) ∧
  (∃ s : State, ∃ who : Nat, ∃ data : List Byte, Runs s ∧ MaySend s.dev who 0x0050 .owner ∧ data.length ≠ 512) ∧
  (∃ s : State, ∃ who : Nat, ∃ off : Nat, ∃ data : List Byte, ∃ h : FwHeader, Runs s ∧ MaySend s.dev who 0x0051 .owner ∧ s.dev.sec.fw.header = some h ∧ s.dev.sec.fw.st = .receiving ∧ 1 ≤ data.length ∧ data.length ≠ 0xFFFF ∧ data.length ≤ (s.dev.session who).blockSize ∧ off + data.length ≤ h.payloadLength ∧ h.partAt off = h.partAt (off + data.length - 1) ∧ off % 64 = 0 ∧ data.length % 64 = 0 ∧ bit s.dev.sec.fw.verified (h.partAt off) = false ∧ (let us := (List.range (data.length / 64)).map fun i => off / 64 + i;
    let c : FwConv := { s.dev.sec.fw with
      buf := memWrite s.dev.sec.fw.buf off data, touchedAt := s.dev.real,
      units := s.dev.sec.fw.units ++ us.filter fun u => !s.dev.sec.fw.units.contains u };
    c.partFull (h.part (h.partAt off)) = false)) ∧
  (∃ s : State, ∃ who : Nat, ∃ off : Nat, ∃ digest : Nat, ∃ data : List Byte, ∃ h : FwHeader, Runs s ∧ MaySend s.dev who 0x0051 .owner ∧ s.dev.sec.fw.header = some h ∧ s.dev.sec.fw.st = .receiving ∧ 1 ≤ data.length ∧ data.length ≠ 0xFFFF ∧ data.length ≤ (s.dev.session who).blockSize ∧ off + data.length ≤ h.payloadLength ∧ h.partAt off = h.partAt (off + data.length - 1) ∧ off % 64 = 0 ∧ data.length % 64 = 0 ∧ bit s.dev.sec.fw.verified (h.partAt off) = false ∧ (let us := (List.range (data.length / 64)).map fun i => off / 64 + i;
    let c : FwConv := { s.dev.sec.fw with
      buf := memWrite s.dev.sec.fw.buf off data, touchedAt := s.dev.real,
      units := s.dev.sec.fw.units ++ us.filter fun u => !s.dev.sec.fw.units.contains u };
    c.partFull (h.part (h.partAt off)) = true ∧ digest ≠ (h.part (h.partAt off)).digest)) ∧
  (∃ s : State, ∃ who : Nat, ∃ off : Nat, ∃ digest : Nat, ∃ data : List Byte, ∃ h : FwHeader, Runs s ∧ MaySend s.dev who 0x0051 .owner ∧ s.dev.sec.fw.header = some h ∧ s.dev.sec.fw.st = .receiving ∧ 1 ≤ data.length ∧ data.length ≠ 0xFFFF ∧ data.length ≤ (s.dev.session who).blockSize ∧ off + data.length ≤ h.payloadLength ∧ h.partAt off = h.partAt (off + data.length - 1) ∧ off % 64 = 0 ∧ data.length % 64 = 0 ∧ bit s.dev.sec.fw.verified (h.partAt off) = false ∧ (let us := (List.range (data.length / 64)).map fun i => off / 64 + i;
    let c : FwConv := { s.dev.sec.fw with
      buf := memWrite s.dev.sec.fw.buf off data, touchedAt := s.dev.real,
      units := s.dev.sec.fw.units ++ us.filter fun u => !s.dev.sec.fw.units.contains u };
    c.partFull (h.part (h.partAt off)) = true ∧ digest = (h.part (h.partAt off)).digest)) ∧
  (∃ s : State, ∃ who : Nat, ∃ v : Nat, ∃ b : Nat, Runs s ∧ MaySend s.dev who 0x0052 .observer ∧ (∃ h, s.dev.sec.fw.header = some h ∧ s.dev.sec.fw.st ≠ .none ∧ h.version = v ∧ h.build = b)) ∧
  (∃ s : State, ∃ who : Nat, ∃ v : Nat, ∃ b : Nat, Runs s ∧ MaySend s.dev who 0x0052 .observer ∧ (s.dev.sec.fw.st = .none ∨ ∀ h, s.dev.sec.fw.header = some h → ¬ (h.version = v ∧ h.build = b))) ∧
  (∃ s : State, ∃ who : Nat, ∃ n : Nat, Runs s ∧ MaySend s.dev who 0x0053 .owner ∧ 1 ≤ n ∧ n ≤ 10000 ∧ s.dev.sec.fw.st ≠ .staged) ∧
  (∃ s : State, ∃ who : Nat, ∃ n : Nat, Runs s ∧ MaySend s.dev who 0x0053 .owner ∧ 1 ≤ n ∧ n ≤ 10000 ∧ s.dev.sec.fw.st = .staged ∧ s.dev.sec.activation.isSome = true) ∧
  (∃ s : State, ∃ who : Nat, ∃ n : Nat, Runs s ∧ MaySend s.dev who 0x0053 .owner ∧ 1 ≤ n ∧ n ≤ 10000 ∧ s.dev.sec.fw.st = .staged ∧ s.dev.sec.activation = none ∧ s.dev.sec.mode ≠ .recovery ∧ s.dev.noStream = true) ∧
  (∃ s : State, ∃ who : Nat, ∃ n : Nat, Runs s ∧ MaySend s.dev who 0x0054 .observer ∧ n ≠ 32) ∧
  (∃ s : State, ∃ who : Nat, ∃ b : AnchorBody, Runs s ∧ MaySend s.dev who 0x0055 .owner ∧ s.dev.sec.claim = false ∧ s.dev.sec.anchors.length = 4 ∧ b.slot < 4 ∧ (∃ st, s.dev.anchorCheck who b = some st)) ∧
  (∃ s : State, ∃ who : Nat, ∃ k : Nat, ∃ b : AnchorBody, Runs s ∧ MaySend s.dev who 0x0055 .owner ∧ s.dev.sec.claim = false ∧ s.dev.sec.anchors.length = 4 ∧ b.slot < 4 ∧ s.dev.anchorCheck who b = none ∧ b.op = 0 ∧ 3 ≤ k) ∧
  (∃ s : State, ∃ who : Nat, ∃ k : Nat, ∃ b : AnchorBody, Runs s ∧ MaySend s.dev who 0x0055 .owner ∧ s.dev.sec.claim = false ∧ s.dev.sec.anchors.length = 4 ∧ b.slot < 4 ∧ s.dev.anchorCheck who b = none ∧ b.op = 0 ∧ k < 3) ∧
  (∃ s : State, ∃ who : Nat, ∃ k : Nat, ∃ b : AnchorBody, Runs s ∧ MaySend s.dev who 0x0055 .owner ∧ s.dev.sec.claim = false ∧ s.dev.sec.anchors.length = 4 ∧ b.slot < 4 ∧ s.dev.anchorCheck who b = none ∧ b.op = 1 ∧ 1 ≤ k) ∧
  (∃ s : State, ∃ who : Nat, ∃ k : Nat, ∃ b : AnchorBody, Runs s ∧ MaySend s.dev who 0x0055 .owner ∧ s.dev.sec.claim = true ∧ s.dev.sec.anchors.length = 4 ∧ s.dev.anchorCheck who b = none ∧ 3 ≤ k) ∧
  (∃ s : State, ∃ who : Nat, ∃ b : KeyBody, Runs s ∧ MaySend s.dev who 0x0056 .owner ∧ b.reservedZero = true ∧ b.op = 0 ∧ b.length = 72 ∧ b.port ≤ 15 ∧ 1 ≤ b.cknLen ∧ b.cknLen ≤ 32 ∧ (s.dev.sec.keystore.filter fun k => k.port = b.port).length < 2) ∧
  (∃ s : State, ∃ who : Nat, ∃ b : KeyBody, Runs s ∧ MaySend s.dev who 0x0056 .owner ∧ b.reservedZero = true ∧ b.op = 1 ∧ b.length = 40 ∧ b.port ≤ 15 ∧ 1 ≤ b.cknLen ∧ b.cknLen ≤ 32 ∧ (∃ k, k ∈ s.dev.sec.keystore ∧ k.port = b.port ∧ k.ckn = b.ckn)) ∧
  (∃ s : State, ∃ who : Nat, ∃ b : KeyBody, Runs s ∧ MaySend s.dev who 0x0056 .owner ∧ b.reservedZero = true ∧ b.op = 2 ∧ b.length = 40) ∧
  (∃ s : State, ∃ who : Nat, ∃ t : DebugToken, Runs s ∧ MaySend s.dev who 0x0057 .owner ∧ t.length = 256 ∧ t.reservedZero = true ∧ t.scope ≤ 3 ∧ t.magic = 0xD0F1DB60 ∧ t.deviceId = s.dev.sec.deviceId ∧ t.bootId = s.dev.pab.bootId ∧ t.keyHash ≠ s.dev.sec.vendorAnchor) ∧
  (∃ s : State, ∃ who : Nat, ∃ t : DebugToken, Runs s ∧ MaySend s.dev who 0x0057 .owner ∧ t.length = 256 ∧ t.reservedZero = true ∧ t.scope ≤ 3 ∧ t.magic = 0xD0F1DB60 ∧ t.deviceId = s.dev.sec.deviceId ∧ t.bootId = s.dev.pab.bootId ∧ t.keyHash = s.dev.sec.vendorAnchor ∧ t.signatureOk = false) ∧
  (∃ s : State, ∃ who : Nat, ∃ t : DebugToken, Runs s ∧ MaySend s.dev who 0x0057 .owner ∧ t.length = 256 ∧ t.reservedZero = true ∧ t.scope ≤ 3 ∧ t.magic = 0xD0F1DB60 ∧ t.deviceId = s.dev.sec.deviceId ∧ t.bootId = s.dev.pab.bootId ∧ t.keyHash = s.dev.sec.vendorAnchor ∧ t.signatureOk = true) :=
  ⟨⟨dev rdy, 0, 9, true, fwBytes, by decide +kernel, by decide +kernel, by decide +kernel, by decide +kernel⟩,
    ⟨dev rdy, 0, 0, false, fwBytes, by decide +kernel, by decide +kernel, by decide +kernel, by decide +kernel⟩,
    ⟨dev fun d => { rdy d with sec := { d.sec with arb := [1, 0, 0] } }, 0, 0, true, fwBytes, by decide +kernel, by decide +kernel, by decide +kernel, by decide +kernel⟩,
    ⟨dev rdy, 0, 0, true, fwBytes, by decide +kernel, by decide +kernel, by decide +kernel, by decide +kernel⟩,
    ⟨dev rdy, 0, [1], by decide +kernel⟩,
    ⟨dev (fwDev2 { fw0 with components := [fwPart0 0, { fwPart0 1 with length := 128 }, { fwPart0 2 with offset := 192 }], payloadLength := 256 }), 0, 64, List.replicate 64 9, { fw0 with components := [fwPart0 0, { fwPart0 1 with length := 128 }, { fwPart0 2 with offset := 192 }], payloadLength := 256 }, by refine ⟨?_, ?_, ?_, ?_, ?_, ?_, ?_, ?_, ?_, ?_, ?_, ?_, ?_⟩ <;> decide +kernel⟩,
    ⟨dev (fwDev fun c => { c with verified := 5 }), 0, 64, 72, List.replicate 64 9, fw0, by refine ⟨?_, ?_, ?_, ?_, ?_, ?_, ?_, ?_, ?_, ?_, ?_, ?_, ?_⟩ <;> decide +kernel⟩,
    ⟨dev (fwDev fun c => { c with verified := 5 }), 0, 64, 71, List.replicate 64 9, fw0, by refine ⟨?_, ?_, ?_, ?_, ?_, ?_, ?_, ?_, ?_, ?_, ?_, ?_, ?_⟩ <;> decide +kernel⟩,
    ⟨dev (fwDev fun c => { c with verified := 5 }), 0, 3, 4, by decide +kernel, by decide +kernel, fw0, by decide +kernel⟩,
    ⟨dev rdy, 0, 3, 4, by decide +kernel⟩,
    ⟨dev rdy, 0, 5, by decide +kernel⟩,
    ⟨dev fun d => { fwDev (fun c => { c with st := .staged }) d with sec := { (fwDev (fun c => { c with st := .staged }) d).sec with activation := some a0 } }, 0, 5, by decide +kernel⟩,
    ⟨dev (fwDev fun c => { c with st := .staged }), 0, 5, by decide +kernel⟩,
    ⟨dev rdy, 0, 31, by decide +kernel⟩,
    ⟨dev anchored, 0, anchor0 1 0, by decide +kernel, by decide +kernel, by decide +kernel, by decide +kernel, by decide +kernel, stWrongState, by decide +kernel⟩,
    ⟨dev anchored, 0, 3, anchor0 0 2, by decide +kernel⟩,
    ⟨dev anchored, 0, 2, anchor0 0 2, by decide +kernel⟩,
    ⟨dev anchored, 0, 3, anchor0 1 1, by decide +kernel⟩,
    ⟨dev fun d => { anchored d with sec := { (anchored d).sec with claim := true, anchors := [.reset, .reset, .reset, .reset] } }, 0, 3, { anchor0 0 0 with ceiling := 0, hash := 0 }, by decide +kernel⟩,
    ⟨dev rdy, 0, key0, by decide +kernel⟩,
    ⟨dev fun d => { rdy d with sec := { d.sec with keystore := [cak0] } }, 0, { key0 with op := 1, length := 40 }, by decide +kernel⟩,
    ⟨dev fun d => { upPort d with sec := { d.sec with keystore := [cak0] } }, 0, { key0 with op := 2, length := 40 }, by decide +kernel⟩,
    ⟨dev rdy, 0, { debug0 with keyHash := 4 }, by decide +kernel⟩,
    ⟨dev rdy, 0, { debug0 with signatureOk := false }, by decide +kernel⟩,
    ⟨dev rdy, 0, debug0, by decide +kernel⟩⟩

/-- The hypotheses of FirmwareSecurityAndSettingsEvents can be met, clause by clause. -/
theorem test_meets_firmwareSecurityAndSettingsEvents :
  (∃ s : State, Runs s ∧ s.dev.sec.fw.st = .writing) ∧
  (∃ s : State, Runs s ∧ s.dev.sec.fw.st ≠ .writing) ∧
  (∃ s : State, ∃ a : Activation, Runs s ∧ s.dev.sec.activation = some a ∧ a.drain = true ∧ a.q = none ∧ a.limitAt ≤ s.dev.clk.now) ∧
  (∃ s : State, Runs s ∧ (s.dev.sec.activation = none ∨ (∃ a, s.dev.sec.activation = some a ∧ s.dev.clk.now < a.limitAt))) ∧
  (∃ s : State, Runs s ∧ s.dev.sec.drbgStopped = true ∧ s.dev.sec.retestAt + msTc 1000 ≤ s.dev.real ∧ s.dev.sec.retestFails + 1 ≠ 60) ∧
  (∃ s : State, Runs s ∧ s.dev.sec.drbgStopped = true ∧ s.dev.sec.retestAt + msTc 1000 ≤ s.dev.real ∧ s.dev.sec.retestFails + 1 = 60) ∧
  (∃ s : State, Runs s ∧ (s.dev.sec.drbgStopped = false ∨ s.dev.real < s.dev.sec.retestAt + msTc 1000)) ∧
  (∃ s : State, ∃ who : Nat, ∃ t : Nat, Runs s ∧ MayWrite s.dev who .owner ∧ 1 ≤ t ∧ t ≤ 9 ∧ s.dev.settingCheck t s.dev.settings.stage = stOK ∧ (∃ g, (List.range 4).find? (fun g => (lget Generation.blank (s.dev.settings.gens t) g).isBlank) = some g ∧ g < (s.dev.settings.gens t).length)) ∧
  (∃ s : State, ∃ who : Nat, ∃ t : Nat, Runs s ∧ MayWrite s.dev who .owner ∧ 1 ≤ t ∧ t ≤ 9 ∧ s.dev.settingCheck t s.dev.settings.stage = stOK ∧ (List.range 4).find? (fun g => (lget Generation.blank (s.dev.settings.gens t) g).isBlank) = none ∧ who ≠ 8) :=
  ⟨⟨dev (fwDev fun c => { c with st := .writing }), by decide +kernel⟩,
    ⟨dev rdy, by decide +kernel⟩,
    ⟨dev (strm 1 (fun x => { x with st := .active, guarantee := true }) ∘ fun d => { rdy d with sec := { d.sec with activation := some { a0 with q := none, drain := true } } }), { a0 with q := none, drain := true }, by decide +kernel⟩,
    ⟨dev rdy, ⟨by decide +kernel, .inl rfl⟩⟩,
    ⟨dev fun d => { rdy (late d) with sec := { d.sec with drbgStopped := true, retestFails := 3 } }, by decide +kernel⟩,
    ⟨dev fun d => { rdy (late d) with sec := { d.sec with drbgStopped := true, retestFails := 59 } }, by decide +kernel⟩,
    ⟨dev rdy, by decide +kernel⟩,
    ⟨dev fun d => { rdy d with settings := { d.settings with slots := [(5, [.blank, .blank, .blank, .blank])], stage := [0x01010101, 1000, 100, 0, 0, 0, 0, 0, 0, 0, 0, 0] } }, 0, 5, by decide +kernel, by decide +kernel, by decide +kernel, by decide +kernel, by decide +kernel, 0, by decide +kernel⟩,
    ⟨dev fun d => { rdy d with settings := { d.settings with slots := [(5, [.spent, .spent, .spent, .spent])], stage := [0x01010101, 1000, 100, 0, 0, 0, 0, 0, 0, 0, 0, 0] } }, 0, 5, by decide +kernel⟩⟩

/-- The hypotheses of PortsTrainSecureAndReport can be met, clause by clause. -/
theorem test_meets_portsTrainSecureAndReport :
  (∃ s : State, ∃ p : Nat, ∃ l : Nat, ∃ r : Nat, Runs s ∧ s.dev.portExists p = true ∧ (s.dev.port p).st = .training ∧ s.dev.typeAllowed p l r = true) ∧
  (∃ s : State, ∃ p : Nat, Runs s ∧ (s.dev.port p).st ≠ .training) ∧
  (∃ s : State, ∃ p : Nat, Runs s ∧ s.dev.portExists p = true ∧ (s.dev.port p).up = true) ∧
  (∃ s : State, ∃ p : Nat, Runs s ∧ s.dev.portExists p = true ∧ (s.dev.port p).up = false) ∧
  (∃ s : State, ∃ who : Nat, ∃ v : Nat, Runs s ∧ MayWrite s.dev who .operator ∧ (∀ q, q < 4 → bits (v / 2 ^ (8 * q) % 256) 7 4 = 0 ∧ bits (v / 2 ^ (8 * q) % 256) 3 2 ≠ 3) ∧ (∀ q, q < 4 → v / 2 ^ (8 * q) % 256 ≠ lget 0 s.dev.dp.quadCfg q → s.dev.quadUsed q = false)) ∧
  (∃ s : State, ∃ who : Nat, ∃ v : Nat, Runs s ∧ MayWrite s.dev who .operator ∧ (∀ q, q < 4 → bits (v / 2 ^ (8 * q) % 256) 7 4 = 0 ∧ bits (v / 2 ^ (8 * q) % 256) 3 2 ≠ 3) ∧ (∃ q, q < 4 ∧ v / 2 ^ (8 * q) % 256 ≠ lget 0 s.dev.dp.quadCfg q ∧ s.dev.quadUsed q = true) ∧ who ≠ 8) ∧
  (∃ s : State, ∃ p : Nat, ∃ ckn : Nat, ∃ key : Bool, Runs s ∧ (s.dev.port p).up = true ∧ s.dev.sec.mode ≠ .error ∧ (∃ k, k ∈ s.dev.caksOf p ∧ k.ckn = ckn) ∧ (s.dev.port p).sakInstalled = false ∧ (key = true ∨ s.dev.sec.drbgStopped = false)) ∧
  (∃ s : State, ∃ p : Nat, ∃ ckn : Nat, Runs s ∧ (s.dev.port p).up = true ∧ s.dev.sec.mode ≠ .error ∧ (∀ k, k ∈ s.dev.caksOf p → k.ckn ≠ ckn)) ∧
  (∃ s : State, ∃ p : Nat, Runs s ∧ (s.dev.port p).mkaAt + msTc 6000 ≤ s.dev.real) ∧
  (∃ s : State, ∃ p : Nat, Runs s ∧ s.dev.real < (s.dev.port p).mkaAt + msTc 6000) ∧
  (∃ s : State, Runs s ∧ s.dev.real < s.dev.dp.helloAt + msTc 2000) ∧
  (∃ s : State, Runs s ∧ s.dev.dp.helloAt + msTc 2000 ≤ s.dev.real) ∧
  (∃ s : State, ∃ p : Nat, ∃ kind : Nat, Runs s ∧ p ≤ 1 ∧ s.dev.pabUp p = true ∧ s.dev.pins.hubHalted = false ∧ 5 ≤ kind) ∧
  (∃ s : State, ∃ p : Nat, ∃ kind : Nat, ∃ src : Nat, Runs s ∧ p ≤ 1 ∧ s.dev.pabUp p = true ∧ s.dev.pins.hubHalted = false ∧ kind < 4 ∧ (∀ e, e ∈ s.dev.pab.sources → ¬ (e.1 = p ∧ e.2.1 = src))) ∧
  (∃ s : State, ∃ p : Nat, ∃ src : Nat, Runs s ∧ p ≤ 1 ∧ s.dev.pabUp p = true ∧ s.dev.pins.hubHalted = false ∧ (∃ t, ∃ n, s.dev.pab.sources.find? (fun e => decide (e.1 = p) && decide (e.2.1 = src)) = some (p, src, t, n) ∧ s.dev.real < t + msTc 1000 ∧ 20000 ≤ n)) ∧
  (∃ s : State, Runs s ∧ s.dev.collectors ≠ [] ∧ s.dev.reports = true ∧ s.dev.pab.items ≠ [] ∧ s.dev.pab.items.length ≤ 32 ∧ s.dev.pab.lost = 0 ∧ s.dev.reportPause (msTc 10) = true) ∧
  (∃ s : State, Runs s ∧ s.dev.collectors ≠ [] ∧ s.dev.reports = true ∧ s.dev.pab.items = [] ∧ s.dev.pab.lost = 0 ∧ s.dev.reportPause (msTc 1000) = true) ∧
  (∃ s : State, Runs s ∧ s.dev.collectors ≠ [] ∧ s.dev.reports = true ∧ (s.dev.pab.items ≠ [] ∨ s.dev.reportPause (msTc 1000) = false)) ∧
  (∃ s : State, Runs s ∧ s.dev.collectors ≠ [] ∧ s.dev.reports = true ∧ s.dev.reportPause (msTc 10) = false) ∧
  (∃ s : State, ∃ who : Nat, Runs s ∧ MayRead s.dev who .observer) ∧
  (∃ s : State, ∃ p : Nat, ∃ b : Bool, Runs s ∧ p ≤ 1 ∧ s.dev.pabUp p ≠ b ∧ (p = 0 ∨ s.dev.sec.mode ≠ .recovery)) ∧
  (∃ s : State, ∃ p : Nat, ∃ b : Bool, Runs s ∧ p ≤ 1 ∧ s.dev.pabUp p = b) :=
  ⟨⟨dev fun d => { ported (fun p => { p with st := .training }) d with dp := { (ported (fun p => { p with st := .training }) d).dp with quadCfg := [5, 1, 1, 1] } }, 0, 0, 1, by decide +kernel⟩,
    ⟨dev upPort, 0, by decide +kernel⟩,
    ⟨dev (receivingDev 1), 0, by decide +kernel⟩,
    ⟨dev (ported fun p => { p with st := .training }), 0, by decide +kernel⟩,
    ⟨dev upPort, 0, 0x05010102, by decide +kernel⟩,
    ⟨dev (receivingDev 1), 0, 0x05010102, by decide +kernel⟩,
    ⟨dev fun d => { upPort d with sec := { d.sec with keystore := [{ cak0 with port := 0 }] } }, 0, 33, true, by decide +kernel⟩,
    ⟨dev fun d => { upPort d with sec := { d.sec with keystore := [{ cak0 with port := 0 }] } }, 0, 34, by decide +kernel⟩,
    ⟨dev (upPort ∘ late), 0, by decide +kernel⟩,
    ⟨dev (ported fun p => { p with st := .training }), 0, by decide +kernel⟩,
    ⟨dev rdy, by decide +kernel⟩,
    ⟨dev (upPort ∘ late), by decide +kernel⟩,
    ⟨dev fun d => { rdy d with pab := { d.pab with linkA := true, sources := [(1, 7, 5, 6)] } }, 0, 5, by decide +kernel⟩,
    ⟨dev fun d => { rdy d with pab := { d.pab with linkA := true, sources := [(1, 7, 5, 6)] } }, 0, 2, 7, by decide +kernel⟩,
    ⟨dev fun d => { rdy d with pab := { d.pab with linkA := true, sources := [(0, 7, 5, 20000)] } }, 0, 7, by decide +kernel, by decide +kernel, by decide +kernel, by decide +kernel, 5, 20000, by decide +kernel⟩,
    ⟨dev (collected [item0]), by decide +kernel⟩,
    ⟨dev (collected []), by decide +kernel⟩,
    ⟨dev (collected [item0]), by decide +kernel⟩,
    ⟨dev fun d => { collected [item0] d with pab := { (collected [item0] d).pab with sentAt := some 0 } }, by decide +kernel⟩,
    ⟨dev (collected [item0]), 0, by decide +kernel⟩,
    ⟨dev rdy, 1, true, by decide +kernel⟩,
    ⟨dev rdy, 1, false, by decide +kernel⟩⟩

/-- The hypotheses of FramesPassTheirChecksToTheirPlace can be met, clause by clause. -/
theorem test_meets_framesPassTheirChecksToTheirPlace :
  (∃ s : State, ∃ p : Nat, Runs s ∧ (s.dev.port p).up = false) ∧
  (∃ s : State, ∃ p : Nat, ∃ mac : Nat, Runs s ∧ (s.dev.port p).up = true ∧ (∃ k, s.dev.partnerOf p mac = some k ∧ (s.dev.partner k).st = 2)) ∧
  (∃ s : State, ∃ p : Nat, ∃ mac : Nat, ∃ ok : Bool, Runs s ∧ (s.dev.port p).up = true ∧ s.dev.partnerOf p mac = none ∧ ok = false) ∧
  (∃ s : State, ∃ p : Nat, ∃ mac : Nat, ∃ flow : Nat, ∃ ok : Bool, Runs s ∧ (s.dev.port p).up = true ∧ s.dev.partnerOf p mac = none ∧ ok = true ∧ s.dev.boundStream p 1 mac flow = none) ∧
  (∃ s : State, ∃ p : Nat, ∃ mac : Nat, ∃ flow : Nat, ∃ mer : Nat, ∃ ok : Bool, Runs s ∧ (s.dev.port p).up = true ∧ s.dev.partnerOf p mac = none ∧ (∃ n, ok = true ∧ s.dev.boundStream p 1 mac flow = some n ∧ (let b := beatNo (s.dev.stream n).almanac (ofMer mer);
    merOk mer = true ∧ s.dev.batchOpen n b = false))) ∧
  (∃ s : State, ∃ p : Nat, ∃ mac : Nat, ∃ flow : Nat, ∃ seq : Nat, ∃ mer : Nat, ∃ t0 : Nat, ∃ fmt : Nat, ∃ ok : Bool, ∃ tokens : List (List Byte), ∃ recs : List Nat, Runs s ∧ (s.dev.port p).up = true ∧ s.dev.partnerOf p mac = none ∧ (∃ n, ok = true ∧ s.dev.boundStream p 1 mac flow = some n ∧ (let b := beatNo (s.dev.stream n).almanac (ofMer mer);
    merOk mer = true ∧ s.dev.batchOpen n b = true ∧ s.dev.tensorOk n mer t0 fmt tokens recs = true ∧ (∀ e, e ∈ (s.dev.batch n).seen → e.2 ≠ [seq])))) ∧
  (∃ s : State, ∃ p : Nat, ∃ mac : Nat, ∃ eaxc : Nat, ∃ seq : Nat, ∃ f : Nat, ∃ sub : Nat, ∃ slot : Nat, ∃ sym : Nat, ∃ n : Nat, ∃ y : UplaneSection, Runs s ∧ (s.dev.port p).up = true ∧ s.dev.partnerOf p mac = none ∧ s.dev.boundStream p 0 mac eaxc = some n ∧ (let mu := bits (s.dev.bindWord n 0) 16 14;
    let idx := sub * 2 ^ mu + slot;
    let spb := (slotsPerBeat mu (s.dev.stream n).almanac).getD 1;
    let b := nearestFrame s.dev.clk.frame (f % 256) * (s.dev.stream n).almanac + idx / spb;
    let token := idx % spb * 14 + sym;
    sub < 10 ∧ sym < 14 ∧ slot < 2 ^ mu ∧ s.dev.sectionOk n y = true ∧ s.dev.batchOpen n b = true ∧ token < s.dev.bindTmax n ∧ (b, [token, seq, y.startPrb, y.numPrb]) ∉ (s.dev.batch n).seen)) ∧
  (∃ s : State, ∃ n : Nat, Runs s ∧ (s.dev.filling n = false ∨ s.dev.cutoffCame n = false)) ∧
  (∃ s : State, ∃ n : Nat, Runs s ∧ s.dev.filling n = true ∧ s.dev.cutoffCame n = true ∧ (s.dev.stream n).ingress ≠ []) ∧
  (∃ s : State, ∃ p : Nat, ∃ mac : Nat, Runs s ∧ (s.dev.port p).up = true ∧ s.dev.partnerOf p mac = none ∧ s.dev.secured p mac = false) ∧
  (∃ s : State, ∃ p : Nat, ∃ mac : Nat, ∃ ch : Nat, ∃ r : Nat, ∃ w : Nat, ∃ data : List Byte, Runs s ∧ (s.dev.port p).up = true ∧ s.dev.partnerOf p mac = none ∧ s.dev.secured p mac = true ∧ data.length ≤ 8192 ∧ (s.dev.liveStreams.findSome? fun n => ((s.dev.stream n).channels.find? fun c => c.1 = ch && c.2.1 = mac).map fun c => c.2.2) = some (r, w)) ∧
  (∃ s : State, ∃ p : Nat, ∃ mac : Nat, ∃ m : Nat, ∃ v : Nat, ∃ i : Nat, ∃ n : Nat, ∃ a : Nat, Runs s ∧ (s.dev.port p).up = true ∧ s.dev.partnerOf p mac = none ∧ s.dev.secured p mac = true ∧ s.dev.areaOf m v = some (n, a) ∧ i < (s.dev.area n a).shards.length) ∧
  (∃ s : State, ∃ p : Nat, ∃ mac : Nat, ∃ m : Nat, ∃ v : Nat, ∃ i : Nat, ∃ off : Nat, ∃ n : Nat, ∃ a : Nat, ∃ data : List Byte, Runs s ∧ (s.dev.port p).up = true ∧ s.dev.partnerOf p mac = none ∧ s.dev.areaOf m v = some (n, a) ∧ memWf s.dev.hbm.mem = true ∧ 1 ≤ data.length ∧ data.length ≤ 8192 ∧ (s.dev.area n a).source = 1 ∧ (s.dev.area n a).sourceId = mac * 16 + p ∧ off + data.length ≤ (s.dev.area n a).shardLength i ∧ (s.dev.area n a).blockCheck 8192 (i * shardBytes + off) data.length = none) ∧
  (∃ s : State, ∃ p : Nat, ∃ mac : Nat, ∃ m : Nat, ∃ v : Nat, ∃ n : Nat, ∃ a : Nat, ∃ data : List Byte, Runs s ∧ (s.dev.port p).up = true ∧ s.dev.partnerOf p mac = none ∧ s.dev.areaOf m v = some (n, a) ∧ memWf s.dev.hbm.mem = true ∧ 1 ≤ data.length ∧ data.length ≤ 8192 ∧ (s.dev.area n a).source = 0) ∧
  (∃ s : State, ∃ n : Nat, Runs s ∧ (s.dev.partner n).st = 2 ∧ (s.dev.partner n).quarTimes.headD 0 + msTc (1000 * (s.dev.partner n).hold) ≤ s.dev.real) ∧
  (∃ s : State, ∃ n : Nat, Runs s ∧ ((s.dev.partner n).st ≠ 2 ∨ s.dev.real < (s.dev.partner n).quarTimes.headD 0 + msTc (1000 * (s.dev.partner n).hold))) ∧
  (∃ s : State, ∃ n : Nat, Runs s ∧ (∃ who, MaySend s.dev who cmdRegWrite .owner ∧ n < 64 ∧ (s.dev.partner n).st = 2)) ∧
  (∃ s : State, ∃ n : Nat, Runs s ∧ (∃ who, MaySend s.dev who cmdRegWrite .owner ∧ n < 64 ∧ (s.dev.partner n).st ≠ 2)) :=
  ⟨⟨dev rdy, 0, by decide +kernel⟩,
    ⟨dev fun d => { upPort d with dp := { (upPort d).dp with partners := [(3, { Partner.reset with st := 2, mac := 5, hold := 10, quarTimes := [1] })] } }, 0, 5, by decide +kernel⟩,
    ⟨dev (receivingDev 1), 0, 5, false, by decide +kernel⟩,
    ⟨dev (receivingDev 1), 0, 5, 8, true, by decide +kernel⟩,
    ⟨dev (receivingDev 1), 0, 5, 9, 9 * 2 ^ 25, true, by decide +kernel, by decide +kernel, by decide +kernel, 1, by decide +kernel, by decide +kernel, by decide +kernel⟩,
    ⟨dev (receivingDev 1), 0, 5, 9, 3, 2 * 2 ^ 25, 2, 6, true, [[1, 2, 3, 4]], [], by decide +kernel, by decide +kernel, by decide +kernel, 1, by decide +kernel, by decide +kernel, by decide +kernel⟩,
    ⟨dev (receivingDev 0), 0, 5, 9, 3, 2, 0, 0, 3, 1, sec0, by decide +kernel, by decide +kernel, by decide +kernel, by decide +kernel, by decide +kernel⟩,
    ⟨dev (receivingDev 1), 2, by decide +kernel⟩,
    ⟨dev (inFrame 10 ∘ receivingDev 1), 1, by decide +kernel⟩,
    ⟨dev (receivingDev 1), 0, 5, by decide +kernel⟩,
    ⟨dev fun d => (receivingDev 1 d).updPort 0 fun p => { p with sakInstalled := true, mkaPeer := some 5 }, 0, 5, 3, 1, 0, [8, 9], by decide +kernel⟩,
    ⟨dev fun d => ({ upPort d with mm := (modelAt (fun a => { a with shards := [{ shard0 with verified := true }] }) d).mm }).updPort 0 fun p => { p with sakInstalled := true, mkaPeer := some 5 }, 0, 5, 5, 6, 0, 2, 1, by decide +kernel⟩,
    ⟨dev fun d => { upPort d with mm := (modelAt (fun a => { a with source := 1, sourceId := 80 }) d).mm }, 0, 5, 5, 6, 0, 64, 2, 1, List.replicate 64 7, by decide +kernel⟩,
    ⟨dev fun d => { upPort d with mm := (modelAt id d).mm }, 0, 5, 5, 6, 2, 1, List.replicate 64 7, by decide +kernel⟩,
    ⟨dev fun d => { upPort (late d) with dp := { (upPort d).dp with partners := [(3, { Partner.reset with st := 2, mac := 5, hold := 10, quarTimes := [1] })] } }, 3, by decide +kernel⟩,
    ⟨dev rdy, 3, by decide +kernel⟩,
    ⟨dev fun d => { upPort d with dp := { (upPort d).dp with partners := [(3, { Partner.reset with st := 2, mac := 5, hold := 10, quarTimes := [1] })] } }, 3, by decide +kernel, 0, by decide +kernel⟩,
    ⟨dev fun d => { upPort d with dp := { (upPort d).dp with partners := [(3, { Partner.reset with st := 2, mac := 5, hold := 10, quarTimes := [1] })] } }, 4, by decide +kernel, 0, by decide +kernel⟩⟩

end Sys2Proof.Tests
end

/-! SUPPORT. Frames: what reports, the posting of tests and an update of one region leave as it was. -/
namespace Sys2Proof.Safety

open Sys2Proof.Machine

/-! ### A region that is ready -/

theorem ReadyNow.not_stopped {d : Device} {r : Nat} (h : ReadyNow d r) : d.stopped = false := by
  obtain ⟨⟨runs, -⟩, -⟩ := h
  exact runs

theorem ReadyNow.wait_none {d : Device} {r : Nat} (h : ReadyNow d r) : (d.region r).wait = none := by
  obtain ⟨⟨-, -, -, -, -, wait, -⟩, -⟩ := h
  exact wait

theorem ReadyNow.not_resetAsked {d : Device} {r : Nat} (h : ReadyNow d r) : (d.region r).resetAsked = false := by
  obtain ⟨⟨-, -, -, -, -, -, asked⟩, -⟩ := h
  exact asked

/-! ### What lies outside the regions -/

theorem SameOutside.refl (d : Device) : SameOutside d d := by simp [SameOutside]

theorem SameOutside.trans {a b c : Device} (h : SameOutside a b) (k : SameOutside b c) : SameOutside a c := by
  simp_all [SameOutside]

theorem SameOutside.tiles {d d' : Device} (h : SameOutside d d') : d'.tiles = d.tiles := by
  obtain ⟨tiles, -⟩ := h
  exact tiles

theorem SameOutside.hbm {d d' : Device} (h : SameOutside d d') : d'.hbm = d.hbm := by
  obtain ⟨-, -, hbm, -⟩ := h
  exact hbm

theorem SameOutside.adm {d d' : Device} (h : SameOutside d d') : d'.adm = d.adm := by
  obtain ⟨-, -, -, adm, -⟩ := h
  exact adm

theorem SameOutside.tb {d d' : Device} (h : SameOutside d d') : d'.tb = d.tb := by
  obtain ⟨-, -, -, -, -, -, -, -, tb, -⟩ := h
  exact tb

theorem SameOutside.clk {d d' : Device} (h : SameOutside d d') : d'.clk = d.clk := by
  obtain ⟨-, -, -, -, -, -, -, -, -, clk, -⟩ := h
  exact clk

theorem sameOutside_updRegion (d : Device) (r : Nat) (f : Region → Region) : SameOutside d (d.updRegion r f) := by
  simp [SameOutside]

theorem sameOutside_item (d : Device) (k : Nat) (w : List Nat) : SameOutside d (d.item k w) := by
  unfold Device.item
  dsimp only
  split <;> simp [SameOutside, Device.bePut]

theorem sameOutside_beReport (d : Device) (u : Nat) : SameOutside d (d.beReport u) := by
  unfold Device.beReport
  split <;> simp [SameOutside, Device.bePut]

/-- A fault record leaves everything outside the logs and the best-effort fabric as it was (R445). -/
theorem sameOutside_faultRec (d : Device) (a b e c n x s : Nat) : SameOutside d (d.faultRec a b e c n x s) := by
  unfold Device.faultRec
  refine (sameOutside_beReport d b).trans (SameOutside.trans ?_ (sameOutside_item _ _ _))
  simp [SameOutside]

theorem sameOutside_faultRegion (d : Device) (r e c x : Nat) : SameOutside d (d.faultRegion r e c x) := by
  unfold Device.faultRegion Device.fault
  exact sameOutside_faultRec ..

/-! ### What one region's action leaves of the regions -/

/-- Of the regions nothing differs but the sequencer of region `r`: its memories and every other region are as they were. -/
structure ActsIn (r : Nat) (d d' : Device) : Prop where
  memories : SameMemories d d' r
  others : OtherRegions d d' r

theorem ActsIn.trans {r : Nat} {a b c : Device} (h : ActsIn r a b) (k : ActsIn r b c) : ActsIn r a c where
  memories := by
    have hm := h.memories
    have km := k.memories
    simp_all [SameMemories]
  others q hq := by
    have ho := h.others q hq
    have ko := k.others q hq
    simp_all [SameMemories]

theorem region_of_regions {d d' : Device} (h : d'.regions = d.regions) (q : Nat) : d'.region q = d.region q := by
  simp only [Device.region, h]

theorem actsIn_of_regions {d d' : Device} (r : Nat) (h : d'.regions = d.regions) : ActsIn r d d' :=
  ⟨by simp [SameMemories, region_of_regions h], fun q _ => by simp [SameMemories, region_of_regions h]⟩

theorem actsIn_updRegion (d : Device) (r : Nat) (f : Region → Region) (h : SameMemories d (d.updRegion r f) r) :
    ActsIn r d (d.updRegion r f) :=
  ⟨h, fun q hq => by simp [SameMemories, hq]⟩

/-- As `ActsIn`, and the bank, the writes in flight, the next issue cycle and the reset that waits in the region are as they were
too. -/
structure KeepsIssue (r : Nat) (d d' : Device) : Prop extends ActsIn r d d' where
  arch : (d'.region r).arch = (d.region r).arch
  pend : (d'.region r).pend = (d.region r).pend
  cyc : (d'.region r).cyc = (d.region r).cyc
  asked : (d'.region r).resetAsked = (d.region r).resetAsked

theorem KeepsIssue.trans {r : Nat} {a b c : Device} (h : KeepsIssue r a b) (k : KeepsIssue r b c) : KeepsIssue r a c where
  toActsIn := h.toActsIn.trans k.toActsIn
  arch := k.arch.trans h.arch
  pend := k.pend.trans h.pend
  cyc := k.cyc.trans h.cyc
  asked := k.asked.trans h.asked

theorem keepsIssue_of_regions {d d' : Device} (r : Nat) (h : d'.regions = d.regions) : KeepsIssue r d d' where
  toActsIn := actsIn_of_regions r h
  arch := by rw [region_of_regions h]
  pend := by rw [region_of_regions h]
  cyc := by rw [region_of_regions h]
  asked := by rw [region_of_regions h]

/-- An update of a region that leaves what issue needs and the memories. -/
theorem keepsIssue_updRegion (d : Device) (r : Nat) (f : Region → Region)
    (h : ∀ g, (f g).arch = g.arch ∧ (f g).pend = g.pend ∧ (f g).cyc = g.cyc ∧ (f g).resetAsked = g.resetAsked ∧
      (f g).scratch = g.scratch ∧ (f g).fw = g.fw ∧ (f g).act = g.act ∧ (f g).imem = g.imem) :
    KeepsIssue r d (d.updRegion r f) := by
  obtain ⟨arch, pend, cyc, asked, scratch, fw, act, imem⟩ := h (d.region r)
  exact ⟨actsIn_updRegion d r f (by simp [SameMemories, *]), by simp [*], by simp [*], by simp [*], by simp [*]⟩

/-! ### What the posting of tests leaves -/

/-- Nothing differs but reports, the pins, and the tests and statistics of regions (R248, R443). -/
structure PostsChecks (d d' : Device) : Prop where
  outside : SameOutside d d'
  region : ∀ q, ∃ ts ss, d'.region q = { d.region q with tests := ts, stats := ss }

/-- What of a region is neither its tests nor its statistics is as it was. -/
theorem PostsChecks.field {α : Type} {d d' : Device} (h : PostsChecks d d') (q : Nat) (f : Region → α)
    (hf : ∀ g ts ss, f { g with tests := ts, stats := ss } = f g) : f (d'.region q) = f (d.region q) := by
  obtain ⟨ts, ss, e⟩ := h.region q
  rw [e, hf]

theorem PostsChecks.keepsIssue {d d' : Device} (h : PostsChecks d d') (r : Nat) : KeepsIssue r d d' := by
  have memories (q : Nat) : SameMemories d d' q := by
    obtain ⟨ts, ss, e⟩ := h.region q
    simp [SameMemories, e]
  have others : OtherRegions d d' r := fun q _ => by
    have m := memories q
    obtain ⟨ts, ss, e⟩ := h.region q
    exact ⟨by simp [e], by simp [e], by simp [e], by simp [e], m⟩
  exact ⟨⟨memories r, others⟩, h.field r (·.arch) fun _ _ _ => rfl, h.field r (·.pend) fun _ _ _ => rfl,
    h.field r (·.cyc) fun _ _ _ => rfl, h.field r (·.resetAsked) fun _ _ _ => rfl⟩

theorem PostsChecks.refl (d : Device) : PostsChecks d d := ⟨SameOutside.refl d, fun _ => ⟨_, _, rfl⟩⟩

theorem PostsChecks.trans {a b c : Device} (h : PostsChecks a b) (k : PostsChecks b c) : PostsChecks a c where
  outside := h.outside.trans k.outside
  region q := by
    obtain ⟨_, _, e⟩ := h.region q
    obtain ⟨ts, ss, e'⟩ := k.region q
    exact ⟨ts, ss, by rw [e', e]⟩

theorem PostsChecks.forEach (l : List Nat) (f : Nat → Device → Device) (h : ∀ n d, PostsChecks d (f n d)) :
    ∀ d, PostsChecks d (Machine.forEach l f d) := by
  induction l with
  | nil => exact PostsChecks.refl
  | cons n rest ih => exact fun d => (h n d).trans (ih _)

theorem postsChecks_of_regions {d d' : Device} (h : SameOutside d d') (k : d'.regions = d.regions) : PostsChecks d d' :=
  ⟨h, fun q => ⟨_, _, region_of_regions k q⟩⟩

theorem postsChecks_updRegion (d : Device) (r : Nat) (f : Region → Region)
    (h : ∀ g, ∃ ts ss, f g = { g with tests := ts, stats := ss }) : PostsChecks d (d.updRegion r f) where
  outside := sameOutside_updRegion d r f
  region q := by
    by_cases hq : q = r
    · subst hq
      obtain ⟨ts, ss, e⟩ := h (d.region q)
      exact ⟨ts, ss, by rw [Device.region_updRegion_same, e]⟩
    · exact ⟨_, _, by rw [Device.region_updRegion_ne _ _ _ _ hq]⟩

theorem postsChecks_faultRec (d : Device) (a b e c n x s : Nat) : PostsChecks d (d.faultRec a b e c n x s) :=
  postsChecks_of_regions (sameOutside_faultRec ..) (Device.faultRec_reports ..).regions

theorem postsChecks_postTest (d : Device) (r unit code part len : Nat) :
    PostsChecks d (d.postTest r unit code part len) :=
  postsChecks_updRegion d r _ fun g => by
    split
    · exact ⟨_, _, rfl⟩
    · exact ⟨_, _, rfl⟩

/-- The statistics judged at a bundle's end post tests and report (R443). -/
theorem postsChecks_statTrigger (d : Device) (r : Nat) : PostsChecks d (d.statTrigger r) := by
  refine PostsChecks.forEach _ _ (fun n d => ?_) d
  have stats (x : StatSlot) : PostsChecks d (d.updRegion r fun g => { g with stats := tset g.stats n x }) :=
    postsChecks_updRegion d r _ fun g => ⟨_, _, rfl⟩
  have tests (l : List Nat) (d : Device) :
      PostsChecks d (Machine.forEach l (fun p d => (d.postTileTest p 1).postTileTest p 2) d) :=
    PostsChecks.forEach _ _ (fun p d => (postsChecks_postTest d _ _ 1 _ _).trans (postsChecks_postTest _ _ _ 2 _ _)) d
  dsimp only
  split
  · exact PostsChecks.refl d
  · split
    · split
      · exact (stats _).trans (tests _ _)
      · exact ((stats _).trans (tests _ _)).trans (postsChecks_faultRec ..)
    · split
      · exact stats _
      · exact PostsChecks.refl d

theorem postsChecks_settle (d : Device) : PostsChecks d d.settle := postsChecks_of_regions (by simp [SameOutside]) rfl

end Sys2Proof.Safety

/-! SUPPORT. How a bundle of one C-slot instruction issues: it waits for nothing, its checks are those of the instruction, and
what it leaves is the flow and the instruction's last effect (R237 to R243). -/
namespace Sys2Proof.Machine

open Sys2Proof.Safety

/-! ### A slot of class C touches no bytes and needs no unit -/

theorem Ctx.readsMT_of_scalar (c : Ctx) {op : SlotOp} (h : op.cls = 0) : c.readsMT op = [] := by
  unfold Ctx.readsMT
  split <;> simp [SlotOp.cls] at h ⊢

theorem Ctx.writesMT_of_scalar (c : Ctx) {op : SlotOp} (h : op.cls = 0) : c.writesMT op = [] := by
  unfold Ctx.writesMT
  split <;> simp [SlotOp.cls] at h ⊢

theorem Ctx.readsV_of_scalar (c : Ctx) {op : SlotOp} (h : op.cls = 0) : c.readsV op = [] := by
  unfold Ctx.readsV
  split <;> simp [SlotOp.cls] at h ⊢

theorem Ctx.destsV_of_scalar (c : Ctx) {op : SlotOp} (h : op.cls = 0) : c.destsV op = [] := by
  unfold Ctx.destsV
  split <;> simp [SlotOp.cls] at h ⊢

theorem Ctx.writesV_of_scalar (c : Ctx) {op : SlotOp} (h : op.cls = 0) : c.writesV op = [] := by
  unfold Ctx.writesV
  split
  · simp [SlotOp.cls] at h
  · rw [c.destsV_of_scalar h, List.flatMap_nil]

theorem Ctx.costV_of_scalar (c : Ctx) {op : SlotOp} (h : op.cls = 0) : c.costV op = (3, 0, 0) := by
  unfold Ctx.costV
  split <;> simp [SlotOp.cls] at h ⊢

theorem Ctx.touches_of_scalar (c : Ctx) {s : Slot} (h : s.op.cls = 0) : c.touches s = ([], []) := by
  simp [Ctx.touches, h, c.readsMT_of_scalar h, c.writesMT_of_scalar h, c.readsV_of_scalar h, c.writesV_of_scalar h]

theorem Device.unitFree_of_scalar (d : Device) (c : Ctx) {op : SlotOp} (h : op.cls = 0) : d.unitFree c op = 0 := by
  unfold Device.unitFree
  split
  case h_7 => simp [h, c.costV_of_scalar h]
  all_goals simp [SlotOp.cls] at h

theorem Device.engineMove_of_scalar (d : Device) (c : Ctx) {op : SlotOp} (h : op.cls = 0) : d.engineMove c op = none := by
  unfold Device.engineMove
  split <;> simp [SlotOp.cls] at h ⊢

/-- Where one slot of class C stands alone, no other class has a slot. -/
theorem slotOfClass_of_scalar {s : Slot} (h : s.op.cls = 0) (k : Nat) : slotOfClass [s] k = if k = 0 then some s else none := by
  by_cases hk : k = 0
  · simp [slotOfClass, h, hk]
  · simp [slotOfClass, h, hk, Ne.symm hk]

theorem ne_nop_of_scalar {op : SlotOp} (h : op.cls = 0) : op ≠ .nop := by
  rintro rfl
  simp [SlotOp.cls] at h

/-! ### It issues at the region's next cycle -/

@[simp] theorem clearOf_nil (busy : List (Nat × Nat × Nat)) : clearOf busy [] = 0 := by simp [clearOf]

theorem Device.readyAt_of_scalar (d : Device) (r t : Nat) {s : Slot} (h : s.op.cls = 0) : d.readyAt r [s] t = t := by
  simp [Device.readyAt, Ctx.touches_of_scalar _ h, Device.unitFree_of_scalar _ _ h]

theorem Device.readyCycle_of_scalar (d : Device) (r : Nat) {s : Slot} (h : s.op.cls = 0) :
    d.readyCycle r [s] = (d.region r).cyc := by
  simp [Device.readyCycle, Device.issueCycle, d.readyAt_of_scalar r _ h]

theorem Device.issueAt_of_scalar (d : Device) (r : Nat) {s : Slot} (h : s.op.cls = 0) :
    d.issueAt r [s] = (d.region r).cyc := by
  simp [Device.issueAt, d.readyCycle_of_scalar r h, Device.tileStall, slotOfClass_of_scalar h]

@[simp] theorem Region.meetsXfer_nil (g : Region) (kinds : XferKind → Bool) : g.meetsXfer kinds [] = false := by
  simp [Region.meetsXfer]

theorem Device.slotWaits_of_scalar (d : Device) (c : Ctx) {s : Slot} (h : s.op.cls = 0) : d.slotWaits c s = false := by
  simp [Device.slotWaits, c.touches_of_scalar h, d.engineMove_of_scalar c h]

theorem Device.slotStalls_of_scalar (d : Device) (c : Ctx) {s : Slot} (h : s.op.cls = 0) : d.slotStalls c s = [] := by
  obtain ⟨g, op, ecc⟩ := s
  simp only [Device.slotStalls, c.touches_of_scalar h]
  split
  · rfl
  · cases op <;> simp [SlotOp.cls, Device.engineMove] at h ⊢

/-- Nothing holds it but a predicate that is due (R241, R242). -/
theorem Device.bundleHeld_of_scalar (d : Device) (c : Ctx) {s : Slot} (h : s.op.cls = 0) :
    d.bundleHeld c [s] = d.predicateDue c := by
  simp [Device.bundleHeld, Device.bundleWaits, Device.bundleStalls, d.slotWaits_of_scalar c h, d.slotStalls_of_scalar c h]

/-! ### Its checks and its effects -/

theorem targets_of_scalar {op : SlotOp} (h : op.cls = 0) : op.targets = [] ∨ ∃ t, op.targets = [t] := by
  cases op <;> simp [SlotOp.cls, SlotOp.targets] at h ⊢
  case cmp fn pd rs rt => by_cases hp : pd = 0 <;> simp [hp]

theorem bundleLegal_of_scalar {s : Slot} (h : s.op.cls = 0) : bundleLegal [s] = Slot.legal s := by
  have classes : distinct (if isLimm s.op then [0, 1] else [s.op.cls]) = true := by
    rw [h]
    split <;> decide
  have targets : distinct s.op.targets = true := by
    obtain e | ⟨t, e⟩ := targets_of_scalar h <;> simp [e, distinct, List.eraseDups_cons]
  simp [bundleLegal, ne_nop_of_scalar h, classes, targets]

/-- What stops it at issue is what its own entry checks, once it is legal and its targets and fall-through are in range. -/
theorem Device.bundleCauses_of_scalar (d : Device) (c : Ctx) {s : Slot} (h : s.op.cls = 0) (hl : Slot.legal s = true)
    (hr : c.rangesOk [s] = true) (hg : c.guard s.g = true) :
    d.bundleCauses c [s] = (d.checkC c s.op).map fun x => (0, x) := by
  have hf : fetchBad [s] = false := by simp [fetchBad, ne_nop_of_scalar h]
  simp [Device.bundleCauses, hf, bundleLegal_of_scalar h, hl, hr, causesOf, must, Device.causes, slotOfClass_of_scalar h,
    Device.checkSlot, hg, h]

/-- The checks of the C slot look at the clock alone. -/
theorem Device.checkC_of_clk {d d' : Device} (c : Ctx) (op : SlotOp) (h : d'.clk = d.clk) :
    d'.checkC c op = d.checkC c op := by
  unfold Device.checkC
  rw [h]

theorem Device.effects_of_scalar (d : Device) (c : Ctx) {s : Slot} (h : s.op.cls = 0) (hg : c.guard s.g = true) :
    d.effects c [s] = (d.setFlow c (c.flow s.op)).endC c s.op := by
  simp [Device.effects, slotOfClass_of_scalar h, hg, Device.lateTogether, forEach]

theorem Device.fetchFound_of_scalar (d : Device) (r : Nat) {s : Slot} (h : s.op.cls = 0) : d.fetchFound r [s] = d := by
  simp [Device.fetchFound, ne_nop_of_scalar h]

/-! ### The whole step -/

/-- A region that takes a bundle of one C-slot instruction, at its issue cycle and before any effect of it (R239). -/
def Device.atIssue (d : Device) (r : Nat) : Device :=
  ((d.updRegion r fun q => { q with staged := [] }).settleAt (seenNow d r)).updSeq r fun q => q.stalled [.tile] 0

@[simp] theorem seenNow_r (d : Device) (r : Nat) : (seenNow d r).r = r := rfl
@[simp] theorem seenNow_slot (d : Device) (r : Nat) : (seenNow d r).slot = (d.region r).regs.slot := rfl

/-- The bundle that is complete sees what the region shows now. -/
theorem seenNow_of_unstaged (d : Device) (r : Nat) :
    (d.updRegion r fun q => { q with staged := [] }).ctx r (d.region r).cyc = seenNow d r := by
  simp [seenNow, Device.ctx]

/-- A ready region issues the bundle at once; at its end a reset asked for takes place and the statistics are judged. -/
theorem Device.finern_of_ready {d : Device} {r : Nat} {g : Guard} {op : SlotOp} (h : ReadyNow d r) (ho : op.cls = 0) :
    d.finern r g true op =
      (((d.updRegion r fun q => { q with staged := [] }).issueNow r [{ g := g, op := op }]).boundary r).statTrigger r := by
  obtain ⟨⟨-, hr, hst, hstaged, hheld, hwait, -⟩, hdue⟩ := h
  have hs : (Slot.mk g op .clean).op.cls = 0 := ho
  have hdue' : (d.updRegion r fun q => { q with staged := [] }).predicateDue (seenNow d r) = false := hdue
  have hcan : (d.updRegion r fun q => { q with staged := [] }).canIssue r [{ g := g, op := op }] = true := by
    simp [Device.canIssue, Device.issues, Device.issueAt_of_scalar _ r hs, seenNow_of_unstaged, hwait, hst,
      Device.bundleHeld_of_scalar _ _ hs, hdue']
  simp [Device.finern, hr, Device.slot, hst, hstaged, Device.submit, hheld, hcan]

section
variable {d : Device} {r : Nat} {g : Guard} {op : SlotOp}

/-- What is left at a bundle's end where no reset waits for it (R41). -/
theorem Device.boundary_of_not_asked (h : (d.region r).resetAsked = false) : d.boundary r = d := by
  simp [Device.boundary, h]

/-- The causes that a bundle of one C-slot instruction meets in a ready region. -/
theorem Device.causes_atIssue (ho : op.cls = 0) (hl : Slot.legal { g := g, op := op } = true)
    (hr : (seenNow d r).rangesOk [{ g := g, op := op }] = true) (hg : (seenNow d r).guard g = true) :
    (d.atIssue r).bundleCauses (seenNow d r) [{ g := g, op := op }] =
      (d.checkC (seenNow d r) op).map fun x => (0, x) := by
  rw [Device.bundleCauses_of_scalar _ _ ho hl hr hg]
  exact congrArg _ (Device.checkC_of_clk _ _ rfl)

/-- The device after the flow of a bundle of one C-slot instruction, before that instruction's last effect (R239, R272). -/
def Device.afterFlow (d : Device) (r : Nat) (op : SlotOp) : Device :=
  (d.atIssue r).setFlow (seenNow d r) ((seenNow d r).flow op)

/-- Where its checks raise nothing, flow and the last effect follow. -/
theorem Device.issueNow_of_no_cause (ho : op.cls = 0) (hl : Slot.legal { g := g, op := op } = true)
    (hr : (seenNow d r).rangesOk [{ g := g, op := op }] = true) (hg : (seenNow d r).guard g = true)
    (hc : d.checkC (seenNow d r) op = []) :
    (d.updRegion r fun q => { q with staged := [] }).issueNow r [{ g := g, op := op }] =
      (d.afterFlow r op).endC (seenNow d r) op := by
  have hs : (Slot.mk g op .clean).op.cls = 0 := ho
  have hcauses := Device.causes_atIssue ho hl hr hg
  unfold Device.atIssue at hcauses
  simp [Device.issueNow, Device.issueAt_of_scalar _ r hs, Device.readyCycle_of_scalar _ r hs, seenNow_of_unstaged, hcauses, hc,
    Device.effects_of_scalar _ _ hs hg, Device.fetchFound_of_scalar _ r hs, Device.afterFlow, Device.atIssue]

/-- TRAP cancels the bundle with its code (R255, R279). -/
theorem Device.issueNow_of_software {code : Nat} (ho : op.cls = 0) (hl : Slot.legal { g := g, op := op } = true)
    (hr : (seenNow d r).rangesOk [{ g := g, op := op }] = true) (hg : (seenNow d r).guard g = true)
    (hc : d.checkC (seenNow d r) op = [(trSoftware, code)]) :
    (d.updRegion r fun q => { q with staged := [] }).issueNow r [{ g := g, op := op }] =
      (d.atIssue r).issueTrap (seenNow d r) trSoftware 0 code 0 0 := by
  have hs : (Slot.mk g op .clean).op.cls = 0 := ho
  have hcauses := Device.causes_atIssue ho hl hr hg
  unfold Device.atIssue at hcauses
  simp [Device.issueNow, Device.issueAt_of_scalar _ r hs, Device.readyCycle_of_scalar _ r hs, seenNow_of_unstaged, hcauses, hc,
    Device.fetchFound_of_scalar _ r hs, Device.atIssue]

end

/-! ### What issue and flow leave -/

/-- At its issue cycle a region holds the bank that the bundle sees, and the writes that come later (R239, R241). -/
theorem Device.atIssue_region (d : Device) (r : Nat) :
    (d.atIssue r).region r =
      { d.region r with
        staged := [], arch := tset (d.region r).arch (d.region r).regs.slot (seenNow d r).bank,
        pend := (d.region r).pend.filter fun w => decide ((seenNow d r).cycle < w.cycle),
        cyc := (seenNow d r).cycle,
        busy := (d.region r).busy.filter fun w => decide ((seenNow d r).cycle < w.2.2),
        busyR := (d.region r).busyR.filter fun w => decide ((seenNow d r).cycle < w.2.2) } := by
  have idle : (seenNow d r).cycle - (d.region r).cyc = 0 := Nat.sub_self _
  simp [Device.atIssue, Device.settleAt, SeqRegs.stalled, idle]

theorem Device.sameOutside_atIssue (d : Device) (r : Nat) : SameOutside d (d.atIssue r) := by
  simp [SameOutside, Device.atIssue, Device.settleAt]

theorem Device.actsIn_atIssue (d : Device) (r : Nat) : ActsIn r d (d.atIssue r) where
  memories := by simp [SameMemories, Device.atIssue_region]
  others q hq := by simp [SameMemories, Device.atIssue, Device.settleAt, hq]

/-- What every bundle that falls through leaves: the bank and the issue cycle after it, no write of its own, the memories and the
other regions as they were. -/
structure FellThrough (r : Nat) (d d' : Device) : Prop extends ActsIn r d d' where
  flows : FallsThrough d' (seenNow d r)
  writes : WritesAre d d' (seenNow d r) []

theorem FellThrough.trans {r : Nat} {a b c : Device} (h : FellThrough r a b) (k : KeepsIssue r b c) : FellThrough r a c where
  toActsIn := h.toActsIn.trans k.toActsIn
  flows := by
    obtain ⟨bank, cyc⟩ := h.flows
    refine ⟨?_, k.cyc.trans cyc⟩
    rw [seenNow_r, k.arch]
    exact bank
  writes := k.pend.trans h.writes

/-- The sequencer of a region after issue and flow: its registers, its tests, its egress groups and its other entries of issue
are as they were. -/
theorem Device.afterFlow_region (d : Device) (r : Nat) (op : SlotOp) :
    (d.afterFlow r op).region r =
      { (d.atIssue r).region r with
        arch := tupd .reset ((d.atIssue r).region r).arch (d.region r).regs.slot fun b =>
          { b with pc := ((seenNow d r).flow op).pc, loop := ((seenNow d r).flow op).loop, ret := ((seenNow d r).flow op).ret },
        cyc := (seenNow d r).cycle + ((seenNow d r).flow op).gap,
        sinceYield := (d.region r).sinceYield + ((seenNow d r).flow op).gap } := by
  simp [Device.afterFlow, Device.setFlow, Device.atIssue_region]

theorem Device.sameOutside_afterFlow (d : Device) (r : Nat) (op : SlotOp) : SameOutside d (d.afterFlow r op) :=
  (d.sameOutside_atIssue r).trans (sameOutside_updRegion _ _ _)

theorem Device.fellThrough_afterFlow (d : Device) (r : Nat) (op : SlotOp)
    (h : (seenNow d r).flow op = (seenNow d r).fallThrough) : FellThrough r d (d.afterFlow r op) where
  toActsIn := (d.actsIn_atIssue r).trans (actsIn_updRegion _ _ _ (by simp [SameMemories]))
  flows := by
    simp [FallsThrough, Flows, Device.afterFlow_region, Device.atIssue_region, h, Ctx.fallThrough]
  writes := by
    simp [WritesAre, Device.afterFlow_region, Device.atIssue_region]

end Sys2Proof.Machine

/-! SUPPORT. The last effects of the C slot and the shared operations of the sequencer: events against the timeline, egress
groups, the end of an activation, traps, tests (R53 to R55, R225, R249, R258, R278). -/
namespace Sys2Proof.Machine

open Sys2Proof.Safety

/-! ### Events against the timeline -/

theorem Device.lateEvent_reports (d : Device) (a b n x : Nat) :
    Reports { d with tb := { d.tb with lateEvents := satInc d.tb.lateEvents, lateEvent := true } } (d.lateEvent a b n x) :=
  Device.faultRec_reports ..

@[simp] theorem Device.onTime_regions (d : Device) (t a b n : Nat) : (d.onTime t a b n).regions = d.regions := by
  unfold Device.onTime
  split
  · exact (d.lateEvent_reports ..).regions
  · rfl

@[simp] theorem Device.onTime_region (d : Device) (t a b n q : Nat) : (d.onTime t a b n).region q = d.region q :=
  region_of_regions (d.onTime_regions t a b n) q

@[simp] theorem Device.onTime_tiles (d : Device) (t a b n : Nat) : (d.onTime t a b n).tiles = d.tiles := by
  unfold Device.onTime
  split
  · exact (d.lateEvent_reports ..).tiles
  · rfl

@[simp] theorem Device.onTime_hbm (d : Device) (t a b n : Nat) : (d.onTime t a b n).hbm = d.hbm := by
  unfold Device.onTime
  split
  · exact (d.lateEvent_reports ..).hbm
  · rfl

@[simp] theorem Device.onTime_clk (d : Device) (t a b n : Nat) : (d.onTime t a b n).clk = d.clk := by
  unfold Device.onTime
  split
  · exact (d.lateEvent_reports ..).clk
  · rfl

/-- An event is counted late exactly when its instant has passed (R55). -/
theorem Device.onTime_lateEvents (d : Device) (t a b n : Nat) :
    (d.onTime t a b n).tb.lateEvents = if t < d.clk.since then satInc d.tb.lateEvents else d.tb.lateEvents := by
  simp only [Device.onTime, Device.passed, decide_eq_true_eq]
  split
  · rw [(d.lateEvent_reports ..).tb]
  · rfl

theorem Device.onTime_lateEvent (d : Device) (t a b n : Nat) (h : t < d.clk.since) : (d.onTime t a b n).tb.lateEvent = true := by
  simp only [Device.onTime, Device.passed, h, decide_true, if_true]
  rw [(d.lateEvent_reports ..).tb]

/-- An event on its cycle changes nothing of its own. -/
theorem Device.onTime_of_not_passed (d : Device) (t a b n : Nat) (h : d.clk.since ≤ t) : d.onTime t a b n = d := by
  simp [Device.onTime, Device.passed, Nat.not_lt.mpr h]

/-! ### Yield points, egress groups and the end of an activation -/

theorem Device.keepsIssue_yieldPoint (d : Device) (r : Nat) : KeepsIssue r d (d.yieldPoint r) :=
  keepsIssue_updRegion _ _ _ fun _ => ⟨rfl, rfl, rfl, rfl, rfl, rfl, rfl, rfl⟩

/-- The open group of the stream is no more, and nothing else of the region differs (R278). -/
theorem Device.closeGroup_region (d : Device) (r n : Nat) :
    (d.closeGroup r n).region r = { d.region r with groups := tdel (d.region r).groups n } := by
  unfold Device.closeGroup
  split
  next h =>
    have e : tdel (d.region r).groups n = (d.region r).groups := by
      simpa [tdel, List.filter_eq_self, List.find?_eq_none] using h
    rw [e]
  next => exact Device.region_updRegion_same d r fun g => { g with groups := tdel g.groups n }

theorem Device.closeGroup_region_ne (d : Device) (r n q : Nat) (h : q ≠ r) : (d.closeGroup r n).region q = d.region q := by
  unfold Device.closeGroup
  split
  · rfl
  · exact Device.region_updRegion_ne d r q (fun g => { g with groups := tdel g.groups n }) h

@[simp] theorem Device.closeGroup_tiles (d : Device) (r n : Nat) : (d.closeGroup r n).tiles = d.tiles := by
  unfold Device.closeGroup
  split <;> rfl

@[simp] theorem Device.closeGroup_hbm (d : Device) (r n : Nat) : (d.closeGroup r n).hbm = d.hbm := by
  unfold Device.closeGroup
  split <;> rfl

/-- The hub's entry of the group is closed (R277, R278). -/
theorem Device.closeGroup_closes (d : Device) (r n no k : Nat)
    (h : (d.region r).groups.find? (fun e => e.1 = n) = some (n, no, k)) {a : EgressGroup}
    (ha : a ∈ (d.closeGroup r n).adm.groups) (hs : a.stream = n) (hr : a.region = r) (hn : a.number = no) :
    a.closed = true := by
  simp only [Device.closeGroup, h, List.mem_map] at ha
  obtain ⟨x, -, rfl⟩ := ha
  split
  next => rfl
  next hx => exact absurd ⟨by simpa [hx] using hs, by simpa [hx] using hr, by simpa [hx] using hn⟩ hx

theorem Device.keepsIssue_closeGroup (d : Device) (r n : Nat) : KeepsIssue r d (d.closeGroup r n) where
  memories := by simp [SameMemories, Device.closeGroup_region]
  others q hq := by simp [SameMemories, Device.closeGroup_region_ne _ _ _ _ hq]
  arch := by rw [Device.closeGroup_region]
  pend := by rw [Device.closeGroup_region]
  cyc := by rw [Device.closeGroup_region]
  asked := by rw [Device.closeGroup_region]

theorem Device.actsIn_flushWrites (d : Device) (r : Nat) : ActsIn r d (d.flushWrites r) :=
  actsIn_updRegion _ _ _ (by simp [SameMemories])

/-- The sequencer of a region whose activation has ended (R225). -/
theorem Device.endActivation_region (d : Device) (r : Nat) :
    ∃ arch groups, (d.endActivation r).region r =
      { d.region r with
        pend := [], arch := arch, groups := groups, active := false, wait := none, staged := [], held := [], stalls := [],
        lateTraps := [], haltAsked := false, yieldedFrom := false, regs := { (d.region r).regs with st := .idle } } := by
  simp only [Device.endActivation, Device.closeGroup_region, Device.region_updRegion_same, Device.flushWrites]
  exact ⟨_, _, rfl⟩

theorem Device.actsIn_endActivation (d : Device) (r : Nat) : ActsIn r d (d.endActivation r) :=
  ((d.actsIn_flushWrites r).trans (actsIn_updRegion _ _ _ (by simp [SameMemories]))).trans
    (Device.keepsIssue_closeGroup ..).toActsIn

@[simp] theorem Device.endActivation_tiles (d : Device) (r : Nat) : (d.endActivation r).tiles = d.tiles :=
  Device.closeGroup_tiles ..

@[simp] theorem Device.endActivation_hbm (d : Device) (r : Nat) : (d.endActivation r).hbm = d.hbm :=
  Device.closeGroup_hbm ..

/-! ### Traps -/

/-- A region that has taken a trap, before the trap is reported (R258). -/
def Device.trapped (d : Device) (r : Nat) (t : Trap) (further : Nat) : Device :=
  (d.flushWrites r).updRegion r fun g =>
    { g with staged := [], held := [], stalls := [], haltAsked := false,
             regs := { g.regs with st := .halted, trapF := true, cause := t.code, slotClass := t.slotClass,
                                   late := t.late, swCode := t.swCode, multi := min further 255, trapPc := d.pcOf r,
                                   faultPc := t.faultPc, trapInfo := t.info % 2 ^ 32, trapMer := d.mer,
                                   resumePc := d.pcOf r, trapCount := satInc g.regs.trapCount } }

theorem Device.takeTrap_eq (d : Device) (r : Nat) (t : Trap) (n : Nat) :
    d.takeTrap r t n = (d.trapped r t n).trapReport r t.code := rfl

/-- SOFTWARE makes no region suspect: it is reported only (R258). -/
theorem Device.trapReport_software (d : Device) (r : Nat) :
    d.trapReport r trSoftware = d.faultRegion r 0x09 0 trSoftware := by simp [Device.trapReport]

theorem Device.sameOutside_trapped (d : Device) (r : Nat) (t : Trap) (n : Nat) : SameOutside d (d.trapped r t n) :=
  (sameOutside_updRegion _ _ _).trans (sameOutside_updRegion _ _ _)

theorem Device.actsIn_trapped (d : Device) (r : Nat) (t : Trap) (n : Nat) : ActsIn r d (d.trapped r t n) :=
  (d.actsIn_flushWrites r).trans (actsIn_updRegion _ _ _ (by simp [SameMemories]))

theorem Device.trapped_regs (d : Device) (r : Nat) (t : Trap) (n : Nat) :
    ((d.trapped r t n).region r).regs =
      { (d.region r).regs with
        st := .halted, trapF := true, cause := t.code, slotClass := t.slotClass, late := t.late, swCode := t.swCode,
        multi := min n 255, trapPc := d.pcOf r, faultPc := t.faultPc, trapInfo := t.info % 2 ^ 32, trapMer := d.mer,
        resumePc := d.pcOf r, trapCount := satInc (d.region r).regs.trapCount } := by
  simp [Device.trapped, Device.flushWrites]

theorem Device.trapped_resetAsked (d : Device) (r : Nat) (t : Trap) (n : Nat) :
    ((d.trapped r t n).region r).resetAsked = (d.region r).resetAsked := by simp [Device.trapped, Device.flushWrites]

/-! ### Tests and what is kept for the boundary -/

/-- A test under way is left, and an ADCLIN in parts falls due again (R249, R441): nothing else of the region differs. -/
theorem Device.abandonTest_region (d : Device) (r : Nat) :
    ∃ ts, (d.abandonTest r).region r = { d.region r with running := none, tests := ts } := by
  unfold Device.abandonTest
  split
  next h => exact ⟨(d.region r).tests, by rw [← h]⟩
  next t h =>
    dsimp only
    rw [region_of_regions (Device.fault_reports ..).regions]
    split
    · exact ⟨_, by rw [Device.adclinAgain, Device.region_updRegion_same, Device.region_updRegion_same]⟩
    · exact ⟨_, Device.region_updRegion_same ..⟩

theorem Device.abandonTest_region_ne (d : Device) (r q : Nat) (hq : q ≠ r) : (d.abandonTest r).region q = d.region q := by
  unfold Device.abandonTest
  split
  · rfl
  · dsimp only
    rw [region_of_regions (Device.fault_reports ..).regions]
    split <;> simp [Device.adclinAgain, hq]

theorem Device.sameOutside_abandonTest (d : Device) (r : Nat) : SameOutside d (d.abandonTest r) := by
  unfold Device.abandonTest
  split
  · exact SameOutside.refl d
  · refine SameOutside.trans ?_ (sameOutside_faultRec ..)
    split <;> simp [SameOutside, Device.adclinAgain]

/-- The test that is left is the newest record of the fault log (R249, R446). -/
theorem Device.abandonTest_log (d : Device) (r : Nat) {e : TestEntry} (h : (d.region r).running = some e) :
    ∃ f rest, (d.abandonTest r).flt.log = f :: rest ∧ f.event = 0x08 ∧ f.unitP = e.unit ∧ f.detail = e.code := by
  simp only [Device.abandonTest, h]
  obtain ⟨f, rest, log, -, unitP, event, -, -, detail, -⟩ := Device.faultRec_log _ _ e.unit 0x08 0 1 e.code 0x1FF
  exact ⟨f, rest, log, event, unitP, detail⟩

/-- Nothing is taken at a boundary where nothing was kept (R257). -/
theorem Device.takeKept_of_none (d : Device) (r : Nat) (h : (d.region r).lateTraps = []) (k : (d.region r).haltAsked = false) :
    d.takeKept r = d := by simp [Device.takeKept, h, k]

/-- Nothing issues where no bundle waits. -/
theorem Device.resume_of_none_held (d : Device) (r : Nat) (h : (d.region r).held = []) : d.resume r = d := by
  simp [Device.resume, Device.resumeHeld, h]

end Sys2Proof.Machine

/-! The waits, yields and ends of an activation (R225, R245 to R250, R278, R279): each instruction from its issue, then the
releases. -/
namespace Sys2Proof.Machine

open Sys2Proof.Safety

/-! ### From a command to what it leaves -/

/-- A command of a part that runs completes with its effect. -/
theorem completes_of_upd {s : State} {i : Instr} {f : Device → Device} {p : Device → Prop} (hs : Runs s)
    (he : exec i s = .next (s.upd f)) (hp : p (f s.dev).settle) : Completes i s p :=
  ⟨s.upd f, he, rfl, by rw [State.upd_runs s f hs]; exact hp⟩

theorem legal_of_scalar {g : Guard} {op : SlotOp} (ho : op.cls = 0) (hgp : g.gp < 8) (hl : op.legal = true) :
    Slot.legal { g := g, op := op } = true := by
  simp [Slot.legal, hgp, hl, ne_nop_of_scalar ho]

/-- The trap that a TRAP instruction takes (R279). -/
def softwareTrap (code pc : Nat) : Trap :=
  { code := trSoftware, slotClass := 0, late := false, swCode := code, info := 0, faultPc := pc }

section
variable {s : State} {r : Nat} {g : Guard} {op : SlotOp} {i : Instr} {p : Device → Prop}

/-- A bundle of one C-slot instruction that no check stops completes with its last effect, the posting of tests apart. -/
theorem completes_of_no_cause (h : ReadyNow s.dev r) (hgp : g.gp < 8) (hg : (seenNow s.dev r).guard g = true)
    (ho : op.cls = 0) (hl : op.legal = true) (hr : (seenNow s.dev r).rangesOk [{ g := g, op := op }] = true)
    (hc : s.dev.checkC (seenNow s.dev r) op = [])
    (he : exec i s = .next (s.upd fun d => d.finern r g true op))
    (ha : (((s.dev.afterFlow r op).endC (seenNow s.dev r) op).region r).resetAsked = (s.dev.region r).resetAsked)
    (hp : ∀ d, PostsChecks ((s.dev.afterFlow r op).endC (seenNow s.dev r) op) d → p d) : Completes i s p := by
  refine completes_of_upd h.not_stopped he (hp _ ?_)
  rw [Device.finern_of_ready h ho, Device.issueNow_of_no_cause ho (legal_of_scalar ho hgp hl) hr hg hc,
    Device.boundary_of_not_asked (ha.trans h.not_resetAsked)]
  exact (postsChecks_statTrigger _ r).trans (postsChecks_settle _)

/-- TRAP completes with the trap taken, the posting of tests and the report apart. -/
theorem completes_of_software {code : Nat} (h : ReadyNow s.dev r) (hgp : g.gp < 8) (hg : (seenNow s.dev r).guard g = true)
    (hcode : code < 256) (hr : (seenNow s.dev r).rangesOk [{ g := g, op := .trap code }] = true)
    (hp : ∀ d, PostsChecks ((s.dev.atIssue r).trapped r (softwareTrap code (seenNow s.dev r).bank.pc) 0) d → p d) :
    Completes (.trap r g true code) s p := by
  refine completes_of_upd h.not_stopped (f := fun d => d.finern r g true (.trap code)) rfl (hp _ ?_)
  have hl : Slot.legal { g := g, op := .trap code } = true := legal_of_scalar rfl hgp (decide_eq_true hcode)
  have issue : (s.dev.atIssue r).issueTrap (seenNow s.dev r) trSoftware 0 code 0 0 =
      ((s.dev.atIssue r).trapped r (softwareTrap code (seenNow s.dev r).bank.pc) 0).faultRegion r 0x09 0 trSoftware := by
    rw [← Device.trapReport_software]
    exact Device.takeTrap_eq ..
  have reports := postsChecks_of_regions (sameOutside_faultRegion ..) (Device.faultRegion_reports
    ((s.dev.atIssue r).trapped r (softwareTrap code (seenNow s.dev r).bank.pc) 0) r 0x09 0 trSoftware).regions
  rw [Device.finern_of_ready h rfl, Device.issueNow_of_software rfl hl hr hg rfl, issue, Device.boundary_of_not_asked]
  · exact (reports.trans (postsChecks_statTrigger _ r)).trans (postsChecks_settle _)
  · rw [reports.field r (·.resetAsked) fun _ _ _ => rfl, Device.trapped_resetAsked, Device.atIssue_region]
    exact h.not_resetAsked

end

/-! ### The last effects of waits and yields -/

theorem Device.endC_waitM_to_come (d : Device) (c : Ctx) (rs : Nat) (h : d.clk.now < ofMer (c.s rs)) :
    d.endC c (.waitM rs) =
      (d.yieldPoint c.r).updRegion c.r fun g => { g with wait := some (.until_ (ofMer (c.s rs))) } := by
  have hc : (d.yieldPoint c.r).came (ofMer (c.s rs)) = false := decide_eq_false (Nat.not_le.mpr h)
  simp only [Device.endC, hc, Bool.false_eq_true, if_false]

theorem Device.endC_waitM_passed (d : Device) (c : Ctx) (rs : Nat) (h : ofMer (c.s rs) ≤ d.clk.now) :
    d.endC c (.waitM rs) =
      (d.yieldPoint c.r).onTime (ofMer (c.s rs)) (unitRegion c.r) (unitRegion c.r + 2 ^ 28) c.stream := by
  have hc : (d.yieldPoint c.r).came (ofMer (c.s rs)) = true := decide_eq_true h
  simp only [Device.endC, hc, if_true]

theorem Device.keepsIssue_endC_yieldTest (d : Device) (c : Ctx) (offer : Nat) :
    KeepsIssue c.r d (d.endC c (.yieldTest offer)) := by
  refine (d.keepsIssue_yieldPoint c.r).trans (keepsIssue_updRegion _ _ _ fun g => ?_)
  split
  · simp
  · split <;> simp

/-- YIELD.TEST starts the first test of the queue if it fits the offer (R249). -/
theorem Device.endC_yieldTest_region (d : Device) (c : Ctx) (offer : Nat) {t : TestEntry} {rest : List TestEntry}
    (h : (d.region c.r).tests = t :: rest) :
    (d.endC c (.yieldTest offer)).region c.r =
      if t.len ≤ offer then
        { (d.yieldPoint c.r).region c.r with
          tests := rest, running := some t, yieldedFrom := true, offerEnd := d.real + usTc offer,
          regs := { (d.region c.r).regs with st := .yielded } }
      else (d.yieldPoint c.r).region c.r := by
  simp only [Device.endC, Device.yieldPoint, Device.region_updRegion_same, h]

/-! ### The instructions -/

section
variable {s : State} {r : Nat} {g : Guard} (h : ReadyNow s.dev r) (hgp : g.gp < 8) (hg : (seenNow s.dev r).guard g = true)
include h hgp hg

/-- A bundle of one C-slot instruction that moves no control and keeps what issue needs falls through. -/
theorem completes_falling {op : SlotOp} {i : Instr} {e : Device} {p : Device → Prop} (ho : op.cls = 0) (hl : op.legal = true)
    (hr : (seenNow s.dev r).rangesOk [{ g := g, op := op }] = true) (hc : s.dev.checkC (seenNow s.dev r) op = [])
    (he : exec i s = .next (s.upd fun d => d.finern r g true op))
    (hflow : (seenNow s.dev r).flow op = (seenNow s.dev r).fallThrough)
    (hend : (s.dev.afterFlow r op).endC (seenNow s.dev r) op = e) (hk : KeepsIssue r (s.dev.afterFlow r op) e)
    (hp : ∀ d, PostsChecks e d → FellThrough r s.dev d → p d) : Completes i s p := by
  subst hend
  refine completes_of_no_cause h hgp hg ho hl hr hc he (hk.asked.trans ?_) fun d hd => hp d hd ?_
  · rw [Device.afterFlow_region, Device.atIssue_region]
  · exact ((s.dev.fellThrough_afterFlow r op hflow).trans hk).trans (hd.keepsIssue r)

section
variable (hf : (seenNow s.dev r).ps.inRange ((seenNow s.dev r).bank.pc + 1) = true)
include hf

/-- A WAITM of an instant to come holds issue (R245). -/
theorem completes_waitm_to_come {rs : Nat} (hrs : rs < 32) (hm : merOk ((seenNow s.dev r).s rs) = true)
    (hn : s.dev.clk.now < ofMer ((seenNow s.dev r).s rs))
    (hw : ofMer ((seenNow s.dev r).s rs) ≤ s.dev.clk.now + 100 * tcPerFrame) :
    Completes (.waitm r g true rs) s fun d =>
      (d.region r).wait = some (.until_ (ofMer ((seenNow s.dev r).s rs))) ∧ FallsThrough d (seenNow s.dev r) ∧
        (d.region r).sinceYield = 0 ∧ WritesAre s.dev d (seenNow s.dev r) [] ∧
        (d.region r).regs = (s.dev.region r).regs ∧ SameMemories s.dev d r ∧ OtherRegions s.dev d r ∧
        SameOutside s.dev d := by
  have flow := s.dev.sameOutside_afterFlow r (.waitM rs)
  have hend := Device.endC_waitM_to_come (s.dev.afterFlow r (.waitM rs)) (seenNow s.dev r) rs
    ((congrArg Clock.now flow.clk).trans_lt hn)
  refine completes_falling (op := .waitM rs) h hgp hg rfl (decide_eq_true hrs) (by simp [Ctx.rangesOk, hf])
    (by simp [Device.checkC, causesOf, must, hm, hw]) rfl rfl hend
    ((Device.keepsIssue_yieldPoint ..).trans (keepsIssue_updRegion _ _ _ fun _ => ⟨rfl, rfl, rfl, rfl, rfl, rfl, rfl, rfl⟩))
    fun d hd fell => ⟨?_, fell.flows, ?_, fell.writes, ?_, fell.memories, fell.others, ?_⟩
  · rw [hd.field r (·.wait) fun _ _ _ => rfl]
    simp
  · rw [hd.field r (·.sinceYield) fun _ _ _ => rfl]
    simp [Device.yieldPoint]
  · rw [hd.field r (·.regs) fun _ _ _ => rfl]
    simp [Device.yieldPoint, Device.afterFlow_region, Device.atIssue_region]
  · exact ((flow.trans (sameOutside_updRegion _ _ _)).trans (sameOutside_updRegion _ _ _)).trans hd.outside

/-- A WAITM of an instant that has passed goes on, late where the instant had passed before this cycle (R55, R245). -/
theorem completes_waitm_passed {rs : Nat} (hrs : rs < 32) (hm : merOk ((seenNow s.dev r).s rs) = true)
    (hn : ofMer ((seenNow s.dev r).s rs) ≤ s.dev.clk.now) :
    Completes (.waitm r g true rs) s fun d =>
      (d.region r).wait = none ∧ FallsThrough d (seenNow s.dev r) ∧ (d.region r).sinceYield = 0 ∧
        WritesAre s.dev d (seenNow s.dev r) [] ∧
        d.tb.lateEvents =
          (if ofMer ((seenNow s.dev r).s rs) < s.dev.clk.since then satInc s.dev.tb.lateEvents else s.dev.tb.lateEvents) ∧
        (ofMer ((seenNow s.dev r).s rs) < s.dev.clk.since → d.tb.lateEvent = true) ∧ SameMemories s.dev d r ∧
        OtherRegions s.dev d r ∧ d.tiles = s.dev.tiles ∧ d.hbm = s.dev.hbm := by
  have flow : SameOutside s.dev ((s.dev.afterFlow r (.waitM rs)).yieldPoint r) :=
    (s.dev.sameOutside_afterFlow r _).trans (sameOutside_updRegion _ _ _)
  have hend := Device.endC_waitM_passed (s.dev.afterFlow r (.waitM rs)) (seenNow s.dev r) rs
    (hn.trans_eq (congrArg Clock.now flow.clk.symm))
  refine completes_falling (op := .waitM rs) h hgp hg rfl (decide_eq_true hrs) (by simp [Ctx.rangesOk, hf])
    (by simp [Device.checkC, causesOf, must, hm, hn.trans (Nat.le_add_right _ _)]) rfl rfl hend
    ((Device.keepsIssue_yieldPoint ..).trans (keepsIssue_of_regions r (Device.onTime_regions ..)))
    fun d hd fell => ⟨?_, fell.flows, ?_, fell.writes, ?_, fun late => ?_, fell.memories, fell.others, ?_, ?_⟩
  · rw [hd.field r (·.wait) fun _ _ _ => rfl]
    simp [Device.yieldPoint, Device.afterFlow_region, Device.atIssue_region, h.wait_none]
  · rw [hd.field r (·.sinceYield) fun _ _ _ => rfl]
    simp [Device.yieldPoint]
  · rw [hd.outside.tb, Device.onTime_lateEvents, seenNow_r, flow.clk, flow.tb]
  · rw [hd.outside.tb]
    exact Device.onTime_lateEvent _ _ _ _ _ (late.trans_eq (congrArg Clock.since flow.clk.symm))
  · rw [hd.outside.tiles, Device.onTime_tiles]
    exact flow.tiles
  · rw [hd.outside.hbm, Device.onTime_hbm]
    exact flow.hbm

/-- A WAITB holds issue until the stream's next beat (R246). -/
theorem completes_waitb :
    Completes (.waitb r g true) s fun d =>
      (d.region r).wait = some (.beat (beatStartNo (s.dev.stream (seenNow s.dev r).stream).almanac
        (beatNo (s.dev.stream (seenNow s.dev r).stream).almanac s.dev.clk.now + 1))) ∧ FallsThrough d (seenNow s.dev r) ∧
        (d.region r).sinceYield = 0 ∧ WritesAre s.dev d (seenNow s.dev r) [] ∧
        (d.region r).regs = (s.dev.region r).regs ∧ SameMemories s.dev d r ∧ OtherRegions s.dev d r ∧
        SameOutside s.dev d := by
  have flow := s.dev.sameOutside_afterFlow r .waitB
  have hstream (n : Nat) : (s.dev.afterFlow r .waitB).stream n = s.dev.stream n := by
    unfold Device.stream
    rw [flow.adm]
  refine completes_falling (op := .waitB) h hgp hg rfl rfl (by simp [Ctx.rangesOk, hf]) rfl rfl rfl rfl
    ((Device.keepsIssue_yieldPoint ..).trans (keepsIssue_updRegion _ _ _ fun _ => ⟨rfl, rfl, rfl, rfl, rfl, rfl, rfl, rfl⟩))
    fun d hd fell => ⟨?_, fell.flows, ?_, fell.writes, ?_, fell.memories, fell.others, ?_⟩
  · rw [hd.field r (·.wait) fun _ _ _ => rfl]
    simp [Device.endC, hstream, flow.clk]
  · rw [hd.field r (·.sinceYield) fun _ _ _ => rfl]
    simp [Device.endC, Device.yieldPoint]
  · rw [hd.field r (·.regs) fun _ _ _ => rfl]
    simp [Device.endC, Device.yieldPoint, Device.afterFlow_region, Device.atIssue_region]
  · exact ((flow.trans (sameOutside_updRegion _ _ _)).trans (sameOutside_updRegion _ _ _)).trans hd.outside

/-- YIELD.TEST starts the first test where it fits the offer and goes on where it does not (R249). -/
theorem completes_yieldTest {t : TestEntry} {rest : List TestEntry} {offer : Nat} (ht : (s.dev.region r).tests = t :: rest)
    (h1 : 1 ≤ offer) (h1000 : offer ≤ 1000) :
    Completes (.yieldTest r g true offer) s fun d =>
      (t.len ≤ offer → (d.region r).running = some t ∧ (d.region r).regs.st = .yielded ∧
        (d.region r).yieldedFrom = true ∧ (d.region r).offerEnd = s.dev.real + usTc offer) ∧
      (offer < t.len → (d.region r).running = (s.dev.region r).running ∧ (d.region r).regs = (s.dev.region r).regs) ∧
      FallsThrough d (seenNow s.dev r) ∧ WritesAre s.dev d (seenNow s.dev r) [] ∧ SameMemories s.dev d r ∧
      OtherRegions s.dev d r ∧ SameOutside s.dev d := by
  have flow := s.dev.sameOutside_afterFlow r (.yieldTest offer)
  have htests : ((s.dev.afterFlow r (.yieldTest offer)).region r).tests = t :: rest := by
    simp [Device.afterFlow_region, Device.atIssue_region, ht]
  have hend := Device.endC_yieldTest_region _ (seenNow s.dev r) offer htests
  rw [seenNow_r] at hend
  refine completes_falling (op := .yieldTest offer) h hgp hg rfl (by simp [SlotOp.legal, h1, h1000]) (by simp [Ctx.rangesOk, hf])
    rfl rfl rfl rfl (Device.keepsIssue_endC_yieldTest _ (seenNow s.dev r) offer)
    fun d hd fell => ⟨fun fits => ?_, fun long => ?_, fell.flows, fell.writes, fell.memories, fell.others, ?_⟩
  · rw [if_pos fits] at hend
    refine ⟨?_, ?_, ?_, ?_⟩
    · rw [hd.field r (·.running) fun _ _ _ => rfl, hend]
    · rw [hd.field r (·.regs.st) fun _ _ _ => rfl, hend]
    · rw [hd.field r (·.yieldedFrom) fun _ _ _ => rfl, hend]
    · rw [hd.field r (·.offerEnd) fun _ _ _ => rfl, hend, Device.real, flow.clk, ← Device.real]
  · rw [if_neg (Nat.not_le.mpr long)] at hend
    constructor
    · rw [hd.field r (·.running) fun _ _ _ => rfl, hend]
      simp [Device.yieldPoint, Device.afterFlow_region, Device.atIssue_region]
    · rw [hd.field r (·.regs) fun _ _ _ => rfl, hend]
      simp [Device.yieldPoint, Device.afterFlow_region, Device.atIssue_region]
  · exact ((flow.trans (sameOutside_updRegion _ _ _)).trans (sameOutside_updRegion _ _ _)).trans hd.outside

/-- SEAL closes the stream's open group, in the region and with the hub (R278). -/
theorem completes_seal :
    Completes (.seal r g true) s fun d =>
      ((d.region r).groups.find? fun e => e.1 = (seenNow s.dev r).stream) = none ∧
      (∀ n k, (s.dev.region r).groups.find? (fun e => e.1 = (seenNow s.dev r).stream) =
          some ((seenNow s.dev r).stream, n, k) →
        ∀ a, a ∈ d.adm.groups → a.stream = (seenNow s.dev r).stream → a.region = r → a.number = n → a.closed = true) ∧
      FallsThrough d (seenNow s.dev r) ∧ WritesAre s.dev d (seenNow s.dev r) [] ∧ SameMemories s.dev d r ∧
      OtherRegions s.dev d r ∧ (d.region r).regs = (s.dev.region r).regs ∧ d.tiles = s.dev.tiles ∧ d.hbm = s.dev.hbm := by
  have flow := s.dev.sameOutside_afterFlow r .seal
  have hgroups : ((s.dev.afterFlow r .seal).region r).groups = (s.dev.region r).groups := by
    simp [Device.afterFlow_region, Device.atIssue_region]
  refine completes_falling (op := .seal) (e := (s.dev.afterFlow r .seal).closeGroup r (seenNow s.dev r).stream) h hgp hg rfl rfl
    (by simp [Ctx.rangesOk, hf]) rfl rfl rfl rfl (Device.keepsIssue_closeGroup ..)
    fun d hd fell => ⟨?_, fun n k hfind a ha hs hr hn => ?_, fell.flows, fell.writes, fell.memories, fell.others, ?_, ?_, ?_⟩
  · rw [hd.field r (·.groups) fun _ _ _ => rfl, Device.closeGroup_region]
    simp [tdel, List.find?_filter, List.find?_eq_none]
  · rw [hd.outside.adm] at ha
    rw [← hgroups] at hfind
    exact Device.closeGroup_closes _ _ _ _ _ hfind ha hs hr hn
  · rw [hd.field r (·.regs) fun _ _ _ => rfl, Device.closeGroup_region]
    simp [Device.afterFlow_region, Device.atIssue_region]
  · rw [hd.outside.tiles, Device.closeGroup_tiles, flow.tiles]
  · rw [hd.outside.hbm, Device.closeGroup_hbm, flow.hbm]

end

section
variable (hl : g = { gp := 0, gn := false } ∨ (seenNow s.dev r).ps.inRange ((seenNow s.dev r).bank.pc + 1) = true)
include hl

/-- HALT ends the activation (R225). -/
theorem completes_halt :
    Completes (.halt r g true) s fun d =>
      (d.region r).regs.st = .idle ∧ (d.region r).active = false ∧ (d.region r).pend = [] ∧ (d.region r).held = [] ∧
        (d.region r).regs.trapF = (s.dev.region r).regs.trapF ∧ SameMemories s.dev d r ∧ OtherRegions s.dev d r ∧
        d.tiles = s.dev.tiles ∧ d.hbm = s.dev.hbm := by
  have flow := s.dev.sameOutside_afterFlow r .halt
  obtain ⟨arch, groups, hend⟩ := Device.endActivation_region (s.dev.afterFlow r .halt) r
  have hr : (seenNow s.dev r).rangesOk [{ g := g, op := .halt }] = true := by
    simpa [Ctx.rangesOk, noFallThrough] using hl
  refine completes_of_no_cause (op := .halt) h hgp hg rfl rfl hr rfl rfl ?_ fun d hd => ?_
  · change (((s.dev.afterFlow r .halt).endActivation r).region r).resetAsked = _
    rw [hend, Device.afterFlow_region, Device.atIssue_region]
  · change PostsChecks ((s.dev.afterFlow r .halt).endActivation r) d at hd
    have flowActs := (s.dev.fellThrough_afterFlow r .halt rfl).toActsIn
    have acts : ActsIn r s.dev d := (flowActs.trans (Device.actsIn_endActivation ..)).trans (hd.keepsIssue r).toActsIn
    refine ⟨?_, ?_, ?_, ?_, ?_, acts.memories, acts.others, ?_, ?_⟩
    · rw [hd.field r (·.regs.st) fun _ _ _ => rfl, hend]
    · rw [hd.field r (·.active) fun _ _ _ => rfl, hend]
    · rw [hd.field r (·.pend) fun _ _ _ => rfl, hend]
    · rw [hd.field r (·.held) fun _ _ _ => rfl, hend]
    · rw [hd.field r (·.regs.trapF) fun _ _ _ => rfl, hend, Device.afterFlow_region, Device.atIssue_region]
    · rw [hd.outside.tiles, Device.endActivation_tiles, flow.tiles]
    · rw [hd.outside.hbm, Device.endActivation_hbm, flow.hbm]

/-- TRAP halts the region with SOFTWARE and its code (R258, R279). -/
theorem completes_trap {code : Nat} (hcode : code < 256) :
    Completes (.trap r g true code) s fun d =>
      (d.region r).regs.st = .halted ∧ (d.region r).regs.trapF = true ∧ (d.region r).regs.cause = 0x0E ∧
        (d.region r).regs.swCode = code ∧ (d.region r).regs.late = false ∧
        (d.region r).regs.trapPc = (seenNow s.dev r).bank.pc ∧ (d.region r).regs.resumePc = (seenNow s.dev r).bank.pc ∧
        (d.region r).regs.faultPc = (seenNow s.dev r).bank.pc ∧ (d.region r).regs.trapMer = s.dev.mer ∧
        (d.region r).regs.trapCount = satInc (s.dev.region r).regs.trapCount ∧ SameMemories s.dev d r ∧
        OtherRegions s.dev d r ∧ d.tiles = s.dev.tiles ∧ d.hbm = s.dev.hbm := by
  have issue := s.dev.sameOutside_atIssue r
  have hpc : (s.dev.atIssue r).pcOf r = (seenNow s.dev r).bank.pc := by simp [Device.pcOf, Device.atIssue_region]
  have hmer : (s.dev.atIssue r).mer = s.dev.mer := by rw [Device.mer, issue.clk, ← Device.mer]
  have hr : (seenNow s.dev r).rangesOk [{ g := g, op := .trap code }] = true := by
    simpa [Ctx.rangesOk, noFallThrough] using hl
  refine completes_of_software h hgp hg hcode hr fun d hd => ?_
  have acts : ActsIn r s.dev d :=
    ((s.dev.actsIn_atIssue r).trans (Device.actsIn_trapped ..)).trans (hd.keepsIssue r).toActsIn
  have outside : SameOutside s.dev d := (issue.trans (Device.sameOutside_trapped ..)).trans hd.outside
  rw [hd.field r (·.regs) fun _ _ _ => rfl, Device.trapped_regs, hpc, hmer, Device.atIssue_region]
  exact ⟨rfl, rfl, rfl, rfl, rfl, rfl, rfl, rfl, rfl, rfl, acts.memories, acts.others, outside.tiles, outside.hbm⟩

end
end

/-! ### The releases -/

/-- What a wait waits for, of either kind. -/
theorem at_waitFor (b : Bool) (t : Nat) : TimeWait.at_ (if b then .beat t else .until_ t) = t := by
  cases b <;> rfl

section
variable {d : Device} {r : Nat} {w : TimeWait}

/-- Before its value a wait holds on (R53, R245, R246). -/
theorem Device.releaseWait_to_come (hw : (d.region r).wait = some w) (ht : d.clk.now < w.at_) : d.releaseWait r = d := by
  simp [Device.releaseWait, hw, ht]

/-- A HALTED region keeps the wait (R247). -/
theorem Device.releaseWait_halted (hw : (d.region r).wait = some w) (hst : (d.region r).regs.st = .halted) :
    d.releaseWait r = d := by
  simp [Device.releaseWait, hw, hst]

/-- A running region once its wait has ended: no bundle of it issues before now (R271). -/
def Device.backFromWait (d : Device) (r : Nat) : Device :=
  d.updRegion r fun g => { g.fromYield d.nowCycle with wait := none }

theorem Device.releaseWait_running (hw : (d.region r).wait = some w) (ht : w.at_ ≤ d.clk.now)
    (hst : (d.region r).regs.st = .running) (hh : (d.region r).held = []) :
    d.releaseWait r =
      (d.backFromWait r).onTime w.at_ (unitRegion r) (unitRegion r + 2 ^ 28) ((d.backFromWait r).streamIn r) := by
  have resumed (x : Device) (hx : x.region r = (d.backFromWait r).region r) : x.resume r = x := by
    rw [Device.resume_of_none_held]
    simp [hx, Device.backFromWait, Region.fromYield, Region.catchUp, hh]
  simp only [Device.releaseWait, hw, hst, if_neg (Nat.not_lt.mpr ht)]
  exact resumed _ (Device.onTime_region ..)

theorem Device.actsIn_backFromWait (d : Device) (r : Nat) : ActsIn r d (d.backFromWait r) :=
  actsIn_updRegion _ _ _ (by simp [SameMemories, Region.fromYield, Region.catchUp])

/-- A region that yielded in a wait, once the wait has ended: its test is left and it runs (R250). -/
def Device.backFromYield (d : Device) (r : Nat) : Device :=
  (d.abandonTest r).updRegion r fun g =>
    { g.fromYield d.nowCycle with wait := none, yieldedFrom := false, regs := { g.regs with st := .running } }

theorem Device.releaseWait_yielded (hw : (d.region r).wait = some w) (ht : w.at_ ≤ d.clk.now)
    (hst : (d.region r).regs.st = .yielded) (hh : (d.region r).held = []) (hl : (d.region r).lateTraps = [])
    (ha : (d.region r).haltAsked = false) :
    d.releaseWait r =
      (d.backFromYield r).onTime w.at_ (unitRegion r) (unitRegion r + 2 ^ 28) ((d.backFromYield r).streamIn r) := by
  obtain ⟨ts, e⟩ := d.abandonTest_region r
  have kept (x : Device) (hx : x.region r = (d.backFromYield r).region r) : (x.takeKept r).resume r = x := by
    rw [Device.takeKept_of_none, Device.resume_of_none_held]
    all_goals simp [hx, Device.backFromYield, Region.fromYield, Region.catchUp, e, hh, hl, ha]
  simp only [Device.releaseWait, hw, hst, if_neg (Nat.not_lt.mpr ht)]
  exact kept _ (Device.onTime_region ..)

theorem Device.backFromYield_region (d : Device) (r : Nat) :
    ∃ ts, (d.backFromYield r).region r =
      { d.region r with
        running := none, tests := ts, cyc := max (d.region r).cyc d.nowCycle, sinceYield := 0, gapSeen := false, wait := none,
        yieldedFrom := false, regs := { (d.region r).regs with st := .running } } := by
  obtain ⟨ts, e⟩ := d.abandonTest_region r
  exact ⟨ts, by simp only [Device.backFromYield, Device.region_updRegion_same, Region.fromYield, Region.catchUp, e]⟩

theorem Device.actsIn_backFromYield (d : Device) (r : Nat) : ActsIn r d (d.backFromYield r) where
  memories := by
    obtain ⟨ts, e⟩ := d.backFromYield_region r
    simp [SameMemories, e]
  others q hq := by simp [SameMemories, Device.backFromYield, Device.abandonTest_region_ne _ _ _ hq, hq]

theorem Device.sameOutside_backFromYield (d : Device) (r : Nat) : SameOutside d (d.backFromYield r) :=
  (d.sameOutside_abandonTest r).trans (sameOutside_updRegion _ _ _)

end

section
variable {s : State} {r t : Nat} {b : Bool} (hs : Runs s) (hw : (s.dev.region r).wait = some (if b then .beat t else .until_ t))
include hs hw

/-- Each release, of the wait it is for, has the one meaning. -/
theorem completes_release {p : Device → Prop} (hp : p (s.dev.releaseWait r).settle) :
    Completes (if b then .waitbRelease r else .waitmRelease r) s p := by
  cases b with
  | false => exact completes_of_upd hs (f := _) rfl (by simpa [hw] using hp)
  | true => exact completes_of_upd hs (f := _) rfl (by simpa [hw] using hp)

/-- Before the value nothing happens, and a HALTED region keeps the wait (R53, R247). -/
theorem completes_release_none (h : s.dev.clk.now < t ∨ (s.dev.region r).regs.st = .halted) :
    Completes (if b then .waitbRelease r else .waitmRelease r) s fun d =>
      d.regions = s.dev.regions ∧ SameOutside s.dev d := by
  have hsame : s.dev.releaseWait r = s.dev := by
    obtain ht | hst := h
    · exact Device.releaseWait_to_come hw (ht.trans_eq (at_waitFor b t).symm)
    · exact Device.releaseWait_halted hw hst
  exact completes_release hs hw (by rw [hsame]; exact ⟨rfl, (postsChecks_settle _).outside⟩)

variable (hh : (s.dev.region r).held = []) (ht : t ≤ s.dev.clk.now)
include hh ht

/-- The wait of a running region ends, late where the instant had passed before this cycle (R53, R55, R271). -/
theorem completes_release_running (hst : (s.dev.region r).regs.st = .running) :
    Completes (if b then .waitbRelease r else .waitmRelease r) s fun d =>
      (d.region r).wait = none ∧ (d.region r).cyc = max (s.dev.region r).cyc s.dev.nowCycle ∧ (d.region r).sinceYield = 0 ∧
        d.tb.lateEvents = (if t < s.dev.clk.since then satInc s.dev.tb.lateEvents else s.dev.tb.lateEvents) ∧
        (t < s.dev.clk.since → d.tb.lateEvent = true) ∧
        (d.region r).regs = (s.dev.region r).regs ∧ (d.region r).arch = (s.dev.region r).arch ∧
        (d.region r).pend = (s.dev.region r).pend ∧ SameMemories s.dev d r ∧ OtherRegions s.dev d r ∧
        d.tiles = s.dev.tiles ∧ d.hbm = s.dev.hbm ∧ d.clk = s.dev.clk := by
  refine completes_release hs hw ?_
  rw [Device.releaseWait_running hw ((at_waitFor b t).trans_le ht) hst hh, at_waitFor]
  generalize (s.dev.backFromWait r).streamIn r = n
  have acts := (s.dev.actsIn_backFromWait r).trans
    (actsIn_of_regions r (Device.onTime_regions _ t (unitRegion r) (unitRegion r + 2 ^ 28) n))
  simp only [Device.settle_region, Device.settle_tb, Device.settle_clk, Device.settle_tiles, Device.settle_hbm,
    Device.onTime_region, Device.onTime_lateEvents, Device.onTime_clk, Device.onTime_tiles, Device.onTime_hbm]
  refine ⟨?_, ?_, ?_, rfl, fun late => Device.onTime_lateEvent _ _ _ _ _ late, ?_, ?_, ?_, acts.memories, acts.others,
    rfl, rfl, rfl⟩
  all_goals simp [Device.backFromWait, Region.fromYield, Region.catchUp]

/-- A region that yielded in the wait leaves its test, which is reported, and runs again (R250). -/
theorem completes_release_yielded (hst : (s.dev.region r).regs.st = .yielded) (hl : (s.dev.region r).lateTraps = [])
    (ha : (s.dev.region r).haltAsked = false) :
    Completes (if b then .waitbRelease r else .waitmRelease r) s fun d =>
      (d.region r).wait = none ∧ (d.region r).regs.st = .running ∧ (d.region r).running = none ∧
        (d.region r).yieldedFrom = false ∧ (d.region r).arch = (s.dev.region r).arch ∧ SameMemories s.dev d r ∧
        OtherRegions s.dev d r ∧ d.tiles = s.dev.tiles ∧
        (∀ e, (s.dev.region r).running = some e → s.dev.clk.since ≤ t →
          ∃ f rest, d.flt.log = f :: rest ∧ f.event = 0x08 ∧ f.unitP = e.unit ∧ f.detail = e.code) := by
  refine completes_release hs hw ?_
  rw [Device.releaseWait_yielded hw ((at_waitFor b t).trans_le ht) hst hh hl ha, at_waitFor]
  generalize (s.dev.backFromYield r).streamIn r = n
  have acts := (s.dev.actsIn_backFromYield r).trans
    (actsIn_of_regions r (Device.onTime_regions _ t (unitRegion r) (unitRegion r + 2 ^ 28) n))
  have outside := s.dev.sameOutside_backFromYield r
  obtain ⟨ts, back⟩ := s.dev.backFromYield_region r
  simp only [Device.settle_region, Device.settle_tiles, Device.settle_flt, Device.onTime_region, Device.onTime_tiles, back]
  refine ⟨trivial, trivial, trivial, trivial, trivial, acts.memories, acts.others, outside.tiles, fun e he onCycle => ?_⟩
  rw [Device.onTime_of_not_passed _ _ _ _ _ ((congrArg Clock.since outside.clk).trans_le onCycle)]
  exact Device.abandonTest_log _ _ he

end

end Sys2Proof.Machine

namespace Sys2Proof

/-- Settles O26: a bundle of one C-slot instruction issues at once with the flow and its last effect alone, and a release is the
end of the wait; each clause is the lemma about its instruction. -/
theorem waitsYieldsAndEndsOfFinern : Obligations.WaitsYieldsAndEndsOfFinern := by
  refine ⟨fun s r g h hgp hg => ⟨?_, ?_, ?_, ?_, ?_, ?_, ?_⟩, fun s r t b hs hh hw => ⟨?_, ?_, ?_⟩⟩
  · exact fun rs hrs hf hm hn hr => Machine.completes_waitm_to_come h hgp hg hf hrs hm hn hr
  · exact fun rs hrs hf hm hn => Machine.completes_waitm_passed h hgp hg hf hrs hm hn
  · exact fun hf => Machine.completes_waitb h hgp hg hf
  · exact fun t rest offer ht h1 h1000 hf => Machine.completes_yieldTest h hgp hg hf ht h1 h1000
  · exact fun hf => Machine.completes_seal h hgp hg hf
  · exact fun hl => Machine.completes_halt h hgp hg hl
  · exact fun code hcode hl => Machine.completes_trap h hgp hg hl hcode
  · exact fun hnone => Machine.completes_release_none hs hw hnone
  · exact fun ht hst => Machine.completes_release_running hs hw hh ht hst
  · exact fun ht hst hl ha => Machine.completes_release_yielded hs hw hh ht hst hl ha

end Sys2Proof

/-! SUPPORT. Bundles that do nothing but move control: those of a NOP, and those whose one C-slot instruction has a false guard or
is a control transfer (R268, R270 to R274). -/
namespace Sys2Proof.Machine

open Sys2Proof.Safety

/-! ### What a move of control leaves -/

/-- A ready region whose bundle has moved control, and done nothing else yet (R239, R272). -/
def Device.flowsTo (d : Device) (r : Nat) (f : Flow) : Device := (d.atIssue r).setFlow (seenNow d r) f

theorem Device.afterFlow_eq_flowsTo (d : Device) (r : Nat) (op : SlotOp) :
    d.afterFlow r op = d.flowsTo r ((seenNow d r).flow op) := rfl

/-- The whole region after a move of control. -/
theorem Device.flowsTo_region (d : Device) (r : Nat) (f : Flow) :
    (d.flowsTo r f).region r =
      { (d.atIssue r).region r with
        arch := tupd .reset ((d.atIssue r).region r).arch (d.region r).regs.slot fun b =>
          { b with pc := f.pc, loop := f.loop, ret := f.ret },
        cyc := (seenNow d r).cycle + f.gap, sinceYield := (d.region r).sinceYield + f.gap } := by
  simp [Device.flowsTo, Device.setFlow, Device.atIssue_region]

theorem Device.sameOutside_flowsTo (d : Device) (r : Nat) (f : Flow) : SameOutside d (d.flowsTo r f) :=
  (d.sameOutside_atIssue r).trans (sameOutside_updRegion _ _ _)

theorem Device.actsIn_flowsTo (d : Device) (r : Nat) (f : Flow) : ActsIn r d (d.flowsTo r f) :=
  (d.actsIn_atIssue r).trans (actsIn_updRegion _ _ _ (by simp [SameMemories]))

/-- A bundle has moved control, written no register and changed nothing else but statistics (R239, R241). -/
def OnlyFlows (d d' : Device) (r : Nat) (f : Flow) : Prop :=
  Flows d' (seenNow d r) f.pc f.loop f.ret f.gap ∧ WritesAre d d' (seenNow d r) [] ∧ SameMemories d d' r ∧
    OtherRegions d d' r ∧ SameOutside d d' ∧ (d'.region r).regs = (d.region r).regs

theorem onlyFlows_of_flowsTo {d d' : Device} {r : Nat} {f : Flow} (h : PostsChecks (d.flowsTo r f) d') :
    OnlyFlows d d' r f := by
  have keeps := h.keepsIssue r
  have acts := (d.actsIn_flowsTo r f).trans keeps.toActsIn
  refine ⟨⟨?_, ?_⟩, ?_, acts.memories, acts.others, (d.sameOutside_flowsTo r f).trans h.outside, ?_⟩
  · rw [seenNow_r, keeps.arch]
    simp [Device.flowsTo_region, Device.atIssue_region]
  · rw [seenNow_r, keeps.cyc, Device.flowsTo_region]
  · rw [WritesAre, seenNow_r, keeps.pend]
    simp [Device.flowsTo_region, Device.atIssue_region]
  · rw [h.field r (·.regs) fun _ _ _ => rfl, Device.flowsTo_region, Device.atIssue_region]

theorem Device.flowsTo_resetAsked (d : Device) (r : Nat) (f : Flow) :
    ((d.flowsTo r f).region r).resetAsked = (d.region r).resetAsked := by
  rw [Device.flowsTo_region, Device.atIssue_region]

/-! ### A false guard -/

section
variable {d : Device} {c : Ctx} {s : Slot}

/-- Where the one slot's guard is false, its entry checks nothing (R240). -/
theorem Device.bundleCauses_of_guard_false (ho : s.op.cls = 0) (hl : Slot.legal s = true) (hr : c.rangesOk [s] = true)
    (hg : c.guard s.g = false) : d.bundleCauses c [s] = [] := by
  have hf : fetchBad [s] = false := by simp [fetchBad, ne_nop_of_scalar ho]
  simp [Device.bundleCauses, hf, bundleLegal_of_scalar ho, hl, hr, causesOf, must, Device.causes, slotOfClass_of_scalar ho,
    Device.checkSlot, hg]

/-- Where the one slot's guard is false, control moves as for an instruction that is off (R272). -/
theorem Device.effects_of_guard_false (ho : s.op.cls = 0) (hg : c.guard s.g = false) :
    d.effects c [s] = d.setFlow c (c.flowOff s.op) := by
  simp [Device.effects, slotOfClass_of_scalar ho, hg, Device.lateTogether, forEach]

end

/-- A bundle of one C-slot instruction whose guard is false does nothing but move control. -/
theorem Device.issueNow_of_guard_false {d : Device} {r : Nat} {g : Guard} {op : SlotOp} (ho : op.cls = 0)
    (hl : Slot.legal { g := g, op := op } = true) (hr : (seenNow d r).rangesOk [{ g := g, op := op }] = true)
    (hg : (seenNow d r).guard g = false) :
    (d.updRegion r fun q => { q with staged := [] }).issueNow r [{ g := g, op := op }] =
      d.flowsTo r ((seenNow d r).flowOff op) := by
  have hs : (Slot.mk g op .clean).op.cls = 0 := ho
  simp [Device.issueNow, Device.issueAt_of_scalar _ r hs, Device.readyCycle_of_scalar _ r hs, seenNow_of_unstaged,
    Device.bundleCauses_of_guard_false hs hl hr hg, Device.effects_of_guard_false hs hg, Device.fetchFound_of_scalar _ r hs,
    Device.flowsTo, Device.atIssue]

/-! ### NOP -/

/-- The slot of a NOP whose fetch met no error (R236, R268). -/
def nopSlot : Slot := { g := { gp := 0, gn := false }, op := .nop }

theorem Ctx.touches_nop (c : Ctx) : c.touches nopSlot = ([], []) := rfl

theorem slotOfClass_nop {k : Nat} (hk : k < 4) : slotOfClass [nopSlot] k = none := by
  simp [slotOfClass, nopSlot, SlotOp.cls, Nat.ne_of_gt hk]

theorem Device.readyCycle_nop (d : Device) (r : Nat) : d.readyCycle r [nopSlot] = (d.region r).cyc := by
  have unit (c : Ctx) : d.unitFree c nopSlot.op = 0 := rfl
  simp [Device.readyCycle, Device.issueCycle, Device.readyAt, Ctx.touches_nop, unit]

theorem Device.issueAt_nop (d : Device) (r : Nat) : d.issueAt r [nopSlot] = (d.region r).cyc := by
  simp [Device.issueAt, Device.readyCycle_nop, Device.tileStall, slotOfClass_nop]

/-- Nothing holds a NOP but a predicate that is due (R241). -/
theorem Device.bundleHeld_nop (d : Device) (c : Ctx) : d.bundleHeld c [nopSlot] = d.predicateDue c := by
  have engine : d.engineMove c nopSlot.op = none := rfl
  have waits : d.slotWaits c nopSlot = false := by simp [Device.slotWaits, Ctx.touches_nop, engine]
  have stalls : d.slotStalls c nopSlot = [] := by
    simp only [Device.slotStalls, Ctx.touches_nop]
    simp [nopSlot, Device.engineMove]
  simp [Device.bundleHeld, Device.bundleWaits, Device.bundleStalls, waits, stalls]

theorem Device.bundleCauses_nop (d : Device) (c : Ctx) (hr : c.rangesOk [nopSlot] = true) :
    d.bundleCauses c [nopSlot] = [] := by
  have fetch : fetchBad [nopSlot] = false := rfl
  have legal : bundleLegal [nopSlot] = true := rfl
  simp [Device.bundleCauses, fetch, legal, hr, causesOf, must, Device.causes, slotOfClass_nop]

theorem Device.effects_nop (d : Device) (c : Ctx) : d.effects c [nopSlot] = d.setFlow c c.fallThrough := rfl

theorem Device.issueNow_nop (d : Device) (r : Nat) (hr : (seenNow d r).rangesOk [nopSlot] = true) :
    (d.updRegion r fun q => { q with staged := [] }).issueNow r [nopSlot] = d.flowsTo r (seenNow d r).fallThrough := by
  have fetch (x : Device) : x.fetchFound r [nopSlot] = x := rfl
  simp [Device.issueNow, Device.issueAt_nop, Device.readyCycle_nop, seenNow_of_unstaged, Device.bundleCauses_nop _ _ hr,
    Device.effects_nop, fetch, Device.flowsTo, Device.atIssue]

/-- A ready region issues a NOP at once. -/
theorem Device.finern_nop_of_ready {d : Device} {r : Nat} (h : ReadyNow d r) :
    d.finern r nopSlot.g true .nop =
      (((d.updRegion r fun q => { q with staged := [] }).issueNow r [nopSlot]).boundary r).statTrigger r := by
  obtain ⟨⟨-, hr, hst, hstaged, hheld, hwait, -⟩, hdue⟩ := h
  have hdue' : (d.updRegion r fun q => { q with staged := [] }).predicateDue (seenNow d r) = false := hdue
  have hcan : (d.updRegion r fun q => { q with staged := [] }).canIssue r [nopSlot] = true := by
    simp [Device.canIssue, Device.issues, Device.issueAt_nop, seenNow_of_unstaged, hwait, hst, Device.bundleHeld_nop, hdue']
  have slot : ({ g := nopSlot.g, op := .nop } : Slot) = nopSlot := rfl
  simp [Device.finern, hr, Device.slot, hst, hstaged, Device.submit, hheld, slot, hcan]

/-! ### From a command to the move of control -/

section
variable {s : State} {r : Nat} (h : ReadyNow s.dev r)
include h

/-- A bundle that issues with a move of control alone completes with nothing else. -/
theorem completes_of_flowsTo {i : Instr} {b : Device → Device} {x : Device} {f : Flow} (he : exec i s = .next (s.upd b))
    (hb : b s.dev = (x.boundary r).statTrigger r) (hx : x = s.dev.flowsTo r f) :
    Completes i s fun d => OnlyFlows s.dev d r f := by
  refine completes_of_upd h.not_stopped he (onlyFlows_of_flowsTo ?_)
  rw [hb, hx, Device.boundary_of_not_asked ((s.dev.flowsTo_resetAsked r f).trans h.not_resetAsked)]
  exact (postsChecks_statTrigger _ r).trans (postsChecks_settle _)

theorem completes_nop {k : Nat} (hf : (seenNow s.dev r).ps.inRange ((seenNow s.dev r).bank.pc + 1) = true) :
    Completes (.nop r { gp := 0, gn := false } true k .clean) s fun d =>
      OnlyFlows s.dev d r (seenNow s.dev r).fallThrough :=
  completes_of_flowsTo h (b := fun d => d.finern r nopSlot.g true .nop) rfl (Device.finern_nop_of_ready h)
    (Device.issueNow_nop _ r (by simp [Ctx.rangesOk, hf, nopSlot]))

variable {g : Guard} (hgp : g.gp < 8)
include hgp

/-- A C-slot instruction whose guard is false (R240, R272). -/
theorem completes_of_guard_false {op : SlotOp} {i : Instr} (hg : (seenNow s.dev r).guard g = false) (ho : op.cls = 0)
    (hl : op.legal = true) (hr : (seenNow s.dev r).rangesOk [{ g := g, op := op }] = true)
    (he : exec i s = .next (s.upd fun d => d.finern r g true op)) :
    Completes i s fun d => OnlyFlows s.dev d r ((seenNow s.dev r).flowOff op) :=
  completes_of_flowsTo h he (Device.finern_of_ready h ho)
    (Device.issueNow_of_guard_false ho (legal_of_scalar ho hgp hl) hr hg)

/-- A control transfer whose guard is true and whose checks pass (R271 to R274). -/
theorem completes_of_transfer {op : SlotOp} {i : Instr} {f : Flow} (hg : (seenNow s.dev r).guard g = true) (ho : op.cls = 0)
    (hl : op.legal = true) (hr : (seenNow s.dev r).rangesOk [{ g := g, op := op }] = true)
    (hc : s.dev.checkC (seenNow s.dev r) op = []) (hend : ∀ d : Device, d.endC (seenNow s.dev r) op = d)
    (he : exec i s = .next (s.upd fun d => d.finern r g true op)) (hflow : (seenNow s.dev r).flow op = f) :
    Completes i s fun d => OnlyFlows s.dev d r f := by
  refine completes_of_flowsTo h he (Device.finern_of_ready h ho) ?_
  rw [Device.issueNow_of_no_cause ho (legal_of_scalar ho hgp hl) hr hg hc, hend, Device.afterFlow_eq_flowsTo, hflow]

end

/-- A slot that is not its bundle's last is gathered (log 13): nothing issues. -/
theorem completes_of_gathered {s : State} {r : Nat} {g : Guard} {op : SlotOp} {i : Instr} (h : ReadyNow s.dev r)
    (he : exec i s = .next (s.upd fun d => d.finern r g false op)) :
    Completes i s fun d =>
      (d.region r).staged = [{ g := g, op := op }] ∧ (d.region r).arch = (s.dev.region r).arch ∧
        (d.region r).pend = (s.dev.region r).pend ∧ SameMemories s.dev d r ∧ OtherRegions s.dev d r ∧
        SameOutside s.dev d := by
  have asked := h.not_resetAsked
  obtain ⟨⟨runs, hr, hst, hstaged, -⟩, -⟩ := h
  refine completes_of_upd runs he ?_
  generalize hx : (s.dev.updRegion r fun q => { q with staged := [{ g := g, op := op }] }) = x
  have keeps : KeepsIssue r s.dev x := hx ▸ keepsIssue_updRegion _ _ _ fun _ => ⟨rfl, rfl, rfl, rfl, rfl, rfl, rfl, rfl⟩
  have slot : s.dev.slot r g false op = x := by simp [Device.slot, hst, hstaged, hx]
  rw [Device.finern, if_pos hr, slot, Device.boundary_of_not_asked (keeps.asked.trans asked)]
  have posts := (postsChecks_statTrigger x r).trans (postsChecks_settle _)
  have all := keeps.trans (posts.keepsIssue r)
  refine ⟨?_, all.arch, all.pend, all.memories, all.others, (hx ▸ sameOutside_updRegion _ _ _).trans posts.outside⟩
  rw [posts.field r (·.staged) fun _ _ _ => rfl, ← hx, Device.region_updRegion_same]

/-! ### Fields, targets and stacks -/

theorem legal_brc {rs cond : Nat} {off : Int} (hrs : rs < 32) (hcond : cond < 6) (hlo : -32 ≤ off) (hhi : off < 32) :
    (SlotOp.brc rs cond off).legal = true := by
  simp [SlotOp.legal, fitsS, hrs, hcond, hlo, hhi]

section
variable {c : Ctx} {g : Guard}

/-- BR and RET need a fall-through only where they are guarded (R270). -/
theorem Ctx.rangesOk_br {t : Nat} (ht : t < c.ps.len)
    (hl : g = { gp := 0, gn := false } ∨ c.ps.inRange (c.bank.pc + 1) = true) :
    c.rangesOk [{ g := g, op := .br t }] = true := by
  simpa [Ctx.rangesOk, noFallThrough, ht] using hl

theorem Ctx.rangesOk_ret (hl : g = { gp := 0, gn := false } ∨ c.ps.inRange (c.bank.pc + 1) = true) :
    c.rangesOk [{ g := g, op := .ret }] = true := by
  simpa [Ctx.rangesOk, noFallThrough] using hl

theorem Ctx.rangesOk_brc {rs cond : Nat} {off : Int} (hf : c.ps.inRange (c.bank.pc + 1) = true)
    (h0 : 0 ≤ (c.bank.pc : Int) + off) (ht : c.ps.inRange ((c.bank.pc : Int) + off).toNat = true) :
    c.rangesOk [{ g := g, op := .brc rs cond off }] = true := by
  simp [Ctx.rangesOk, hf, h0, ht]

theorem Ctx.flow_ret {p : Nat} {rest : List Nat} (hret : c.bank.ret = p :: rest) :
    c.flow .ret = { pc := p, loop := c.bank.loop, ret := rest, gap := 2 } := by
  simp [Ctx.flow, hret]

theorem Ctx.flow_loopR {rs : Nat} (hn : c.s rs < 2 ^ 32) :
    c.flow (.loopR rs) = { c.fallThrough with loop := (c.s rs, (c.bank.pc + 1) % 2 ^ 14) :: c.bank.loop } := by
  simp only [Ctx.flow, Ctx.fallThrough, Nat.mod_eq_of_lt hn]

/-- LOOP.E counts down and goes back while the count is above 1 (R274). -/
theorem Ctx.flow_loopE_again {n start : Nat} {rest : List (Nat × Nat)} (hloop : c.bank.loop = (n, start) :: rest) (hn : 1 < n) :
    c.flow .loopE = { c.fallThrough with pc := start, loop := (n - 1, start) :: rest } := by
  simp [Ctx.flow, Ctx.fallThrough, hloop, hn]

/-- LOOP.E leaves the level at its last pass (R274). -/
theorem Ctx.flow_loopE_last {n start : Nat} {rest : List (Nat × Nat)} (hloop : c.bank.loop = (n, start) :: rest) (hn : n ≤ 1) :
    c.flow .loopE = { c.fallThrough with loop := rest } := by
  simp [Ctx.flow, Ctx.fallThrough, hloop, Nat.not_lt.mpr hn]

end

end Sys2Proof.Machine

namespace Sys2Proof

open Machine

/-- Settles O25: a bundle of one control transfer issues at once and moves control by its flow alone, and one that does nothing by
the flow of an instruction that is off; each clause is the flow of its instruction, its targets in range and its checks passed. -/
theorem controlTransfersSetPcAndStacks : Obligations.ControlTransfersSetPcAndStacks := by
  intro s r g h hgp
  refine ⟨fun k hf => completes_nop h hf, ?_, ?_, ?_, fun hg => ⟨?_, ?_, ?_, ?_, ?_, ?_, ?_⟩, fun t => ?_⟩
  · intro t ht hlen hg hf
    exact completes_of_guard_false (op := .br t) h hgp hg rfl (decide_eq_true ht) (Ctx.rangesOk_br hlen (.inr hf)) rfl
  · intro rd rs hrd hrs hg hf
    exact completes_of_guard_false (op := .alu .add rd rs) h hgp hg rfl (by simp [SlotOp.legal, hrd, hrs])
      (by simp [Ctx.rangesOk, hf]) rfl
  · intro rs cond off hrs hcond hlo hhi hg hf h0 ht
    exact completes_of_guard_false (op := .brc rs cond off) h hgp hg rfl
      (legal_brc hrs hcond hlo hhi) (Ctx.rangesOk_brc hf h0 ht) rfl
  · intro t ht hlen hl
    exact completes_of_transfer (op := .br t) h hgp hg rfl (decide_eq_true ht) (Ctx.rangesOk_br hlen hl) rfl
      (fun _ => rfl) rfl rfl
  · intro rs cond off hrs hcond hlo hhi hf h0 ht
    exact completes_of_transfer (op := .brc rs cond off) h hgp hg rfl
      (legal_brc hrs hcond hlo hhi) (Ctx.rangesOk_brc hf h0 ht) rfl (fun _ => rfl) rfl rfl
  · intro t ht hlen hroom hf
    exact completes_of_transfer (op := .call t) h hgp hg rfl (decide_eq_true ht) (by simp [Ctx.rangesOk, hf, hlen])
      (by simp [Device.checkC, causesOf, must, hroom]) (fun _ => rfl) rfl rfl
  · intro p rest hret hp hl
    exact completes_of_transfer (op := .ret) h hgp hg rfl rfl (Ctx.rangesOk_ret hl)
      (by simp [Device.checkC, causesOf, must, hret, hp]) (fun _ => rfl) rfl (Ctx.flow_ret hret)
  · intro n h1 hn hroom hf
    exact completes_of_transfer (op := .loopI n) h hgp hg rfl (by simp [SlotOp.legal, h1, hn]) (by simp [Ctx.rangesOk, hf])
      (by simp [Device.checkC, causesOf, must, hroom]) (fun _ => rfl) rfl rfl
  · intro rs hrs h1 hn hroom hf
    exact completes_of_transfer (op := .loopR rs) h hgp hg rfl (decide_eq_true hrs) (by simp [Ctx.rangesOk, hf])
      (by simpa [Device.checkC, causesOf, must, h1, hroom] using hn) (fun _ => rfl) rfl (Ctx.flow_loopR hn)
  · intro n start rest hloop hf
    have ends {f : Flow} (hflow : (Safety.seenNow s.dev r).flow .loopE = f) :
        Safety.Completes (.loopE r g true) s fun d => OnlyFlows s.dev d r f :=
      completes_of_transfer (op := .loopE) h hgp hg rfl rfl (by simp [Ctx.rangesOk, hf])
        (by simp [Device.checkC, causesOf, must, hloop]) (fun _ => rfl) rfl hflow
    exact ⟨fun hn => ends (Ctx.flow_loopE_again hloop hn), fun hn => ends (Ctx.flow_loopE_last hloop hn)⟩
  · exact completes_of_gathered (op := .br t) h rfl

end Sys2Proof

/-! SUPPORT. The C-slot instructions that compute: each writes one register its latency later and falls through (R269, R271, R275,
R276). -/
namespace Sys2Proof.Machine

open Sys2Proof.Safety

/-! ### Values -/

theorem b2n_decide (p : Prop) [Decidable p] : b2n (decide p) = if p then 1 else 0 := by simp [b2n]

theorem b2n_decide_not (p : Prop) [Decidable p] : b2n (decide ¬ p) = if p then 0 else 1 := by simp [b2n]

/-- FADD and FMUL count each operand that is not finite (R203, R275). -/
def nonfinOf (x y : Nat) : Nat :=
  (if finite32 (x % 2 ^ 32) then 0 else 1) + if finite32 (y % 2 ^ 32) then 0 else 1

theorem b2n_not (b : Bool) : b2n (!b) = if b then 0 else 1 := by cases b <;> rfl

theorem AluFn.nonfin_fadd (x y : Nat) : AluFn.fadd.nonfin x y = nonfinOf x y := by simp only [AluFn.nonfin, nonfinOf, b2n_not]

theorem AluFn.nonfin_fmul (x y : Nat) : AluFn.fmul.nonfin x y = nonfinOf x y := by simp only [AluFn.nonfin, nonfinOf, b2n_not]

/-- SAR shifts by 64 places at most. -/
theorem eval_aluSar (x y : Nat) : AluFn.sar.eval x y = ux 64 (sx 64 x / (2 ^ min y 64 : Nat)) := by
  have places : (if y < 64 then y else 64) = min y 64 := by split <;> omega
  simp only [AluFn.eval, w64, places]

theorem eval_aluMinu (x y : Nat) : AluFn.minu.eval x y = min x y := by
  simp only [AluFn.eval]
  split <;> omega

theorem eval_aluMaxu (x y : Nat) : AluFn.maxu.eval x y = max x y := by
  simp only [AluFn.eval]
  split <;> omega

/-- The sum of R276 where value and sum are in range. -/
theorem merSum_of_inRange {m : Nat} {k : Int} (hm : merOk m = true) (h0 : 0 ≤ (ofMer m : Int) + k)
    (h1 : (ofMer m : Int) + k < (2 ^ 39 * tcPerFrame : Nat)) : merSum m k = some (merOf ((ofMer m : Int) + k).toNat) := by
  simp only [merSum, hm, Bool.not_true, Bool.false_eq_true, if_false]
  exact if_neg (not_or.mpr ⟨Int.not_lt.mpr h0, Int.not_le.mpr h1⟩)

theorem eval_aluMeradd {x y v : Nat} (h : merSum x (sx 64 y) = some v) : AluFn.meradd.eval x y = v := by
  simp only [AluFn.eval, h, Option.getD_some]

/-- A sum in range passes the check of MERADD (R276). -/
theorem Device.checkC_meradd {c : Ctx} {rd rs v : Nat} (d : Device) (h : merSum (c.s rd) (sx 64 (c.s rs)) = some v) :
    d.checkC c (.alu .meradd rd rs) = [] := by
  simp [Device.checkC, causesOf, must, h]

/-! ### One write and its non-finite operands -/

/-- The DMU's registers once `n` operands that are not finite have been met (R203). -/
def DmuRegs.withNonfin (m : DmuRegs) (n : Nat) : DmuRegs :=
  if n = 0 then m else { m with nonfinF := true, nonfinCount := satAdd m.nonfinCount n }

@[simp] theorem Device.countNonfin_region (d : Device) (r n : Nat) :
    (d.countNonfin r n).region r = { d.region r with dmu := (d.region r).dmu.withNonfin n } := by
  unfold Device.countNonfin DmuRegs.withNonfin
  split
  · rfl
  · exact Device.region_updRegion_same d r _

theorem Device.sameOutside_countNonfin (d : Device) (r n : Nat) : SameOutside d (d.countNonfin r n) := by
  unfold Device.countNonfin
  split
  · exact SameOutside.refl d
  · exact sameOutside_updRegion _ _ _

theorem Device.keepsIssue_countNonfin (d : Device) (r n : Nat) : KeepsIssue r d (d.countNonfin r n) := by
  unfold Device.countNonfin
  split
  · exact keepsIssue_of_regions r rfl
  · exact keepsIssue_updRegion _ _ _ fun _ => ⟨rfl, rfl, rfl, rfl, rfl, rfl, rfl, rfl⟩

/-- A write in flight, its non-finite operands counted first (R203, R241). -/
def Device.computes (d : Device) (c : Ctx) (n : Nat) (t : RegTarget) (latency v : Nat) : Device :=
  (d.countNonfin c.r n).write c t latency v

theorem Device.computes_region (d : Device) (c : Ctx) (n : Nat) (t : RegTarget) (latency v : Nat) :
    (d.computes c n t latency v).region c.r =
      { d.region c.r with
        pend := (d.region c.r).pend ++ [{ cycle := c.cycle + latency, target := t, value := v }],
        dmu := (d.region c.r).dmu.withNonfin n } := by
  simp [Device.computes, Device.write]

theorem Device.sameOutside_computes (d : Device) (c : Ctx) (n : Nat) (t : RegTarget) (latency v : Nat) :
    SameOutside d (d.computes c n t latency v) :=
  (d.sameOutside_countNonfin c.r n).trans (sameOutside_updRegion _ _ _)

theorem Device.actsIn_computes (d : Device) (c : Ctx) (n : Nat) (t : RegTarget) (latency v : Nat) :
    ActsIn c.r d (d.computes c n t latency v) :=
  (d.keepsIssue_countNonfin c.r n).toActsIn.trans (actsIn_updRegion _ _ _ (by simp [SameMemories]))

/-! ### From a command to its write -/

/-- An instruction that falls through has no static target: BR, BRC and CALL leave a cycle in which nothing issues (R270, R272). -/
theorem Ctx.rangesOk_of_falls {c : Ctx} {g : Guard} {op : SlotOp} (hflow : c.flow op = c.fallThrough)
    (hf : c.ps.inRange (c.bank.pc + 1) = true) : c.rangesOk [{ g := g, op := op }] = true := by
  have gap : (c.flow op).gap = 1 := congrArg Flow.gap hflow
  cases op with
  | br t => simp [Ctx.flow] at gap
  | call t => simp [Ctx.flow] at gap
  | brc rs cond off => simp [Ctx.flow] at gap
  | _ => simp [Ctx.rangesOk, hf]

section
variable {s : State} {r : Nat} {g : Guard} (h : ReadyNow s.dev r) (hgp : g.gp < 8) (hg : (seenNow s.dev r).guard g = true)
  (hf : (seenNow s.dev r).ps.inRange ((seenNow s.dev r).bank.pc + 1) = true)
include h

/-- What a fall-through and one write leave, the posting of tests apart. -/
theorem onlyWritesAnd_of_computes {d : Device} {n latency v : Nat} {t : RegTarget}
    (hd : PostsChecks ((s.dev.flowsTo r (seenNow s.dev r).fallThrough).computes (seenNow s.dev r) n t latency v) d) :
    OnlyWritesAnd s.dev d (seenNow s.dev r) [{ cycle := (seenNow s.dev r).cycle + latency, target := t, value := v }]
      ((s.dev.region r).dmu.withNonfin n) := by
  have region := (s.dev.flowsTo r (seenNow s.dev r).fallThrough).computes_region (seenNow s.dev r) n t latency v
  rw [seenNow_r, Device.flowsTo_region, Device.atIssue_region] at region
  have acts := ((s.dev.actsIn_flowsTo r _).trans (Device.actsIn_computes _ (seenNow s.dev r) n t latency v)).trans
    (hd.keepsIssue r).toActsIn
  have outside := ((s.dev.sameOutside_flowsTo r _).trans (Device.sameOutside_computes _ (seenNow s.dev r) n t latency v)).trans
    hd.outside
  refine ⟨?_, ⟨?_, ?_⟩, acts.memories, acts.others, outside, ?_, ?_, ?_, ?_⟩ <;> simp only [WritesAre, seenNow_r]
  · rw [hd.field r (·.pend) fun _ _ _ => rfl, region]
  · rw [hd.field r (·.arch) fun _ _ _ => rfl, region]
    simp [Ctx.fallThrough]
  · rw [hd.field r (·.cyc) fun _ _ _ => rfl, region]
    rfl
  · rw [hd.field r (·.regs) fun _ _ _ => rfl, region]
  · rw [hd.field r (·.xfers) fun _ _ _ => rfl, region]
  · rw [hd.field r (·.wait) fun _ _ _ => rfl, region]
    exact h.wait_none
  · rw [hd.field r (·.dmu) fun _ _ _ => rfl, region]

include hgp hg hf

/-- A C-slot instruction that computes, in range of its program and with no check to stop it (R269, R271). -/
theorem completes_of_computes {op : SlotOp} {i : Instr} {n latency v : Nat} {t : RegTarget} (ho : op.cls = 0)
    (hl : op.legal = true) (hc : s.dev.checkC (seenNow s.dev r) op = [])
    (hflow : (seenNow s.dev r).flow op = (seenNow s.dev r).fallThrough)
    (he : exec i s = .next (s.upd fun d => d.finern r g true op))
    (hend : ∀ d : Device, d.endC (seenNow s.dev r) op = d.computes (seenNow s.dev r) n t latency v) :
    Completes i s fun d => OnlyWritesAnd s.dev d (seenNow s.dev r)
      [{ cycle := (seenNow s.dev r).cycle + latency, target := t, value := v }] ((s.dev.region r).dmu.withNonfin n) := by
  have region := (s.dev.afterFlow r op).computes_region (seenNow s.dev r) n t latency v
  rw [seenNow_r] at region
  refine completes_of_no_cause h hgp hg ho hl (Ctx.rangesOk_of_falls hflow hf) hc he ?_ fun d hd => onlyWritesAnd_of_computes h ?_
  · rw [hend, region, Device.afterFlow_region, Device.atIssue_region]
  · rw [hend, Device.afterFlow_eq_flowsTo, hflow] at hd
    exact hd

/-- The ALU functions but MERADD, which alone has a check (R275). -/
theorem completes_alu {fn : AluFn} {i : Instr} {rd rs n v : Nat} (hc : s.dev.checkC (seenNow s.dev r) (.alu fn rd rs) = [])
    (hrd : rd < 32) (hrs : rs < 32) (he : exec i s = .next (s.upd fun d => d.finern r g true (.alu fn rd rs)))
    (hn : fn.nonfin ((seenNow s.dev r).s rd) ((seenNow s.dev r).s rs) = n)
    (hv : fn.eval ((seenNow s.dev r).s rd) ((seenNow s.dev r).s rs) = v) :
    Completes i s fun d => OnlyWritesAnd s.dev d (seenNow s.dev r)
      [{ cycle := (seenNow s.dev r).cycle + fn.latency, target := .s rd, value := v }]
      ((s.dev.region r).dmu.withNonfin n) :=
  completes_of_computes (op := .alu fn rd rs) h hgp hg hf rfl (by simp [SlotOp.legal, hrd, hrs]) hc rfl
    he fun d => by subst hn hv; rfl

theorem completes_cmp {fn : CmpFn} {i : Instr} {pd rs rt v : Nat} (hpd : pd < 8) (hrs : rs < 32) (hrt : rt < 32)
    (he : exec i s = .next (s.upd fun d => d.finern r g true (.cmp fn pd rs rt)))
    (hv : b2n (fn.eval ((seenNow s.dev r).s rs) ((seenNow s.dev r).s rt)) = v) :
    Completes i s fun d => OnlyWrites s.dev d (seenNow s.dev r)
      [{ cycle := (seenNow s.dev r).cycle + 1, target := .p pd, value := v }] :=
  completes_of_computes (n := 0) (op := .cmp fn pd rs rt) h hgp hg hf rfl (by simp [SlotOp.legal, hpd, hrs, hrt]) rfl rfl
    he fun d => by subst hv; rfl

end

/-- The value of LIMM (R269): a high half over the low half that stands, or a low half, its sign extended or not. -/
def Ctx.limmValue (c : Ctx) (sd : Nat) (high signed : Bool) (imm : Nat) : Nat :=
  if high then imm % 2 ^ 32 * 2 ^ 32 + c.s sd % 2 ^ 32 else if signed then w64 (sx 32 imm) else imm % 2 ^ 32

/-- LIMM takes no guard (R269). -/
theorem completes_limm {s : State} {r sd imm v : Nat} {high signed : Bool} (h : ReadyNow s.dev r)
    (hf : (seenNow s.dev r).ps.inRange ((seenNow s.dev r).bank.pc + 1) = true) (hsd : sd < 32) (himm : imm < 2 ^ 32)
    (hone : (!(high && signed)) = true) (hv : (seenNow s.dev r).limmValue sd high signed imm = v) :
    Completes (.limm r true sd high signed imm) s fun d => OnlyWrites s.dev d (seenNow s.dev r)
      [{ cycle := (seenNow s.dev r).cycle + 1, target := .s sd, value := v }] :=
  completes_of_computes (g := { gp := 0, gn := false }) (n := 0) (op := .limm sd high signed imm) h (by decide) rfl hf rfl
    (by simpa [SlotOp.legal, hsd, hone] using himm) rfl rfl rfl fun d => by subst hv; rfl

end Sys2Proof.Machine

namespace Sys2Proof

open Machine

/-- Settles O24: a bundle of one C-slot instruction that computes issues at once with its fall-through and its one write; each
clause is the value, the latency and the non-finite operands of its function (R269, R271, R275, R276). -/
theorem scalarInstructionsWriteOneRegister : Obligations.ScalarInstructionsWriteOneRegister := by
  intro s r g h hgp hg hf c W F
  refine ⟨?_, ?_, ?_, ?_, ?_⟩
  · intro rd rs hrd hrs
    have alu {fn : AluFn} {i : Instr} {n v : Nat} :=
      completes_alu h hgp hg hf (fn := fn) (i := i) (n := n) (v := v) (hrd := hrd) (hrs := hrs)
    refine ⟨?_, ?_, ?_, ?_, ?_, ?_, ?_, ?_, ?_, ?_, ?_, ?_, ?_, ?_, ?_, fun hm h0 h1 => ?_⟩
    · exact alu (fn := .add) rfl rfl rfl rfl
    · exact alu (fn := .sub) rfl rfl rfl rfl
    · exact alu (fn := .and) rfl rfl rfl rfl
    · exact alu (fn := .or) rfl rfl rfl rfl
    · exact alu (fn := .xor) rfl rfl rfl rfl
    · exact alu (fn := .shl) rfl rfl rfl rfl
    · exact alu (fn := .shr) rfl rfl rfl rfl
    · exact alu (fn := .sar) rfl rfl rfl (eval_aluSar _ _)
    · exact alu (fn := .mul) rfl rfl rfl rfl
    · exact alu (fn := .min) rfl rfl rfl rfl
    · exact alu (fn := .max) rfl rfl rfl rfl
    · exact alu (fn := .minu) rfl rfl rfl (eval_aluMinu _ _)
    · exact alu (fn := .maxu) rfl rfl rfl (eval_aluMaxu _ _)
    · exact alu (fn := .fadd) rfl rfl (AluFn.nonfin_fadd _ _) rfl
    · exact alu (fn := .fmul) rfl rfl (AluFn.nonfin_fmul _ _) rfl
    · have sum := merSum_of_inRange hm h0 h1
      exact alu (fn := .meradd) (Device.checkC_meradd _ sum) rfl rfl (eval_aluMeradd sum)
  · intro rd imm hrd hlo hhi
    refine ⟨?_, ?_⟩
    · exact completes_of_computes (n := 0) (op := .addi rd imm) h hgp hg hf rfl (by simp [SlotOp.legal, fitsS, hrd, hlo, hhi])
        rfl rfl rfl fun _ => rfl
    · exact completes_of_computes (n := 0) (op := .movi rd imm) h hgp hg hf rfl (by simp [SlotOp.legal, fitsS, hrd, hlo, hhi])
        rfl rfl rfl fun _ => rfl
  · intro rd sh hrd hsh
    refine ⟨?_, ?_, ?_⟩
    · exact completes_of_computes (n := 0) (op := .shli rd sh) h hgp hg hf rfl (by simp [SlotOp.legal, hrd, hsh])
        rfl rfl rfl fun _ => rfl
    · exact completes_of_computes (n := 0) (op := .shri rd sh) h hgp hg hf rfl (by simp [SlotOp.legal, hrd, hsh])
        rfl rfl rfl fun _ => rfl
    · exact completes_of_computes (n := 0) (op := .sari rd sh) h hgp hg hf rfl (by simp [SlotOp.legal, hrd, hsh])
        rfl rfl rfl fun _ => rfl
  · intro pd rs rt hpd hrs hrt
    refine ⟨?_, ?_, ?_, ?_, ?_, ?_⟩
    · exact completes_cmp (fn := .eq) h hgp hg hf hpd hrs hrt rfl (b2n_decide _)
    · exact completes_cmp (fn := .ne) h hgp hg hf hpd hrs hrt rfl (b2n_decide_not _)
    · exact completes_cmp (fn := .lt) h hgp hg hf hpd hrs hrt rfl (b2n_decide _)
    · exact completes_cmp (fn := .le) h hgp hg hf hpd hrs hrt rfl (b2n_decide _)
    · exact completes_cmp (fn := .ltu) h hgp hg hf hpd hrs hrt rfl (b2n_decide _)
    · exact completes_cmp (fn := .leu) h hgp hg hf hpd hrs hrt rfl (b2n_decide _)
  · intro sd imm hsd himm
    refine ⟨?_, ?_, ?_⟩
    · exact completes_limm h hf hsd himm rfl (Nat.mod_eq_of_lt himm)
    · exact completes_limm h hf hsd himm rfl rfl
    · exact completes_limm h hf hsd himm rfl (congrArg (· * 2 ^ 32 + c.s sd % 2 ^ 32) (Nat.mod_eq_of_lt himm))

end Sys2Proof

/-! SUPPORT. The commands of a session that may send them: the reply comes last, and looks at no other part of the device. -/
namespace Sys2Proof.Machine

open Sys2Proof.Safety

/-! ### Replies and answers -/

/-- A command of a session that may send it is its operation, then the reply. -/
theorem Device.cmd_eq_reply {d d' : Device} {who code st : Nat} {need : Role} {body : List Nat}
    {op : Device → Nat × List Nat × Device} (h : MaySend d who code need) (ho : op d = (st, body, d')) :
    d.cmd who code need op = d'.reply who code st body := by
  obtain ⟨served, role, mode⟩ := h
  rw [Device.cmd_ok _ _ _ _ _ served role mode, ho]

/-- What of a session the count of its datagrams does not touch. -/
theorem Device.emit_session_field {α : Type} (d : Device) (o : Out) (n : Nat) (g : Session → α)
    (h : ∀ x k, g { x with txRecord := k } = g x) : g ((d.emit o).session n) = g (d.session n) := by
  unfold Device.emit
  split
  · rename_i s _
    exact d.session_upd_field s n _ g fun x => h x _
  · rfl

/-- A reply moves no session to another anchor. -/
@[simp] theorem Device.reply_session_anchor (d : Device) (who cmd st n : Nat) (body : List Nat) :
    ((d.reply who cmd st body).session n).anchor = (d.session n).anchor :=
  (Device.emit_session_field _ _ n (·.anchor) fun _ _ => rfl).trans
    (d.session_upd_field who n _ (·.anchor) fun x => by cases x.busy <;> rfl)

/-- The reply is the last thing to leave the part, and settling the pins sends nothing. -/
theorem lastReply_reply (d : Device) (who cmd st : Nat) (body : List Nat) :
    LastReply (d.reply who cmd st body).settle who cmd st body := rfl

theorem sameButSession_reply (d : Device) (who cmd st : Nat) (body : List Nat) :
    SameButSession d (d.reply who cmd st body) who :=
  ⟨rfl, rfl, rfl, rfl, rfl, rfl, rfl, rfl, rfl, rfl, rfl, rfl, rfl, rfl, rfl, rfl, rfl, rfl, rfl, rfl, rfl, rfl,
    fun n hn => d.reply_session_ne who cmd st n body hn⟩

section
variable {s : State} {i : Instr} {f : Device → Device} {d' : Device} {who code st : Nat} {body : List Nat} {p : Device → Prop}

/-- A command that ends in its reply answers with it, and keeps what holds of the device whatever its sessions, its pins and what
has left it. -/
theorem answers_of_reply (hs : Runs s) (he : exec i s = .next (s.upd f)) (hf : f s.dev = d'.reply who code st body)
    (hp : ∀ bcp out pins, p { d' with bcp := bcp, out := out, pins := pins }) : Answers i s who code st body p := by
  refine completes_of_upd hs he ?_
  rw [hf]
  exact ⟨hp _ _ _, rfl⟩

/-- A command that only replies only answers. -/
theorem onlyAnswers_of_reply (hs : Runs s) (he : exec i s = .next (s.upd f)) (hf : f s.dev = s.dev.reply who code st body) :
    OnlyAnswers i s who code st body := by
  refine completes_of_upd hs he ?_
  rw [hf]
  exact ⟨sameButSession_reply s.dev who code st body, rfl⟩

end

/-! ### Running an update over a list of numbers -/

/-- What every step keeps holds after all of them. -/
theorem forEach_keeps {P : Device → Prop} {g : Nat → Device → Device} (keep : ∀ n d, P d → P (g n d)) (l : List Nat) :
    ∀ d, P d → P (forEach l g d) := by
  induction l with
  | nil => exact fun _ h => h
  | cons n rest ih => exact fun d h => ih _ (keep n d h)

/-- What the step of a number brings about and every step keeps holds for each number of the list. -/
theorem forEach_establishes {P : Nat → Device → Prop} {g : Nat → Device → Device} (own : ∀ n d, P n (g n d))
    (keep : ∀ k n d, P k d → P k (g n d)) {l : List Nat} {k : Nat} (hk : k ∈ l) : ∀ d, P k (forEach l g d) := by
  induction l with
  | nil => cases hk
  | cons n rest ih =>
    intro d
    rcases List.mem_cons.mp hk with rfl | hk
    · exact forEach_keeps (keep k) rest _ (own k d)
    · exact ih hk _

/-! ### Firmware delivery (R532 to R536) -/

section
variable {d : Device} {who key : Nat} {ok : Bool} {data : List Byte} {h : FwHeader}

/-- FW_OPEN refuses a header of another length (R465). -/
theorem Device.fwOpen_of_length (hm : MaySend d who 0x0050 .owner) (hl : data.length ≠ 512) :
    d.fwOpen who data key ok = d.reply who 0x0050 stLength [] :=
  Device.cmd_eq_reply hm (if_pos hl)

variable (hm : MaySend d who 0x0050 .owner) (hl : data.length = 512) (hh : readFwHeader data key ok = h)
  (hr : h.reservedZero = true) (hf : h.fieldsOk = true) (ho : h.offsetsOk = true)
  (hn : d.sec.fw.st = .none) (ha : d.sec.activation = none)
include hm hl hh hr hf ho hn ha

theorem Device.fwOpen_of_key (hk : h.keyHash ≠ d.sec.vendorAnchor) :
    d.fwOpen who data key ok = d.reply who 0x0050 stNotAuthorised [] :=
  Device.cmd_eq_reply hm (by simp [hl, hh, hr, hf, ho, hn, ha, hk])

theorem Device.fwOpen_of_signature (hk : h.keyHash = d.sec.vendorAnchor) (hv : h.signatureOk = false) :
    d.fwOpen who data key ok =
      (d.secFlag fun s => { s with sigFailCount := satInc s.sigFailCount, sigFail := true }).reply who 0x0050 stSignature [] :=
  Device.cmd_eq_reply hm (by simp [hl, hh, hr, hf, ho, hn, ha, hk, hv])

theorem Device.fwOpen_of_rollback (hk : h.keyHash = d.sec.vendorAnchor) (hv : h.signatureOk = true)
    (hb : d.sec.svnsOk h = false) :
    d.fwOpen who data key ok = (d.secFlag fun s => { s with rollback := true }).reply who 0x0050 stRollback [] :=
  Device.cmd_eq_reply hm (by simp [hl, hh, hr, hf, ho, hn, ha, hk, hv, hb])

theorem Device.fwOpen_of_valid (hk : h.keyHash = d.sec.vendorAnchor) (hv : h.signatureOk = true)
    (hb : d.sec.svnsOk h = true) (hver : d.sec.fwVersion ≤ h.version) :
    d.fwOpen who data key ok = (d.updSec fun s =>
      { s with fw := { FwConv.reset with st := .receiving, header := some h, touchedAt := d.real } }).reply who 0x0050 stOK [1] :=
  Device.cmd_eq_reply hm (by
    simp [hl, hh, hr, hf, ho, hn, ha, hk, hv, hb, Nat.not_lt.mpr hver, Device.updSec, Security.fwCode])

end

section
variable {d : Device} {who off digest : Nat} {data : List Byte} {h : FwHeader}

/-- The conversation once a block is stored (R534): its bytes, and its units where they had not come before. -/
def FwConv.stored (c : FwConv) (now off : Nat) (data : List Byte) : FwConv :=
  { c with
    buf := memWrite c.buf off data, touchedAt := now,
    units := c.units ++ ((List.range (data.length / 64)).map fun i => off / 64 + i).filter fun u => !c.units.contains u }

/-- A component that still misses units waits for them (R534). -/
theorem Device.fwPart_of_missing {k : Nat} {p : FwComponent} (h : d.sec.fw.partFull p = false) :
    d.fwPart k digest p = (stOK, [], d) := by simp [Device.fwPart, h]

/-- A complete component of another digest is received again (R534). -/
theorem Device.fwPart_of_mismatch {k : Nat} {p : FwComponent} (h : d.sec.fw.partFull p = true) (hd : digest ≠ p.digest) :
    d.fwPart k digest p = (stDigest, [p.type], d.updSec fun s => { s with fw := { s.fw with
      units := s.fw.units.filter fun u => !(decide (p.offset / 64 ≤ u) && decide (u < (p.offset + p.length) / 64)) } }) := by
  simp [Device.fwPart, h, hd]

/-- A component is verified (R534). -/
def Device.verifyPart (d : Device) (k : Nat) : Device :=
  d.updSec fun s => { s with fw := { s.fw with verified := s.fw.verified ||| 2 ^ k } }

/-- A complete component of the digest that its header gives is verified. -/
theorem Device.fwPart_of_match {k : Nat} {p : FwComponent} (h : d.sec.fw.partFull p = true) (hd : digest = p.digest)
    (hv : d.sec.fw.verified ||| 2 ^ k ≠ 7) : d.fwPart k digest p = (stOK, [], d.verifyPart k) := by
  rw [Device.fwPart, if_neg (by simp [h]), if_pos hd]
  exact congrArg (fun x => (stOK, [], x)) (if_neg hv)

/-- The last component to be verified starts the writing (R535). -/
theorem Device.fwPart_of_last {k : Nat} {p : FwComponent} (h : d.sec.fw.partFull p = true) (hd : digest = p.digest)
    (hv : d.sec.fw.verified ||| 2 ^ k = 7) : d.fwPart k digest p = (stOK, [], (d.verifyPart k).startWriting) := by
  rw [Device.fwPart, if_neg (by simp [h]), if_pos hd]
  exact congrArg (fun x => (stOK, [], x)) (if_pos hv)

/-- A block of a component not yet verified is stored, then the component is judged as it stands with it. -/
theorem Device.fwBlock_of_fwPart {st : Nat} {body : List Nat} {d' : Device} (hm : MaySend d who 0x0051 .owner)
    (hh : d.sec.fw.header = some h) (hs : d.sec.fw.st = .receiving) (h1 : 1 ≤ data.length) (hl : data.length ≠ 0xFFFF)
    (hb : data.length ≤ (d.session who).blockSize) (hp : off + data.length ≤ h.payloadLength)
    (hk : h.partAt off = h.partAt (off + data.length - 1)) (ho : off % 64 = 0) (hd : data.length % 64 = 0)
    (hv : bit d.sec.fw.verified (h.partAt off) = false)
    (hx : (d.updSec fun s => { s with fw := s.fw.stored d.real off data }).fwPart (h.partAt off) digest (h.part (h.partAt off)) =
      (st, body, d')) :
    d.fwBlock who h.version h.build off data.length data digest = d'.reply who 0x0051 st body :=
  Device.cmd_eq_reply hm (by
    rw [← hx]
    simp [hh, hs, Nat.one_le_iff_ne_zero.mp h1, hl, Nat.not_lt.mpr hb, Nat.not_lt.mpr hp, ← hk, ho, hd, Device.updSec, hv,
      FwConv.stored])

/-- FW_STATUS of the image of the conversation (R536). -/
theorem Device.fwStatus_of_header (hm : MaySend d who 0x0052 .observer) (hh : d.sec.fw.header = some h)
    (hs : d.sec.fw.st ≠ .none) :
    d.fwStatus who h.version h.build = d.reply who 0x0052 stOK [d.sec.fwCode, h.version, h.build, 64 * d.sec.fw.units.length,
      d.sec.fw.verified, d.sec.fw.flashWritten, d.sec.fw.failStatus, d.qWord] :=
  Device.cmd_eq_reply hm (by simp [hh, hs])

/-- FW_STATUS of an image that is not under way. -/
theorem Device.fwStatus_of_other {version build : Nat} (hm : MaySend d who 0x0052 .observer)
    (ho : d.sec.fw.st = .none ∨ ∀ h, d.sec.fw.header = some h → ¬ (h.version = version ∧ h.build = build)) :
    d.fwStatus who version build = d.reply who 0x0052 stOK [0] := by
  refine Device.cmd_eq_reply hm ?_
  cases hh : d.sec.fw.header with
  | none => simp only [hh]
  | some h =>
    have other : ¬ (h.version = version ∧ h.build = build ∧ d.sec.fw.st ≠ .none) := by
      rintro ⟨hv, hb, hs⟩
      rcases ho with ho | ho
      · exact hs ho
      · exact ho h hh ⟨hv, hb⟩
    simp only [hh, if_neg other]

end

/-! ### Activation (R343, R540) -/

/-- What an activation and the streams it ends leave: the security functions, the regions, and admission closed or open. -/
structure KeepsActivation (d d' : Device) : Prop where
  sec : d'.sec = d.sec
  regions : d'.regions = d.regions
  closed : d'.adm.closed = d.adm.closed

theorem KeepsActivation.refl (d : Device) : KeepsActivation d d := ⟨rfl, rfl, rfl⟩

theorem KeepsActivation.trans {a b c : Device} (h : KeepsActivation a b) (k : KeepsActivation b c) : KeepsActivation a c :=
  ⟨k.sec.trans h.sec, k.regions.trans h.regions, k.closed.trans h.closed⟩

theorem keepsActivation_updStreams (l : List Nat) (f : Nat → Device → Device)
    (h : ∀ n d, ∃ g, f n d = d.updStream n g) (d : Device) : KeepsActivation d (forEach l f d) :=
  forEach_keeps (P := KeepsActivation d) (fun n x hx => by
    obtain ⟨g, e⟩ := h n x
    exact hx.trans (e ▸ ⟨rfl, rfl, rfl⟩)) l d (.refl d)

theorem Reports.keepsActivation {d d' : Device} (h : Reports d d') : KeepsActivation d d' := ⟨h.sec, h.regions, h.closed⟩

theorem Reports.stream {d d' : Device} (h : Reports d d') (k : Nat) : d'.stream k = d.stream k := by
  simp only [Device.stream, h.streams]

theorem Device.breach_keepsActivation (d : Device) (cause unit : Nat) (l : List Nat) :
    KeepsActivation d (d.breach cause unit l) := by
  unfold Device.breach Device.clearFlags
  dsimp only
  split
  · exact .refl d
  · refine KeepsActivation.trans ?_ (Device.notice_reports _ _ _ _ _).keepsActivation
    split
    · exact keepsActivation_updStreams _ _ (fun _ _ => ⟨_, rfl⟩) d
    · exact .refl d

/-- A breach clears the guarantee flag of every live stream that it names (R342). -/
theorem Device.breach_guarantee (d : Device) {cause unit k : Nat} {l : List Nat} (hc : clearsFlag cause = true) (hk : k ∈ l)
    (hs : (d.stream k).st ≠ .free) : ((d.breach cause unit l).stream k).guarantee = false := by
  have named : k ∈ l.filter fun s => (d.stream s).st ≠ .free := by simp [hk, hs]
  have cleared : (((d.clearFlags cause (l.filter fun s => (d.stream s).st ≠ .free)).stream k)).guarantee = false := by
    rw [Device.clearFlags, if_pos hc]
    refine forEach_establishes (P := fun k d => (d.stream k).guarantee = false) (fun n d => by simp) (fun k n d h => ?_) named d
    by_cases e : k = n
    · simp [e]
    · simpa [e] using h
  rw [Device.breach, if_neg (List.ne_nil_of_mem named), (Device.notice_reports _ _ _ _ _).stream]
  exact cleared

/-- A stream keeps its state or enters RELEASING. -/
theorem Device.toReleasing_st (d : Device) (n k : Nat) :
    ((d.toReleasing n).stream k).st = (d.stream k).st ∨ ((d.toReleasing n).stream k).st = .releasing := by
  by_cases e : k = n
  · subst e
    simp only [Device.toReleasing, Device.stream_updStream_same]
    split <;> simp
  · exact .inl (by simp [Device.toReleasing, e])

theorem Device.toReleasing_st_same (d : Device) (n : Nat) :
    ((d.toReleasing n).stream n).st = .free ∨ ((d.toReleasing n).stream n).st = .releasing := by
  simp only [Device.toReleasing, Device.stream_updStream_same]
  split
  · assumption
  · exact .inr rfl

/-- Every stream of a list that is not FREE is RELEASING once the list is released (R314). -/
theorem stream_forEach_toReleasing (d : Device) {l : List Nat} {k : Nat} (hk : k ∈ l) (hs : (d.stream k).st ≠ .free) :
    ((forEach l (fun s d => d.toReleasing s) d).stream k).st = .releasing := by
  have not_free := forEach_keeps (P := fun d => (d.stream k).st ≠ .free) (g := fun s d => d.toReleasing s)
    (fun n d h => by rcases d.toReleasing_st n k with e | e <;> simp [e, h]) l d hs
  have ended := forEach_establishes (P := fun k d => (d.stream k).st = .free ∨ (d.stream k).st = .releasing)
    (g := fun s d => d.toReleasing s) (fun n d => d.toReleasing_st_same n)
    (fun k n d h => by rcases d.toReleasing_st n k with e | e <;> simp [e, h]) hk d
  exact ended.resolve_left not_free

/-- The device of an activation, before its streams end: admission is closed. -/
def Device.activating (d : Device) (a : Activation) : Device :=
  { d with sec := { d.sec with activation := some a }, adm := { d.adm with closed := true, draining := true } }

/-- An activation that waits for no stream: Q is the first frame boundary two milliseconds on (R540). -/
def Activation.atOnce (now : Nat) : Activation := { drain := false, q := some (boundaryFrom (now + msTc 2)), limitAt := now }

/-- The device of an activation at once, its live streams RELEASING. -/
def Device.releasedNow (d : Device) : Device :=
  forEach d.liveStreams (fun s d => d.toReleasing s) (d.activating (.atOnce d.clk.now))

theorem Device.beginActivation_now (d : Device) (limit : Nat) (hm : d.sec.mode ≠ .recovery) :
    d.beginActivation 1 limit = d.releasedNow.breach 0x05 unitPackage d.liveStreams := by
  simp only [Device.beginActivation, if_neg hm]
  rfl

/-- Where every entry of the table is FREE, so is every stream. -/
theorem st_tget_of_all_free (t : Table Stream) (k : Nat) (h : (t.all fun e => decide (e.2.st = .free)) = true) :
    (tget .reset t k).st = .free := by
  induction t with
  | nil => rfl
  | cons e rest ih =>
    simp only [List.all_cons, Bool.and_eq_true, decide_eq_true_eq] at h
    obtain ⟨first, others⟩ := h
    unfold tget
    split
    · exact first
    · exact ih others

theorem Device.liveStreams_of_noStream {d : Device} (h : d.noStream = true) : d.liveStreams = [] :=
  List.filter_eq_nil_iff.mpr fun k _ => by simp [Device.stream, st_tget_of_all_free _ k h]

/-- A drain with no stream to wait for knows its Q at once. -/
theorem Device.beginActivation_drained (d : Device) (limit : Nat) (hm : d.sec.mode ≠ .recovery) (hn : d.noStream = true) :
    d.beginActivation 0 limit = d.activating
      { drain := true, q := some (boundaryFrom d.clk.now), limitAt := d.clk.now + msTc limit } := by
  have live : Device.liveStreams { d with adm := { d.adm with closed := true, draining := true } } = [] :=
    Device.liveStreams_of_noStream (d := { d with adm := { d.adm with closed := true, draining := true } }) hn
  have noStream : Device.noStream { d with
      sec := { d.sec with activation := some { drain := true, q := none, limitAt := d.clk.now + msTc limit } },
      adm := { d.adm with closed := true, draining := true } } = true := hn
  simp [Device.beginActivation, hm, live, forEach, Device.updSec, Device.settleDrain, noStream, Device.activating]

section
variable {d : Device} {who option limit : Nat} (hm : MaySend d who 0x0053 .owner) (ho : option ≤ 1)
  (hl : option = 0 → 1 ≤ limit ∧ limit ≤ 10000)
include hm ho hl

theorem Device.activateFw_of_notStaged (hs : d.sec.fw.st ≠ .staged) :
    d.activateFw who option limit true = d.reply who 0x0053 stWrongState [] :=
  Device.cmd_eq_reply hm (by
    rw [if_neg (by simp), if_neg (by omega), if_pos hs])

theorem Device.activateFw_of_busy (hs : d.sec.fw.st = .staged) (ha : d.sec.activation.isSome = true) :
    d.activateFw who option limit true = d.reply who 0x0053 stBusy [] :=
  Device.cmd_eq_reply hm (by
    rw [if_neg (by simp), if_neg (by omega), if_neg (not_not_intro hs), if_pos ha])

theorem Device.activateFw_of_staged (hs : d.sec.fw.st = .staged) (ha : d.sec.activation = none) :
    d.activateFw who option limit true =
      (d.beginActivation option limit).reply who 0x0053 stOK [(d.beginActivation option limit).qWord] :=
  Device.cmd_eq_reply hm (by
    rw [if_neg (by simp), if_neg (by omega), if_neg (not_not_intro hs), if_neg (by simp [ha])])

end

/-! ### Attestation (R519) -/

theorem Device.attest_of_length {d : Device} {who n nonce : Nat} (hm : MaySend d who 0x0054 .observer) (hl : n ≠ 32) :
    d.attest who n nonce = d.reply who 0x0054 stLength [] :=
  Device.cmd_eq_reply hm (if_pos hl)

/-- The statement of R519 under a signature; the free value that gave it is used up. -/
theorem Device.attest_eq {d : Device} {who nonce : Nat} (hm : MaySend d who 0x0054 .observer) :
    d.attest who 32 nonce = (takeFree 768 d).2.reply who 0x0054 stOK
      [d.tb.st.code,
       2 ^ 24 + d.sec.lifeCode * 2 ^ 22 + d.sec.mode.code * 2 ^ 20 + d.sec.grade * 2 ^ 16 + d.liveDies * 2 ^ 8,
       d.sec.anchorWord, d.sec.deviceId, d.pab.bootId, d.mer, nonce, svnWord d.sec.svnRun, svnWord d.sec.arb,
       d.sec.fwVersion, d.sec.fwBuild, d.sec.measLoader, d.sec.measHub, d.sec.measDie, (takeFree 768 d).1] :=
  Device.cmd_eq_reply hm (if_neg (not_not_intro rfl))

/-- A reply after a value that the spec leaves open is used up. -/
theorem sameButSession_takeFree_reply (d : Device) (w who cmd st : Nat) (body : List Nat) :
    SameButSession d ((takeFree w d).2.reply who cmd st body).settle who :=
  sameButSession_reply (takeFree w d).2 who cmd st body

/-! ### Sessions that close (R458) -/

@[simp] theorem Device.closeSession_sec (d : Device) (n reason : Nat) : (d.closeSession n reason).sec = d.sec := by
  unfold Device.closeSession
  split
  · exact (d.emit_reports _).sec
  · rfl

@[simp] theorem Device.closeSession_regions (d : Device) (n reason : Nat) : (d.closeSession n reason).regions = d.regions := by
  unfold Device.closeSession
  split
  · exact (d.emit_reports _).regions
  · rfl

@[simp] theorem Device.closeSession_slots_length (d : Device) (n reason : Nat) :
    (d.closeSession n reason).mm.slots.length = d.mm.slots.length := by
  unfold Device.closeSession
  split
  · exact (List.length_map _).trans (congrArg (fun m => m.slots.length) (d.emit_reports _).mm)
  · rfl

/-- What has left the part stays when a session closes. -/
theorem Device.mem_closeSession_out {d : Device} {n reason : Nat} {o : Out} (h : o ∈ d.out) :
    o ∈ (d.closeSession n reason).out := by
  unfold Device.closeSession
  split
  · exact (d.emit_reports _).out.subset h
  · exact h

@[simp] theorem Device.closeSession_inUse_same (d : Device) (n reason : Nat) :
    ((d.closeSession n reason).session n).inUse = false := by
  unfold Device.closeSession
  split
  · exact congrArg Session.inUse (tget_tset_same _ _ n Session.reset)
  · rename_i h
    simpa using h

@[simp] theorem Device.closeSession_session_ne (d : Device) (n reason k : Nat) (h : k ≠ n) :
    (d.closeSession n reason).session k = d.session k := by
  unfold Device.closeSession
  split
  · exact (tget_tset_ne _ _ n k _ h).trans (d.emit_session_ne _ k (by simpa [Out.session] using Ne.symm h))
  · rfl

/-! ### Anchors (R511 to R515) -/

theorem Security.anchor_setAnchor_same {s : Security} {i : Nat} (f : Anchor → Anchor) (h : i < s.anchors.length) :
    (s.setAnchor i f).anchor i = f (s.anchor i) := by
  simp [Security.anchor, Security.setAnchor, lget, List.getD_eq_getElem?_getD, h]

theorem Security.anchor_setAnchor_ne (s : Security) {i j : Nat} (f : Anchor → Anchor) (h : j ≠ i) :
    (s.setAnchor i f).anchor j = s.anchor j := by
  simp [Security.anchor, Security.setAnchor, lget, List.getD_eq_getElem?_getD, Ne.symm h]

/-- What ANCHOR_SET answers and burns, before a session closes (R512 to R514). -/
def Device.burnAnchor (d : Device) (who : Nat) (b : AnchorBody) (burned : Nat) : Nat × List Nat × Device :=
  match d.anchorCheck who b with
  | some st => (st, [], d)
  | none =>
    if b.op = 0 then d.setAnchor b burned
    else if burned = 0 then (stInternal, [], d.burnFailed)
    else (stOK, [], d.updSec fun s => s.setAnchor b.slot fun a => { a with revoked := true })

/-- The open sessions rooted in a slot (R515). -/
def Device.rootedIn (d : Device) (slot : Nat) : List Nat :=
  (List.range 8).filter fun n => (d.session n).inUse && decide ((d.session n).anchor = slot)

theorem Device.mem_rootedIn {d : Device} {slot n : Nat} :
    n ∈ d.rootedIn slot ↔ n < 8 ∧ (d.session n).inUse = true ∧ (d.session n).anchor = slot := by
  simp [Device.rootedIn]

/-- The sessions that ANCHOR_SET closes after its reply, from the device before it and with its reply (R512, R515). -/
def Device.closeRooted (before after : Device) (who slot : Nat) : Device :=
  if before.sec.claim && !after.sec.claim then (takeFree 32 after).2.closeSession who (takeFree 32 after).1
  else if !(before.sec.anchor slot).revoked && (after.sec.anchor slot).revoked then
    forEach (after.rootedIn slot) (fun n d => d.closeSession n 2) after
  else after

theorem Device.anchorSet_of_burn {d d' : Device} {who burned st : Nat} {body : List Nat} {b : AnchorBody}
    (hm : MaySend d who 0x0055 .owner) (hb : d.burnAnchor who b burned = (st, body, d')) :
    d.anchorSet who b burned = d.closeRooted (d'.reply who 0x0055 st body) who b.slot := by
  rw [← Device.cmd_eq_reply (op := fun x => x.burnAnchor who b burned) hm hb]
  rfl

/-- No session closes where CLAIM mode does not end and no slot is revoked. -/
theorem Device.closeRooted_none {d x : Device} {who slot : Nat} (hc : d.sec.claim = false)
    (hr : (x.sec.anchor slot).revoked = (d.sec.anchor slot).revoked) : d.closeRooted x who slot = x := by
  simp [Device.closeRooted, hc, hr]

/-- The session of a claim closes as CLAIM mode ends. -/
theorem Device.closeRooted_claim {d x : Device} {who slot : Nat} (hc : d.sec.claim = true) (hx : x.sec.claim = false) :
    d.closeRooted x who slot = (takeFree 32 x).2.closeSession who (takeFree 32 x).1 := by
  simp [Device.closeRooted, hc, hx]

/-- The sessions rooted in a slot close as it is revoked. -/
theorem Device.closeRooted_revoked {d x : Device} {who slot : Nat} (hc : d.sec.claim = false)
    (hr : (d.sec.anchor slot).revoked = false) (hx : (x.sec.anchor slot).revoked = true) :
    d.closeRooted x who slot = forEach (x.rootedIn slot) (fun n d => d.closeSession n 2) x := by
  simp [Device.closeRooted, hc, hr, hx]

section
variable {d : Device} {who burned : Nat} {b : AnchorBody}

theorem Device.burnAnchor_of_refused {st : Nat} (h : d.anchorCheck who b = some st) :
    d.burnAnchor who b burned = (st, [], d) := by simp [Device.burnAnchor, h]

theorem Device.burnAnchor_of_set (h : d.anchorCheck who b = none) (ho : b.op = 0) (hb : 3 ≤ burned) :
    d.burnAnchor who b burned = (stOK, [], d.updSec fun s =>
      { s.setAnchor b.slot fun a => { a with hash := b.hash, ceiling := b.ceiling, present := true } with
        lifecycle := .owned, claim := false }) := by
  simp only [Device.burnAnchor, h, if_pos ho, Device.setAnchor, if_neg (Nat.not_lt.mpr hb)]

/-- A burn of hash, CEILING or PRESENT that fails loses the slot (R514). -/
theorem Device.burnAnchor_of_lost (h : d.anchorCheck who b = none) (ho : b.op = 0) (hb : burned < 3) :
    d.burnAnchor who b burned = (stInternal, [], (d.updSec fun s => s.setAnchor b.slot fun a =>
      { a with lost := true, hash := if 1 ≤ burned then b.hash else a.hash,
               ceiling := if burned = 2 then b.ceiling else a.ceiling }).burnFailed) := by
  simp only [Device.burnAnchor, h, if_pos ho, Device.setAnchor, if_pos hb]

theorem Device.burnAnchor_of_revoke (h : d.anchorCheck who b = none) (ho : b.op = 1) (hb : 1 ≤ burned) :
    d.burnAnchor who b burned =
      (stOK, [], d.updSec fun s => s.setAnchor b.slot fun a => { a with revoked := true }) := by
  simp only [Device.burnAnchor, h, if_neg (show b.op ≠ 0 by omega), if_neg (Nat.one_le_iff_ne_zero.mp hb)]

/-- In CLAIM mode the one ANCHOR_SET that passes sets slot 0 to the root of its own session (R512). -/
theorem Device.anchorCheck_claim (h : d.anchorCheck who b = none) (hc : d.sec.claim = true) :
    b.op = 0 ∧ b.slot = 0 ∧ b.ceiling = 0 ∧ b.hash = (d.session who).root := by
  by_contra other
  rw [Device.anchorCheck, if_pos ⟨hc, other⟩] at h
  cases h

/-- A slot that may be revoked is in force and roots another session than the one that asks (R513). -/
theorem Device.anchorCheck_revoke (h : d.anchorCheck who b = none) (ho : b.op = 1) :
    (d.sec.anchor b.slot).revoked = false ∧ (d.session who).anchor ≠ b.slot := by
  simp only [Device.anchorCheck] at h
  split_ifs at h with _ _ _ _ set _ refused
  · omega
  · simp only [Anchor.inForce, Bool.or_eq_true, decide_eq_true_eq, not_or] at refused
    simp_all

end

/-- A session that closes leaves the security functions, the regions, the number of model slots and what has left. -/
theorem forEach_closeSession_frame (l : List Nat) (reason : Nat) (d : Device) :
    let x := forEach l (fun n d => d.closeSession n reason) d
    x.sec = d.sec ∧ x.regions = d.regions ∧ x.mm.slots.length = d.mm.slots.length ∧ ∀ o, o ∈ d.out → o ∈ x.out :=
  forEach_keeps (P := fun x => x.sec = d.sec ∧ x.regions = d.regions ∧ x.mm.slots.length = d.mm.slots.length ∧
      ∀ o, o ∈ d.out → o ∈ x.out)
    (fun n x ⟨sec, regions, slots, out⟩ =>
      ⟨by simp [sec], by simp [regions], by simp [slots], fun o h => Device.mem_closeSession_out (out o h)⟩)
    l d ⟨rfl, rfl, rfl, fun _ h => h⟩

theorem inUse_forEach_closeSession {l : List Nat} {k : Nat} (hk : k ∈ l) (reason : Nat) (d : Device) :
    ((forEach l (fun n d => d.closeSession n reason) d).session k).inUse = false :=
  forEach_establishes (P := fun k d => (d.session k).inUse = false) (fun n d => by simp)
    (fun k n d h => by
      by_cases e : k = n
      · simp [e]
      · simpa [e] using h) hk d

theorem session_forEach_closeSession {l : List Nat} {k : Nat} (hk : k ∉ l) (reason : Nat) (d : Device) :
    (forEach l (fun n d => d.closeSession n reason) d).session k = d.session k := by
  induction l generalizing d with
  | nil => rfl
  | cons n rest ih =>
    obtain ⟨hn, hr⟩ := not_or.mp (mt List.mem_cons.mpr hk)
    exact (ih hr _).trans (d.closeSession_session_ne n reason k hn)

/-! ### Keys and the debug lock (R520, R543) -/

/-- The port once its SAK is gone. -/
def Port.withoutSak (p : Port) : Port := { p with sakInstalled := false, sakSci := 0, mkaPeer := none }

theorem Reports.port {d d' : Device} (h : Reports d d') (k : Nat) : d'.port k = d.port k := by simp only [Device.port, h.dp]

/-- A SAK lost is a change of its port and a report (R498). -/
theorem Device.sakLost_reports (d : Device) (p : Nat) : Reports (d.updPort p Port.withoutSak) (d.sakLost p) := by
  unfold Device.sakLost
  dsimp only
  split
  · exact Device.portEvent_reports _ _ _ _ _
  · exact .refl _

theorem Device.sakInstalled_sakLost_same (d : Device) (p : Nat) : ((d.sakLost p).port p).sakInstalled = false := by
  rw [(d.sakLost_reports p).port, Device.port_updPort_same]
  rfl

theorem Device.port_sakLost_ne (d : Device) {p k : Nat} (h : k ≠ p) : (d.sakLost p).port k = d.port k := by
  rw [(d.sakLost_reports p).port, Device.port_updPort_ne _ _ _ _ h]

@[simp] theorem Device.endMka_sec (d : Device) : d.endMka.sec = d.sec :=
  forEach_keeps (P := fun x => x.sec = d.sec) (fun p x h => ((x.sakLost_reports p).sec.trans rfl).trans h) _ d rfl

/-- Where no key is left, no port keeps a SAK. -/
theorem Device.endMka_sakInstalled {d : Device} (h : d.sec.keystore = []) {p : Nat} (hp : p < 16) :
    (d.endMka.port p).sakInstalled = false := by
  have all : p ∈ (List.range 16).filter fun p => decide (d.caksOf p = []) := by simp [hp, Device.caksOf, h]
  refine forEach_establishes (P := fun p d => (d.port p).sakInstalled = false) (fun n d => d.sakInstalled_sakLost_same n)
    (fun k n d h => ?_) all d
  by_cases e : k = n
  · subst e
    exact d.sakInstalled_sakLost_same k
  · rw [d.port_sakLost_ne e]
    exact h

/-- The key store without the records of one CKN of a port (R520). -/
def Security.keysBut (s : Security) (b : KeyBody) : List CakRecord :=
  s.keystore.filter fun k => !(decide (k.port = b.port) && decide (k.ckn = b.ckn))

theorem Security.mem_keysBut {s : Security} {b : KeyBody} {k : CakRecord} :
    k ∈ s.keysBut b ↔ k ∈ s.keystore ∧ ¬ (k.port = b.port ∧ k.ckn = b.ckn) := by
  simp only [Security.keysBut, List.mem_filter, Bool.not_eq_true', ← Bool.decide_and, decide_eq_false_iff_not]

/-- The key store written once more. -/
def Device.putKeys (d : Device) (l : List CakRecord) : Device :=
  d.updSec fun s => { s with keystore := l, keystoreWrites := s.keystoreWrites + 1 }

section
variable {d : Device} {who : Nat} {b : KeyBody} (hm : MaySend d who 0x0056 .owner) (hr : b.reservedZero = true)
include hm hr

theorem Device.keySet_add (ho : b.op = 0) (hl : b.length = 72) (hp : b.port ≤ 15) (h1 : 1 ≤ b.cknLen) (h32 : b.cknLen ≤ 32)
    (hn : (d.sec.keystore.filter fun k => k.port = b.port).length < 2) :
    d.keySet who b = (d.putKeys (d.sec.keysBut b ++
      [{ port := b.port, ckn := b.ckn, cak := b.cak, prio := b.prio, debugKey := d.sec.mode = .debug }])).reply
        who 0x0056 stOK [] := by
  have room : ¬ 2 ≤ ((d.sec.keysBut b).filter fun k => k.port = b.port).length :=
    Nat.not_le.mpr (((List.filter_sublist.filter _).length_le).trans_lt hn)
  refine Device.cmd_eq_reply hm ?_
  dsimp only
  rw [if_neg (by omega), if_neg (by simp [hr]), if_neg (by omega), if_neg (by omega), if_neg (by omega)]
  exact if_neg room

theorem Device.keySet_remove (ho : b.op = 1) (hl : b.length = 40) (hp : b.port ≤ 15) (h1 : 1 ≤ b.cknLen) (h32 : b.cknLen ≤ 32)
    (hk : ∃ k, k ∈ d.sec.keystore ∧ k.port = b.port ∧ k.ckn = b.ckn) :
    d.keySet who b = (d.putKeys (d.sec.keysBut b)).endMka.reply who 0x0056 stOK [] := by
  have held : (d.sec.keystore.any fun k => decide (k.port = b.port) && decide (k.ckn = b.ckn)) = true := by simpa using hk
  refine Device.cmd_eq_reply hm ?_
  dsimp only
  rw [if_neg (by omega), if_neg (by simp [hr]), if_neg (by omega), if_neg (by omega), if_pos ho, if_pos held]
  rfl

theorem Device.keySet_clear (ho : b.op = 2) (hl : b.length = 40) :
    d.keySet who b = (d.putKeys []).endMka.reply who 0x0056 stOK [] := by
  refine Device.cmd_eq_reply hm ?_
  dsimp only
  rw [if_neg (by omega), if_neg (by simp [hr]), if_neg (by omega), if_pos ho]
  rfl

end

section
variable {d : Device} {who : Nat} {t : DebugToken} (hm : MaySend d who 0x0057 .owner) (hl : t.length = 256)
  (hr : t.reservedZero = true) (hs : t.scope ≤ 3) (hg : t.magic = 0xD0F1DB60) (hi : t.deviceId = d.sec.deviceId)
  (hb : t.bootId = d.pab.bootId)
include hm hl hr hs hg hi hb

theorem Device.debugUnlock_of_key (hk : t.keyHash ≠ d.sec.vendorAnchor) :
    d.debugUnlock who t = d.reply who 0x0057 stNotAuthorised [] :=
  Device.cmd_eq_reply hm (by simp [hl, hr, hs, hg, hi, hb, hk])

theorem Device.debugUnlock_of_signature (hk : t.keyHash = d.sec.vendorAnchor) (hv : t.signatureOk = false) :
    d.debugUnlock who t = d.reply who 0x0057 stSignature [] :=
  Device.cmd_eq_reply hm (by simp [hl, hr, hs, hg, hi, hb, hk, hv])

theorem Device.debugUnlock_of_valid (hk : t.keyHash = d.sec.vendorAnchor) (hv : t.signatureOk = true) :
    d.debugUnlock who t = (d.updSec fun s => { s with debugNext := some t.scope }).reply who 0x0057 stOK [] :=
  Device.cmd_eq_reply hm (by simp [hl, hr, hs, hg, hi, hb, hk, hv])

end
end Sys2Proof.Machine

/-! SUPPORT. The security commands whose effect goes beyond their reply: streams that end, sessions that close, keys that go. -/
namespace Sys2Proof.Machine

open Sys2Proof.Safety

theorem Device.inUse_of_served {d : Device} {who : Nat} (h : d.served who = true) : (d.session who).inUse = true := by
  simp only [Device.served, Bool.and_eq_true] at h
  exact h.1.2

/-- The device with a slot revoked and the reply sent, before a session closes. -/
def Device.revokedReply (d : Device) (who slot : Nat) : Device :=
  (d.updSec fun s => s.setAnchor slot fun a => { a with revoked := true }).reply who 0x0055 stOK []

/-- The sessions rooted in a slot are those of the device before the revocation. -/
theorem Device.mem_rootedIn_revokedReply {d : Device} {who slot n : Nat} :
    n ∈ (d.revokedReply who slot).rootedIn slot ↔ n < 8 ∧ (d.session n).inUse = true ∧ (d.session n).anchor = slot := by
  simp [Device.mem_rootedIn, Device.revokedReply, (Device.reply_reports _ _ _ _ _).inUse]

theorem Device.not_mem_rootedIn_revokedReply {d : Device} {who slot n : Nat} (h : (d.session n).anchor ≠ slot) :
    n ∉ (d.revokedReply who slot).rootedIn slot := by
  simp [Device.mem_rootedIn_revokedReply, h]

section
variable {s : State} {who : Nat}

/-- ACTIVATE at once: Q two milliseconds on, admission closed, every stream ending without its guarantee (R540). -/
theorem answers_activate_now {n : Nat} (hs : Runs s) (hm : MaySend s.dev who 0x0053 .owner) (hst : s.dev.sec.fw.st = .staged)
    (ha : s.dev.sec.activation = none) (hr : s.dev.sec.mode ≠ .recovery) :
    Answers (.activate who 1 n true) s who 0x0053 stOK [merOf (boundaryFrom (s.dev.clk.now + msTc 2))] fun d =>
      (∃ a, d.sec.activation = some a ∧ a.q = some (boundaryFrom (s.dev.clk.now + msTc 2)) ∧ a.drain = false) ∧
      d.adm.closed = true ∧
      (∀ k, k ∈ s.dev.liveStreams → (d.stream k).st = .releasing ∧ (d.stream k).guarantee = false) ∧
      d.regions = s.dev.regions := by
  have kept : KeepsActivation (s.dev.activating (.atOnce s.dev.clk.now))
      (s.dev.releasedNow.breach 0x05 unitPackage s.dev.liveStreams) :=
    (keepsActivation_updStreams _ _ (fun _ _ => ⟨_, rfl⟩) _).trans (Device.breach_keepsActivation _ _ _ _)
  have answer := Device.activateFw_of_staged (limit := n) hm le_rfl (by simp) hst ha
  rw [Device.beginActivation_now _ _ hr, Device.qWord, kept.sec] at answer
  refine answers_of_reply hs rfl answer fun _ _ _ =>
    ⟨⟨.atOnce s.dev.clk.now, congrArg Security.activation kept.sec, rfl, rfl⟩, kept.closed, fun k hk => ?_, kept.regions⟩
  have live : (s.dev.stream k).st ≠ .free := of_decide_eq_true (List.mem_filter.mp hk).2
  have ended : (s.dev.releasedNow.stream k).st = .releasing := stream_forEach_toReleasing _ hk live
  obtain ⟨g, l, e⟩ := (s.dev.releasedNow.breach_breaches 0x05 unitPackage s.dev.liveStreams).stream k
  exact ⟨(congrArg Stream.st e).trans ended, Device.breach_guarantee _ rfl hk (by simp [ended])⟩

variable {k : Nat} {b : AnchorBody} (hs : Runs s) (hm : MaySend s.dev who 0x0055 .owner)
include hs hm

/-- An ANCHOR_SET out of CLAIM mode that revokes no slot ends in its reply. -/
theorem answers_anchorSet {st : Nat} {body : List Nat} {d' : Device} {p : Device → Prop} (hc : s.dev.sec.claim = false)
    (hx : s.dev.burnAnchor who b k = (st, body, d'))
    (hr : (d'.sec.anchor b.slot).revoked = (s.dev.sec.anchor b.slot).revoked)
    (hp : ∀ bcp out pins, p { d' with bcp := bcp, out := out, pins := pins }) :
    Answers (.anchorSet who b k) s who 0x0055 st body p :=
  answers_of_reply hs rfl ((Device.anchorSet_of_burn hm hx).trans (Device.closeRooted_none hc hr)) hp

/-- ANCHOR_SET with OP 0 that burns all three: the slot is set, the part is owned, the other slots stay (R512, R514). -/
theorem answers_anchorSet_set (hc : s.dev.sec.claim = false) (hn : s.dev.sec.anchors.length = 4) (hl : b.slot < 4)
    (ha : s.dev.anchorCheck who b = none) (ho : b.op = 0) (hk : 3 ≤ k) :
    Answers (.anchorSet who b k) s who 0x0055 stOK [] fun d =>
      (d.sec.anchor b.slot).present = true ∧ (d.sec.anchor b.slot).hash = b.hash ∧ (d.sec.anchor b.slot).ceiling = b.ceiling ∧
      d.sec.lifecycle = .owned ∧ (∀ j, j ≠ b.slot → d.sec.anchor j = s.dev.sec.anchor j) ∧ d.regions = s.dev.regions := by
  have set := Security.anchor_setAnchor_same (s := s.dev.sec)
    (fun a => { a with hash := b.hash, ceiling := b.ceiling, present := true }) (hn ▸ hl)
  have revoked := congrArg Anchor.revoked set
  exact answers_anchorSet hs hm hc (Device.burnAnchor_of_set ha ho hk) revoked fun _ _ _ =>
    ⟨congrArg Anchor.present set, congrArg Anchor.hash set, congrArg Anchor.ceiling set, rfl,
      fun j hj => Security.anchor_setAnchor_ne _ _ hj, rfl⟩

/-- ANCHOR_SET with OP 0 whose burn fails: the slot is lost and the failure counted (R514, R526). -/
theorem answers_anchorSet_lost (hc : s.dev.sec.claim = false) (hn : s.dev.sec.anchors.length = 4) (hl : b.slot < 4)
    (ha : s.dev.anchorCheck who b = none) (ho : b.op = 0) (hk : k < 3) :
    Answers (.anchorSet who b k) s who 0x0055 stInternal [] fun d =>
      (d.sec.anchor b.slot).lost = true ∧ d.sec.otpBurnFailCount = satInc s.dev.sec.otpBurnFailCount ∧
      d.sec.otpBurnFail = true := by
  have lost := Security.anchor_setAnchor_same (s := s.dev.sec) (fun a =>
    { a with lost := true, hash := if 1 ≤ k then b.hash else a.hash, ceiling := if k = 2 then b.ceiling else a.ceiling })
    (hn ▸ hl)
  have revoked := congrArg Anchor.revoked lost
  exact answers_anchorSet hs hm hc (Device.burnAnchor_of_lost ha ho hk) revoked fun _ _ _ =>
    ⟨congrArg Anchor.lost lost, rfl, rfl⟩

/-- ANCHOR_SET with OP 1: the slot is revoked, and the sessions rooted in it close after the reply (R513, R515). -/
theorem completes_anchorSet_revoke (hc : s.dev.sec.claim = false) (hn : s.dev.sec.anchors.length = 4) (hl : b.slot < 4)
    (ha : s.dev.anchorCheck who b = none) (ho : b.op = 1) (hk : 1 ≤ k) :
    Completes (.anchorSet who b k) s fun d =>
      (d.sec.anchor b.slot).revoked = true ∧ Out.reply who 0x0055 stOK [] ∈ d.out ∧ (d.session who).inUse = true ∧
      (∀ n, n < 8 → (s.dev.session n).inUse = true → (s.dev.session n).anchor = b.slot → (d.session n).inUse = false) ∧
      (∀ n, n ≠ who → (s.dev.session n).anchor ≠ b.slot → d.session n = s.dev.session n) ∧
      d.mm.slots.length = s.dev.mm.slots.length ∧ d.regions = s.dev.regions := by
  obtain ⟨notRevoked, notRooted⟩ := Device.anchorCheck_revoke ha ho
  have revoked : ((s.dev.revokedReply who b.slot).sec.anchor b.slot).revoked = true :=
    congrArg Anchor.revoked (Security.anchor_setAnchor_same (fun a => { a with revoked := true }) (hn ▸ hl))
  obtain ⟨sec, regions, slots, out⟩ :=
    forEach_closeSession_frame ((s.dev.revokedReply who b.slot).rootedIn b.slot) 2 (s.dev.revokedReply who b.slot)
  have answer := (Device.anchorSet_of_burn hm (Device.burnAnchor_of_revoke ha ho hk)).trans
    (Device.closeRooted_revoked hc notRevoked revoked)
  refine completes_of_upd (f := fun d => d.anchorSet who b k) hs rfl ?_
  rw [answer]
  refine ⟨?_, out _ (List.mem_cons_self ..), ?_, fun n h8 used rooted => ?_, fun n hw other => ?_, slots, regions⟩
  · exact (congrArg (fun s => (s.anchor b.slot).revoked) sec).trans revoked
  · obtain ⟨served, -, -⟩ := hm
    have kept := session_forEach_closeSession (Device.not_mem_rootedIn_revokedReply (who := who) notRooted) 2
      (s.dev.revokedReply who b.slot)
    have stillOpen : ((s.dev.revokedReply who b.slot).session who).inUse = true :=
      ((Device.reply_reports _ _ _ _ _).inUse who).trans (Device.inUse_of_served served)
    exact (congrArg Session.inUse kept).trans stillOpen
  · exact inUse_forEach_closeSession (Device.mem_rootedIn_revokedReply.mpr ⟨h8, used, rooted⟩) 2 _
  · exact (session_forEach_closeSession (Device.not_mem_rootedIn_revokedReply other) 2 _).trans
      (Device.reply_session_ne _ _ _ _ _ _ hw)

/-- ANCHOR_SET in CLAIM mode: slot 0 takes the root of the session, CLAIM mode ends and the session closes (R512). -/
theorem completes_anchorSet_claim (hc : s.dev.sec.claim = true) (hn : s.dev.sec.anchors.length = 4)
    (ha : s.dev.anchorCheck who b = none) (hk : 3 ≤ k) :
    Completes (.anchorSet who b k) s fun d =>
      (d.sec.anchor 0).present = true ∧ (d.sec.anchor 0).hash = (s.dev.session who).root ∧ (d.sec.anchor 0).ceiling = 0 ∧
      d.sec.lifecycle = .owned ∧ d.sec.claim = false ∧ (d.session who).inUse = false := by
  obtain ⟨op, slot, ceiling, hash⟩ := Device.anchorCheck_claim ha hc
  have set : ((s.dev.sec.setAnchor 0 fun a => { a with hash := b.hash, ceiling := b.ceiling, present := true }).anchor 0) =
      { s.dev.sec.anchor 0 with hash := b.hash, ceiling := b.ceiling, present := true } :=
    Security.anchor_setAnchor_same _ (by simp [hn])
  refine completes_of_upd (f := fun d => d.anchorSet who b k) hs rfl ?_
  rw [Device.anchorSet_of_burn hm (Device.burnAnchor_of_set ha op hk), Device.closeRooted_claim hc rfl, slot]
  have sec := Device.closeSession_sec (takeFree 32 ((s.dev.updSec fun s =>
    { s.setAnchor 0 fun a => { a with hash := b.hash, ceiling := b.ceiling, present := true } with
      lifecycle := .owned, claim := false }).reply who 0x0055 stOK [])).2 who
  have anchor := fun r => (congrArg (fun s => s.anchor 0) (sec r)).trans set
  exact ⟨congrArg Anchor.present (anchor _), (congrArg Anchor.hash (anchor _)).trans hash,
    (congrArg Anchor.ceiling (anchor _)).trans ceiling, congrArg Security.lifecycle (sec _), congrArg Security.claim (sec _),
    Device.closeSession_inUse_same _ _ _⟩

end

section
variable {s : State} {who : Nat} {b : KeyBody} (hs : Runs s) (hm : MaySend s.dev who 0x0056 .owner) (hr : b.reservedZero = true)
include hs hm hr

/-- KEY_SET with OP 1 takes the records of one CKN of a port from the key store, and no other (R520). -/
theorem answers_keySet_remove (ho : b.op = 1) (hl : b.length = 40) (hp : b.port ≤ 15) (h1 : 1 ≤ b.cknLen) (h32 : b.cknLen ≤ 32)
    (hk : ∃ k, k ∈ s.dev.sec.keystore ∧ k.port = b.port ∧ k.ckn = b.ckn) :
    Answers (.keySet who b) s who 0x0056 stOK [] fun d =>
      ∀ k, k ∈ d.sec.keystore ↔ k ∈ s.dev.sec.keystore ∧ ¬ (k.port = b.port ∧ k.ckn = b.ckn) := by
  have answer := Device.keySet_remove hm hr ho hl hp h1 h32 hk
  have keystore := congrArg Security.keystore (s.dev.putKeys (s.dev.sec.keysBut b)).endMka_sec
  exact answers_of_reply hs rfl answer fun _ _ _ k => keystore ▸ Security.mem_keysBut

/-- KEY_SET with OP 2 empties the key store, and every port loses its SAK (R520). -/
theorem answers_keySet_clear (ho : b.op = 2) (hl : b.length = 40) :
    Answers (.keySet who b) s who 0x0056 stOK [] fun d =>
      d.sec.keystore = [] ∧ ∀ p, p < 16 → (d.port p).sakInstalled = false := by
  have answer := Device.keySet_clear hm hr ho hl
  have sec := (s.dev.putKeys []).endMka_sec
  have noSak (p : Nat) (hp : p < 16) := Device.endMka_sakInstalled (d := s.dev.putKeys []) rfl hp
  generalize (s.dev.putKeys []).endMka = x at answer sec noSak
  exact answers_of_reply hs rfl answer fun _ _ _ => ⟨congrArg Security.keystore sec, noSak⟩

end
end Sys2Proof.Machine

namespace Sys2Proof

open Machine

/-- Settles O57: each command of a session that may send it is an equation, the reply that its checks give and the device that it
leaves; revocation, CLAIM mode, activation at once and the key store go beyond their reply by the lemmas about them. -/
theorem firmwareAndSecurityCommands : Obligations.FirmwareAndSecurityCommands := by
  refine ⟨?_, ?_, ?_, ?_, ?_, ?_, ?_, ?_, ?_, ?_⟩
  · intro s who key ok data hs hm hl h hr hf ho hn ha
    refine ⟨fun hk => ?_, fun hk hv => ?_, fun hk hv hb => ?_, fun hk hv hb hver => ?_⟩
    · exact onlyAnswers_of_reply hs rfl (Device.fwOpen_of_key hm hl rfl hr hf ho hn ha hk)
    · exact answers_of_reply hs rfl (Device.fwOpen_of_signature hm hl rfl hr hf ho hn ha hk hv) fun _ _ _ => ⟨rfl, rfl, rfl⟩
    · exact answers_of_reply hs rfl (Device.fwOpen_of_rollback hm hl rfl hr hf ho hn ha hk hv hb) fun _ _ _ => ⟨rfl, rfl⟩
    · exact answers_of_reply hs rfl (Device.fwOpen_of_valid hm hl rfl hr hf ho hn ha hk hv hb hver) fun _ _ _ =>
        ⟨rfl, rfl, rfl, rfl, rfl, rfl⟩
  · intro s who key ok data hs hm hl
    exact onlyAnswers_of_reply hs rfl (Device.fwOpen_of_length hm hl)
  · intro s who off digest data h hs hm hh hst h1 hn hb hp hk ho hd hv us c
    have block {st : Nat} {body : List Nat} {d' : Device} :=
      Device.fwBlock_of_fwPart (digest := digest) (st := st) (body := body) (d' := d') hm hh hst h1 hn hb hp hk ho hd hv
    refine ⟨fun hf => ?_, fun hf hg => ?_, fun hf hg => ?_⟩
    · exact answers_of_reply hs rfl (block (Device.fwPart_of_missing hf)) fun _ _ _ => ⟨rfl, rfl, rfl⟩
    · exact answers_of_reply hs rfl (block (Device.fwPart_of_mismatch hf hg)) fun _ _ _ => ⟨hst, rfl⟩
    · by_cases last : s.dev.sec.fw.verified ||| 2 ^ h.partAt off = 7
      · rw [if_pos last]
        exact answers_of_reply hs rfl (block (Device.fwPart_of_last hf hg last)) fun _ _ _ => ⟨rfl, rfl⟩
      · rw [if_neg last]
        exact answers_of_reply hs rfl (block (Device.fwPart_of_match hf hg last)) fun _ _ _ => ⟨rfl, hst⟩
  · intro s who v b hs hm
    refine ⟨fun h hh hst hv hb => ?_, fun ho => ?_⟩
    · subst hv hb
      exact onlyAnswers_of_reply hs rfl (Device.fwStatus_of_header hm hh hst)
    · exact onlyAnswers_of_reply hs rfl (Device.fwStatus_of_other hm ho)
  · intro s who n hs hm h1 hn
    refine ⟨fun hst => ?_, fun hst ha => ?_, fun hst ha hr => ?_, fun hst ha hr hno => ?_⟩
    · exact onlyAnswers_of_reply hs rfl (Device.activateFw_of_notStaged hm le_rfl (by simp) hst)
    · exact onlyAnswers_of_reply hs rfl (Device.activateFw_of_busy hm le_rfl (by simp) hst ha)
    · exact answers_activate_now hs hm hst ha hr
    · have answer := Device.activateFw_of_staged hm (Nat.zero_le 1) (fun _ => ⟨h1, hn⟩) hst ha
      rw [Device.beginActivation_drained _ _ hr hno] at answer
      exact answers_of_reply hs rfl answer fun _ _ _ => ⟨⟨_, rfl, rfl, rfl⟩, rfl⟩
  · intro s who n nonce hs hm
    refine ⟨fun hl => onlyAnswers_of_reply hs rfl (Device.attest_of_length hm hl), ?_⟩
    refine completes_of_upd (f := fun d => d.attest who 32 nonce) hs rfl ?_
    rw [Device.attest_eq hm]
    exact ⟨sameButSession_takeFree_reply _ _ _ _ _ _, _, lastReply_reply _ _ _ _ _⟩
  · intro s who k b hs hm hc hn hl
    refine ⟨fun st ha => ?_, fun ha ho hk => ?_, fun ha ho hk => ?_, fun ha ho hk => ?_⟩
    · exact onlyAnswers_of_reply hs rfl ((Device.anchorSet_of_burn hm (Device.burnAnchor_of_refused ha)).trans
        (Device.closeRooted_none hc rfl))
    · exact answers_anchorSet_set hs hm hc hn hl ha ho hk
    · exact answers_anchorSet_lost hs hm hc hn hl ha ho hk
    · exact completes_anchorSet_revoke hs hm hc hn hl ha ho hk
  · intro s who k b hs hm hc hn ha hk
    exact completes_anchorSet_claim hs hm hc hn ha hk
  · intro s who b hs hm hr
    refine ⟨fun ho hl hp h1 h32 hn => ?_, fun ho hl hp h1 h32 hk => ?_, fun ho hl => ?_⟩
    · exact answers_of_reply hs rfl (Device.keySet_add hm hr ho hl hp h1 h32 hn) fun _ _ _ =>
        ⟨⟨_, List.mem_append_right _ (List.mem_singleton_self _), rfl, rfl, rfl, rfl⟩, rfl, rfl, rfl⟩
    · exact answers_keySet_remove hs hm hr ho hl hp h1 h32 hk
    · exact answers_keySet_clear hs hm hr ho hl
  · intro s who t hs hm hl hr hsc hg hi hb
    refine ⟨fun hk => ?_, fun hk hv => ?_, fun hk hv => ?_⟩
    · exact onlyAnswers_of_reply hs rfl (Device.debugUnlock_of_key hm hl hr hsc hg hi hb hk)
    · exact onlyAnswers_of_reply hs rfl (Device.debugUnlock_of_signature hm hl hr hsc hg hi hb hk hv)
    · exact answers_of_reply hs rfl (Device.debugUnlock_of_valid hm hl hr hsc hg hi hb hk hv) fun _ _ _ => ⟨rfl, rfl, rfl⟩

end Sys2Proof
